-- ==== Sys2Proof/Word.lean ====
section
/-! DEFINITION. The word types of the K9 and the plainest arithmetic on them. -/

namespace Sys2Proof

/-- One byte on the wire or in the pool (R6: multi-byte fields are little-endian). -/
abbrev Byte := BitVec 8

/-- A 32-bit register or field (every CSR of the K9 is 32 bits wide). -/
abbrev Word := BitVec 32

/-- A 64-bit identifier: LINK_ID of R250. -/
abbrev Word64 := BitVec 64

/-- A SHA3-256 digest, an identity digest, a nonce or a key name of 32 bytes. -/
abbrev Digest := BitVec 256

/-- A finite map from numbers, as a list with strictly rising keys (handles, ports, addresses). -/
abbrev NMap (α : Type) := List (Nat × α)

end Sys2Proof
end

