-- ==== Sys2Proof/Syntax.lean ====
section
/-! DEFINITION. The commands of the block: one constructor of Instr per row of spec/opcode_table.json, in the
table's order, and the operand records they carry. -/

namespace Sys2Proof

/-- The Nirod message a command came in (R359, R368): its session, its SEQ, and the index of the first faulty item
found when its items are read under R360 (none: every item is well formed). Session 0 carries SEQ 0. -/
structure Ctx where
  session : Nat
  seq : Nat
  badItem : Option Nat
deriving DecidableEq, Repr

/-- A GFP packet header as it arrives (Table TX-1), without its OPCODE byte, which the command's row names. `lport`
is the ingress logical port; `resv` gathers the reserved bits in the order of the table (zero in a well-formed
packet); `crc` is HDR_CRC as received. -/
structure Hdr where
  lport : Nat
  release : Bool
  retry : Bool
  resv : Nat
  tc : Nat
  tag : Nat
  src : Nat
  dst : Nat
  compId : Nat
  epoch : Nat
  status : Nat
  length : Nat
  lines : Nat
  addr : Nat
  seq : Nat
  crc : BitVec 32
deriving DecidableEq, Repr

/-- A whole GFP packet: opcode, header and payload. -/
structure Packet where
  opcode : Nat
  hdr : Hdr
  data : List Byte
deriving DecidableEq, Repr

/-- One packet of a Nirod message (Table CM-1). `hdrCrcOk` is the verdict of HDR_CRC, `resvZero` that every reserved
field is zero, `tagOk` the verdict of the AES-256-GCM tag of a secure session; `stream` is the plaintext. -/
structure NirodPart where
  hdrCrcOk : Bool
  version : Nat
  reply : Bool
  more : Bool
  encrypted : Bool
  resvZero : Bool
  opcode : Nat
  session : Nat
  seq : Nat
  length : Nat
  part : Nat
  tagOk : Bool
  stream : List Byte
deriving DecidableEq, Repr

/-- COMP_CREATE parameters (Table CP-1). -/
structure CompReq where
  compId : Nat
  ownerId : Digest
  form : Nat
  ordering : Nat
  isolation : Nat
  confidential : Nat
  pressMask : BitVec 8
  stackMask : BitVec 8
  fpMask : BitVec 32
  leaseS : Nat
  memberLeaseMs : Nat
  drainUs : Nat
deriving DecidableEq, Repr

/-- EXTENT_CREATE parameters (Table MT-2, R30); an optional item left out is none. -/
structure ExtentReq where
  base : Nat
  size : Nat
  tier : Nat
  layout : Nat
  protection : Nat
  durability : Nat
  affinity : Option Nat
  hint : Nat
  slotLines : Option Nat
  homeTrays : BitVec 24
  replica : Option (BitVec 32)
deriving DecidableEq, Repr

/-- KV_CREATE parameters (Table MT-9, R54). -/
structure KvReq where
  key : BitVec 128
  extent : Nat
  objOffset : Nat
  layers : Nat
  heads : Nat
  pages : Nat
  dim : Nat
  bf16 : Bool
  /-- none: the item is absent, and its default of 30 s applies (Table MT-9) -/
  leaseS : Option Nat
deriving DecidableEq, Repr

/-- A routing-table entry as written by ROUTE_SET (Table TP-3); `resvZero` says every reserved field is zero. -/
structure RouteReq where
  node : Nat
  valid : Bool
  isLocal : Bool
  count : Nat
  esc : Nat
  members : List Nat
  resvZero : Bool
deriving DecidableEq, Repr

/-- A signature as it arrives: the digest of the signing key and the verdict of ML-DSA-44. -/
structure Signed where
  signer : Digest
  ok : Bool
deriving DecidableEq, Repr

/-- A DEBUG_ENTER, REPROVISION or REC_CLEAR token (R327, R329, R421). -/
structure Token where
  target : Nat
  device : Digest
  nonce : Digest
  expiry : Nat
  sig : Signed
deriving DecidableEq, Repr

/-- EXPEL and READMIT parameters (R354). -/
structure ExpelReq where
  node : Nat
  linkId : Word64
  expiry : Nat
  sigs : List Signed
deriving DecidableEq, Repr

/-- One component entry of a manifest (Table FW-1). -/
structure Component where
  ctype : Nat
  resvZero : Bool
  size : Nat
  digest : Digest
deriving DecidableEq, Repr

/-- A firmware manifest (Table FW-1): `pkDigest` is SHA3-256 of SIGNER_PK, `sigOk` the verdict of SIGNATURE and
`digest` the SHA3-256 of the manifest's 4,116 bytes. -/
structure Manifest where
  magic : BitVec 32
  version : Nat
  count : Nat
  svn : Nat
  resvZero : Bool
  release : Nat
  bytes : Nat
  signerId : Digest
  pkDigest : Digest
  sigOk : Bool
  comps : List Component
  digest : Digest
deriving DecidableEq, Repr

/-- The trailer of a flit (Table LK-6) and the verdict of its CHECK (and of its FEC codeword). -/
structure Trailer where
  seq : Nat
  ftype : Nat
  ackSeq : Nat
  ackValid : Bool
  nak : Bool
  resv : Nat
  vc : Nat
  sop : Bool
  eop : Bool
  keyClass : Nat
  endOffset : Nat
  creditVc : Nat
  creditTotal : Nat
  fecCorrected : Bool
  fecUncorr : Bool
  checkOk : Bool
deriving DecidableEq, Repr

/-- A PROBE or PROBE answer record (Table TP-1). -/
structure ProbeRec where
  linkId : Word64
  node : Nat
  member : Nat
  resvZero : Bool
  assigned : Bool
  lab : Bool
  crypt : Bool
  coherence : Bool
  vq : Bool
  attend : Bool
  lport : Nat
  routeEpoch : Nat
  probeSeq : Nat
  sendTime : Nat
deriving DecidableEq, Repr

/-- What the far end states at LINK_INIT (R250, R253, R260, R262, R265): its role (Table LK-2), FEC request,
encryption and fallow capability and its initial credits for VC 0 to 7. -/
structure FarEnd where
  role : Nat
  fecLow : Bool
  crypt : Bool
  fallow : Bool
  credits : List Nat
deriving DecidableEq, Repr

/-- The geometry a tray bridge returns (R65, Table FM-1), with the factory bad blocks as good blocks per die. -/
structure Geometry where
  dies : Nat
  pageKiB : Nat
  pagesPerBlock : Nat
  ratedCycles : Nat
  goodSb : Nat
  sparePerDie : Nat
  factoryBad : Nat
deriving DecidableEq, Repr

/-- How an access to a tier answered. -/
inductive Answer where
  | ok
  | uncorrectable
deriving DecidableEq, Repr

/-- Which engine a tie-break agrees with (Table FT-2). -/
inductive TieResult where
  | checker
  | engine
  | neither
  | noEngine
deriving DecidableEq, Repr

/-- A JTAG instruction (R328, R430). -/
inductive Jtag where
  | bypass
  | idcode
  | samplePreload
  | extest
  | extestPulse
  | extestTrain
  | perfTrace
  | csrScanRo
  | memRead
  | coreHalt
  | csrWrite
  | scanChain
deriving DecidableEq, Repr

/-- Traffic on the control port that is not a Nirod packet (R358). -/
inductive NetKind where
  | neighbourDiscovery
  | icmpEcho
  | arp
  | other
deriving DecidableEq, Repr

/-- A unit that changes its image in an activation or a revert (Table FW-6). -/
inductive SwUnit where
  | core (n : Nat)
  | press (n : Nat)
  | tile (n : Nat)
  | stack (n : Nat)
  | tray (n : Nat)
deriving DecidableEq, Repr

/-- The commands, one per row of the opcode table. -/
inductive Instr where
  | powerOn
  | powerLoss
  | resetNAssert (lowNs : Nat)
  | resetNRelease
  | bootStepTimeout
  | wakeNAssert (lowNs : Nat)
  | railsInRange
  | railsRestoreTimeout
  | railUndervoltage (rail lowNs : Nat)
  | ppsInEdge (stamp : Nat)
  | ppsLost
  | evtInChange (pin : Nat) (high : Bool)
  | throttleLevelRise (d0 d1 : Nat)
  | throttleLevelFall (d0 d1 : Nat)
  | thermalTrip (heldNs : Nat)
  | nirodPartReceive (p : NirodPart)
  | partTimeout (session seq : Nat)
  | sessionIdleTimeout (session : Nat)
  | snapshotExpiry (session snap : Nat)
  | sessionOpen (c : Ctx) (cls compId spdm partBytes : Nat)
  | sessionClose (c : Ctx)
  | nop (c : Ctx)
  | deviceInfo (c : Ctx)
  | deviceStateSet (c : Ctx) (target : Nat)
  | deviceReset (c : Ctx)
  | csrRead (c : Ctx) (addrs : List Nat)
  | csrWrite (c : Ctx) (pairs : List (Nat × Word))
  | colophon (c : Ctx) (snap offset : Nat)
  | compCreate (c : Ctx) (r : CompReq)
  | sliceEvictionDone (h : Nat)
  | compDestroy (c : Ctx) (h : Nat)
  | compDestroyDone (h : Nat)
  | compMemberAdd (c : Ctx) (h lport node : Nat)
  | compMemberRemove (c : Ctx) (h lport : Nat) (reclaim : Bool)
  | compRenew (c : Ctx) (h : Nat) (member : Option Nat)
  | compPressSet (c : Ctx) (h : Nat) (mask : BitVec 8)
  | compInfo (c : Ctx) (h : Nat)
  | compMeterRead (c : Ctx) (h : Nat)
  | compStats (c : Ctx) (h : Nat)
  | compObserverSet (c : Ctx) (h : Nat) (digests : List Digest)
  | cohDomainCreate (c : Ctx) (h onchip overflow : Nat)
  | cohDomainDestroy (c : Ctx) (d : Nat)
  | cohAgentAdd (c : Ctx) (d idx node lport hops : Nat)
  | cohAgentRemove (c : Ctx) (d idx : Nat) (reclaim : Bool)
  | cohExtentAttach (c : Ctx) (d e : Nat)
  | cohExtentDetach (c : Ctx) (d e : Nat)
  | cohRecallDone (d : Nat)
  | cohReclaimClear (c : Ctx) (d e : Nat)
  | cohDomainInfo (c : Ctx) (d : Nat)
  | extentCreate (c : Ctx) (h : Nat) (r : ExtentReq)
  | extentDestroy (c : Ctx) (e : Nat)
  | extentHint (c : Ctx) (e first count hint : Nat)
  | extentSeal (c : Ctx) (e : Nat)
  | extentSealDone (e : Nat) (replicaDigest : Digest)
  | extentRevoke (c : Ctx) (e : Nat)
  | extentDrain (c : Ctx) (e : Nat)
  | extentDrainDone (e : Nat)
  | extentAdopt (c : Ctx) (e h : Nat)
  | extentInfo (c : Ctx) (e : Nat)
  | kvCreate (c : Ctx) (r : KvReq)
  | kvPublish (c : Ctx) (k : Nat)
  | kvLookup (c : Ctx) (h : Nat) (key : BitVec 128)
  | kvAcquire (c : Ctx) (k : Nat)
  | kvRelease (c : Ctx) (k : Nat)
  | kvRenew (c : Ctx) (k leaseS : Nat)
  | kvHint (c : Ctx) (k hint : Nat)
  | kvDestroy (c : Ctx) (k : Nat)
  | kvLeaseExpiry (k : Nat)
  | vqCodebookSet (c : Ctx) (h cb addr : Nat)
  | vqCodebookClear (c : Ctx) (h cb : Nat)
  | vqCodebookInfo (c : Ctx) (h : Nat)
  | vqSlotStatus (c : Ctx) (e first count : Nat)
  | reduceGroupCreate (c : Ctx) (h gid press : Nat) (members : List (Nat × Nat)) (parent : Option (Nat × Nat))
  | reduceGroupDestroy (c : Ctx) (h gid : Nat)
  | ledgerOpen (c : Ctx) (h node ring entries depth : Nat) (copy : Option (Nat × Nat))
  | ledgerClose (c : Ctx) (job : Nat)
  | nodeIdSet (c : Ctx) (node : Nat)
  | routeSet (c : Ctx) (first : Nat) (entries : List RouteReq)
  | routeGet (c : Ctx) (first count : Nat)
  | neighbourList (c : Ctx)
  | neighbourAccept (c : Ctx) (lport : Nat)
  | ftManagerSet (c : Ctx) (digests : List Digest) (quorum : Nat) (sigs : List Signed)
  | expel (c : Ctx) (r : ExpelReq)
  | readmit (c : Ctx) (r : ExpelReq)
  | ftExpelList (c : Ctx)
  | ftHealthGet (c : Ctx)
  | spdmGetVersion (c : Ctx)
  | spdmGetCapabilities (c : Ctx)
  | spdmNegotiateAlgorithms (c : Ctx) (common : Bool)
  | spdmGetDigests (c : Ctx)
  | spdmGetCertificate (c : Ctx)
  | spdmChallenge (c : Ctx) (nonce : Digest)
  | spdmGetMeasurements (c : Ctx) (nonce : Digest)
  | spdmKeyExchange (c : Ctx)
  | spdmFinish (c : Ctx) (spdm : Nat) (sig : Signed)
  | spdmKeyUpdate (c : Ctx) (spdm : Nat) (toDevice : Bool)
  | spdmHeartbeat (c : Ctx) (spdm : Nat)
  | spdmEndSession (c : Ctx) (spdm : Nat)
  | secStatus (c : Ctx)
  | secBindkeyGet (c : Ctx) (level : Nat)
  | weightBind (c : Ctx) (h addr : Nat) (sigOk unwrapOk : Bool)
  | weightUnbind (c : Ctx) (h slot : Nat)
  | secImport (c : Ctx) (h bounce len dest : Nat) (slot : Option Nat) (tags : List Bool)
  | secExport (c : Ctx) (h src len bounce : Nat)
  | debugEnter (c : Ctx) (t : Token)
  | debugExit (c : Ctx)
  | reprovision (c : Ctx) (t : Token)
  | fmKeySet (c : Ctx) (slot : Nat) (digest : Digest)
  | evtSubscribe (c : Ctx) (mask : List Nat) (address port : Nat)
  | evtUnsubscribe (c : Ctx) (sub : Nat)
  | evtClaim (c : Ctx) (sub ev : Nat)
  | evtComplete (c : Ctx) (sub ev : Nat)
  | powerStateSet (c : Ctx) (target : Nat)
  | quiesceComplete
  | quiesceTimeout
  | fwUpdateBegin (c : Ctx) (m : Manifest)
  | fwUpdateBlock (c : Ctx) (handle comp offset : Nat) (data : List Byte)
  | fwUpdateVerify (c : Ctx) (handle : Nat)
  | fwActivate (c : Ctx) (handle : Nat)
  | unitSwitchDone (u : SwUnit)
  | switchPhaseTimeout (u : SwUnit)
  | healthConfirm (c : Ctx)
  | confirmWindowExpiry
  | fwUpdateAbort (c : Ctx) (handle : Nat)
  | revertDone (u : SwUnit)
  | fwStatus (c : Ctx)
  | recList (c : Ctx)
  | recRead (c : Ctx) (ids : List Nat)
  | recClear (c : Ctx) (ids : List Nat) (t : Token)
  | ftUnfence (c : Ctx) (press engine : Nat) (sweepOk : Bool)
  | ftInject (c : Ctx) (cls unit leaf start count interval : Nat)
  | rehearsalInjection (handle : Nat)
  | pressReset (c : Ctx) (press : Nat)
  | pressResetDone (press : Nat) (microOk : Bool) (failed : BitVec 5)
  | lockSet (c : Ctx) (addr : Nat) (value : Word)
  | evcSoftSetWrite (c : Ctx) (value : Word)
  | evcPendingClear (c : Ctx) (value : Word) (setInSameCycle : Bool)
  | evcTgtClaimRead (core : Nat)
  | evcTgtCompleteWrite (core : Nat) (value : Word)
  | swHistClear (c : Ctx) (value : Word)
  | swQShaperWrite (c : Ctx) (addr : Nat) (value : Word)
  | furrowSlotWrite (c : Ctx) (slot : Nat) (value : Word)
  | jrnClearPaths (c : Ctx) (value : Word)
  | jrnSelWrite (c : Ctx) (value : Word)
  | recClogSelWrite (c : Ctx) (value : Word)
  | lkPortEnable (c : Ctx) (value : Word)
  | lkPortDisable (c : Ctx) (value : Word)
  | lkSplitSet (c : Ctx) (value : Word)
  | signalDetect (lport : Nat)
  | signalLoss (lport : Nat)
  | detectDone (lport : Nat)
  | laneLockDone (lport : Nat) (polInv : BitVec 8)
  | alignDone (lport : Nat) (linkId : Word64) (farPort : Nat) (reversed orderOk : Bool)
  | equalizeDone (lport preset : Nat)
  | fastEqualizeFail (lport : Nat)
  | linkInitDone (lport : Nat) (far : FarEnd)
  | trainingStepTimeout (lport : Nat)
  | dataFlitReceive (lport : Nat) (t : Trailer) (packets : List Packet)
  | idleFlitReceive (lport : Nat) (t : Trailer)
  | fallowReqReceive (lport : Nat)
  | fallowAckReceive (lport : Nat)
  | keySwitchReceive (lport keyClass : Nat)
  | nakReceive (lport ackSeq : Nat)
  | ackStallTimeout (lport : Nat)
  | nakResendTimeout (lport : Nat)
  | linkKeyEstablished (lport : Nat)
  | rekeyDue (lport : Nat)
  | portIdleTimeout (lport : Nat)
  | fallowLockBurst (lport : Nat)
  | wakeToneReceive (lport : Nat)
  | portWakeDone (lport : Nat)
  | portWakeTimeout (lport : Nat)
  | pressIdleTimeout (press : Nat)
  | pressFallowDone (press : Nat)
  | pressWakeDone (press : Nat)
  | hbmIdleTimeout (stack : Nat)
  | hbmWakeDone (stack : Nat)
  | evcIdleTimeout
  | evcWake
  | eventOffer
  | claimTimeout (ev : Nat)
  | watchdogExpiry (core : Nat)
  | escapeWaitExpiry (lport vc : Nat)
  | spillFetchDone (lport queue : Nat)
  | shaperRefill
  | queueSample
  | egressSend (lport : Nat)
  | furrowSlotChange
  | load (h : Hdr)
  | store (h : Hdr) (data : List Byte)
  | atAdd32 (h : Hdr) (data : List Byte)
  | atAdd64 (h : Hdr) (data : List Byte)
  | atSwap32 (h : Hdr) (data : List Byte)
  | atSwap64 (h : Hdr) (data : List Byte)
  | atCas32 (h : Hdr) (data : List Byte)
  | atCas64 (h : Hdr) (data : List Byte)
  | atMin32 (h : Hdr) (data : List Byte)
  | atMin64 (h : Hdr) (data : List Byte)
  | atMax32 (h : Hdr) (data : List Byte)
  | atMax64 (h : Hdr) (data : List Byte)
  | fence (h : Hdr) (data : List Byte)
  | fenceDequeue (lport : Nat)
  | fenceComplete (lport tag : Nat)
  | fenceDeadline (lport tag : Nat)
  | chReadShared (h : Hdr)
  | chReadOwn (h : Hdr)
  | chUpgrade (h : Hdr)
  | chWriteback (h : Hdr) (data : List Byte)
  | chEvictClean (h : Hdr)
  | snpInvalidateResp (d agent line : Nat) (data : List Byte)
  | snpShareResp (d agent line : Nat) (data : List Byte)
  | snpOwnResp (d agent line : Nat) (data : List Byte)
  | snoopTimeout (d agent line : Nat)
  | gfpResponseReceive (p : Packet)
  | packetForward (p : Packet)
  | responseTimeout (tag : Nat)
  | atomicHoldExpiry (src comp seq : Nat)
  | noRouteWaitExpiry (held : Nat)
  | heldRequestSend (held : Nat)
  | probe (lport : Nat) (r : ProbeRec)
  | probeAnswer (lport : Nat) (r : ProbeRec)
  | probeInterval
  | labNodeCandidate
  | routeUpdateWithdraw (h : Hdr) (epoch count resv : Nat) (nodes : List Nat)
  | routeUpdateRestore (h : Hdr) (epoch count resv : Nat) (nodes : List Nat)
  | routeUpdateAck (h : Hdr)
  | fill (h : Hdr) (d : List Byte)
  | copy (h : Hdr) (d : List Byte)
  | compare (h : Hdr) (d : List Byte)
  | nmReduce (h : Hdr) (d : List Byte)
  | nmLeafDone (op leaf : Nat)
  | allReduce (h : Hdr) (d : List Byte)
  | reduceScatter (h : Hdr) (d : List Byte)
  | reduceToMem (h : Hdr) (d : List Byte)
  | reduceSegment (h : Hdr) (seg data : List Byte)
  | reduceBlockDone (op block : Nat)
  | reduceInstanceTimeout (op : Nat)
  | gather (h : Hdr) (d : List Byte)
  | scatter (h : Hdr) (d : List Byte)
  | filterPredicate (h : Hdr) (d : List Byte)
  | filterThreshold (h : Hdr) (d : List Byte)
  | filterTopk (h : Hdr) (d : List Byte)
  | filterBlockSelect (h : Hdr) (d : List Byte)
  | attend (h : Hdr) (d : List Byte)
  | encode (h : Hdr) (d : List Byte)
  | opSubmitDequeue (op : Nat)
  | opTimeout (op : Nat)
  | seedActivate (press : Nat)
  | seedCompletionReceive (press op index : Nat)
  | drillLeafArrive (seed : Nat) (answer : Answer)
  | blockRefetchDone (seed : Nat) (copy : List Byte)
  | codebookLoadDone (press cb : Nat)
  | chainStart (press : Nat)
  | verdictReady (press engine : Nat) (isMatch : Bool)
  | tieBreakDone (press engine : Nat) (r : TieResult)
  | chainCommit (press engine : Nat)
  | seedDone (seed : Nat)
  | seedFailed (seed : Nat)
  | ledgerWriteApplied (op : Nat) (lost : Bool)
  | scratchpadParityError (press port slot : Nat) (again : Bool)
  | quantumExpiry (press : Nat)
  | switchWindowExpiry (press : Nat)
  | contextScrubDone (press : Nat)
  | sweepPeriodStart
  | sweepPassDone (press engine : Nat) (pass : Bool)
  | healthScoreTick
  | t1AccessDone (e leaf : Nat) (mirror : Bool) (a : Answer)
  | t1LateThreshold (e leaf : Nat)
  | t2LateThreshold (e leaf : Nat)
  | stepDeadlineExpiry (step : Nat)
  | leafCopyDone (e leaf : Nat)
  | writeBackDone (e leaf : Nat)
  | backgroundMoveStart (tray : Nat)
  | mirrorRebuildDone (e chunk : Nat)
  | replicaFetchDone (e leaf : Nat) (ok : Bool)
  | replicaFetchRetry (e leaf : Nat)
  | recencyTick
  | agePass
  | trayAttach (tray : Nat) (g : Geometry)
  | pageReadResult (tray sheaf : Nat) (failed : List Nat)
  | retryStepResult (tray sheaf page : Nat) (ok : Bool)
  | softReadResult (tray sheaf page : Nat) (ok : Bool)
  | pageProgramResult (tray sheaf : Nat) (failedDie : Option Nat)
  | blockEraseResult (tray sb : Nat) (failedDie : Option Nat)
  | pageRelocateResult (tray sheaf : Nat) (failedPage : Option Nat)
  | checkpointDue (tray : Nat)
  | tempReadPoll (tray deciC : Nat)
  | patrolDue (tray sb : Nat)
  | compLeaseExpiry (h : Nat)
  | memberLeaseExpiry (h lport : Nat)
  | drainWindowClose (h : Nat)
  | recorderSample (rec : Nat) (value : Int)
  | recorderFlush
  | extremeFlush
  | coreRestartDone (core : Nat)
  | bridgeFailure
  | jtagInstruction (what : Jtag)
  | trstNAssert
  | neighbourDiscoveryEchoArp (k : NetKind)
  | bootStepDone (ok : Bool) (unit : Nat) (detail : Nat)
  | shadowLoadDone (badComponent : Option Nat)
  | secImportExportDone
  | macRekeyDone (e : Nat)
  | transmitterHoldOffEnd (lport : Nat)
deriving DecidableEq, Repr

end Sys2Proof
end

