-- ==== Sys2Proof/Config.lean ====
section
/-! DEFINITION. What one device fixes at manufacture, and the free values: constants with no body, so that no
proof can lean on a number for a value the spec leaves open. -/

namespace Sys2Proof

/-- The two ordering codes of Table SC-1 (R1). -/
inductive OrderingCode where
  | lc
  | lh
deriving DecidableEq, Repr

/-- The ordering code fitted (R1): any claim holds for both. -/
opaque Config.isLh : Bool

/-- SHA3-256 (R305, R376, R410, R422 and others). The spec names the standard function and does not define it; a
claim holds for every function. Log entry 10. -/
opaque Config.sha3 : List Byte → Digest

/-- This device's identity digest for an identity generation, SHA3-256 over its DIK public key (R305, Table SE-1). -/
opaque Config.identity : Nat → Digest

/-- Measurement block 0, the digest of the boot ROM of silicon revision A1 (Table SE-2). -/
opaque Config.romDigest : Digest

/-- Digests of the images a device leaves the factory with: components 1 to 5, and 6 for their manifest. Log entry 3. -/
opaque Config.factoryDigest : Nat → Digest

/-- Rylvojan's firmware-authority digest, fixed in the boot ROM (R398). -/
opaque Config.firmwareAuthority : Digest

/-- Rylvojan's return-authority digest, fixed in the boot ROM (R327, R421). -/
opaque Config.returnAuthority : Digest

/-- Random numbers the K9 draws: nonces (R327), update handles (R408), sampling draws (R337), keys. The counter of
State picks a fresh one at each draw. Log entry 11. -/
opaque Config.random : Nat → Nat

/-- The ML-DSA-44 signature of this device's DIK of an identity generation over a message (R307, R308). The spec names
the standard algorithm; a claim holds for every function. Log entry 10. -/
opaque Config.dikSign : Nat → List Byte → List Byte

/-- The device certificate chain in slot 0 of the package flash for an identity generation (R305). -/
opaque Config.certificate : Nat → List Byte

/-- The ML-KEM-768 binding public key of a level, for an identity seed (R306): 1,184 bytes. Log entry 10. -/
opaque Config.bindingKey : Nat → List Byte

/-- AES-256-GCM plaintext of a ciphertext under a data key that a digest names, with its IV (R312). Log entry 10. -/
opaque Config.gcmOpen : Digest → List Byte → List Byte → List Byte

/-- AES-256-GCM ciphertext and tag of a plaintext under a data key, with the IV and the additional data (R312).
Log entry 10. -/
opaque Config.gcmSeal : Digest → List Byte → List Byte → List Byte → List Byte × List Byte

/-- A value the spec leaves open, drawn with the counter of State. Log entry 12. -/
opaque Config.freeValue : Nat → Nat

/-- The FP32 sum that the fixed adder tree of R98 gives for one row of exact products. The spec does not give the
tree's shape, so the function is free. The products are (mantissa, exponent) pairs. Log entry 13. -/
opaque Config.adderTree : List (Int × Int) → BitVec 32

/-- Is the tray bridge of TRAY_n's SerDes reference clock in range for tile t (R429)? -/
opaque Config.tileClockOk : Nat → Bool

end Sys2Proof
end

