-- ==== Sys2Proof/Machine/Map.lean ====
section
/-! DEFINITION. Finite maps from numbers, kept as lists with strictly rising keys, and the byte-string helpers the
wire formats use (R6: little-endian). -/

namespace Sys2Proof

/-- The value under `k`, if any. -/
def NMap.look {α : Type} : NMap α → Nat → Option α
  | [], _ => none
  | (j, v) :: m, k => if j = k then some v else NMap.look m k

/-- `m` with `v` under `k`; the keys stay strictly rising. -/
def NMap.put {α : Type} : NMap α → Nat → α → NMap α
  | [], k, v => [(k, v)]
  | (j, w) :: m, k, v =>
    if k < j then (k, v) :: (j, w) :: m else if j = k then (k, v) :: m else (j, w) :: NMap.put m k v

/-- `m` without `k`. -/
def NMap.del {α : Type} : NMap α → Nat → NMap α
  | [], _ => []
  | (j, w) :: m, k => if j = k then m else (j, w) :: NMap.del m k

/-- Is there a value under `k`? -/
def NMap.has {α : Type} (m : NMap α) (k : Nat) : Bool := (m.look k).isSome

/-- Change the value under `k`, if there is one. -/
def NMap.change {α : Type} (m : NMap α) (k : Nat) (f : α → α) : NMap α :=
  match m.look k with
  | some v => m.put k (f v)
  | none => m

/-- Change every value. -/
def NMap.each {α β : Type} (m : NMap α) (f : Nat → α → β) : NMap β := List.map (fun p => (p.1, f p.1 p.2)) m

/-- Keep the entries that satisfy `f`. -/
def NMap.keep {α : Type} (m : NMap α) (f : Nat → α → Bool) : NMap α := List.filter (fun p => f p.1 p.2) m

/-- The keys, in rising order. -/
def NMap.keys {α : Type} (m : NMap α) : List Nat := List.map Prod.fst m

/-- The values, in the order of their keys. -/
def NMap.vals {α : Type} (m : NMap α) : List α := List.map Prod.snd m

/-- A number under `k`, 0 where there is none. -/
def NMap.num (m : NMap Nat) (k : Nat) : Nat := (m.look k).getD 0

/-- The first key whose entry satisfies `f`. -/
def NMap.findKey {α : Type} (m : NMap α) (f : Nat → α → Bool) : Option Nat :=
  (List.find? (fun p => f p.1 p.2) m).map Prod.fst

/-- The lowest number from `lo` up, within `n` numbers, that is no key of `m`. -/
def NMap.lowestFree {α : Type} (m : NMap α) (lo n : Nat) : Option Nat :=
  (List.range' lo n).find? (fun k => !m.has k)

/-- The keys of a map rise strictly: the canonical form of a map. -/
def NMap.wf {α : Type} (m : NMap α) : Bool :=
  match m with
  | [] => true
  | p :: t => t.all (fun q => decide (p.1 < q.1)) && NMap.wf t

/-- The sum of `f` over a list. -/
def sumOf {α : Type} (l : List α) (f : α → Nat) : Nat := l.foldl (fun n a => n + f a) 0

/-- How many elements satisfy `f`. -/
def countIf {α : Type} (l : List α) (f : α → Bool) : Nat := (l.filter f).length

/-- The `n` low bytes of `v`, byte 0 first (R6). -/
def leBytes : Nat → Nat → List Byte
  | 0, _ => []
  | n + 1, v => BitVec.ofNat 8 v :: leBytes n (v / 256)

/-- The number whose bytes are `b`, byte 0 first (R6). -/
def leNat : List Byte → Nat
  | [] => 0
  | b :: t => b.toNat + 256 * leNat t

/-- Bytes `off` to `off + n - 1` of `b` as a little-endian number. -/
def leAt (b : List Byte) (off n : Nat) : Nat := leNat ((b.drop off).take n)

/-- Bits `hi` to `lo` of `v`. -/
def bits (v hi lo : Nat) : Nat := (v / 2 ^ lo) % 2 ^ (hi + 1 - lo)

/-- Bit `i` of `v`. -/
def bit (v i : Nat) : Bool := v / 2 ^ i % 2 = 1

/-- 1 for true. -/
def b2n (b : Bool) : Nat := if b then 1 else 0

/-- Rounded-up division. -/
def ceilDiv (a b : Nat) : Nat := (a + b - 1) / b

/-- The set bits of `m` below `n`, ascending. -/
def setBits (m n : Nat) : List Nat := (List.range n).filter (fun i => bit m i)

/-- The 32 bytes of a digest, byte 0 first. -/
def digestBytes (d : Digest) : List Byte := leBytes 32 d.toNat

/-- The digest whose bytes are `b`. -/
def digestOf (b : List Byte) : Digest := BitVec.ofNat 256 (leNat b)

end Sys2Proof
end

