-- ==== Sys2Proof/Machine/Crc.lean ====
section
/-! DEFINITION. The CRC-32 of R113, which covers packet headers (R190), descriptors, Nirod headers (Table CM-1),
mirror records (Table SW-4) and the member choice (R273). -/

namespace Sys2Proof

/-- One bit of the reflected CRC. -/
def crcBit (c : BitVec 32) : BitVec 32 := if c.getLsbD 0 then (c >>> 1) ^^^ 0xEDB88320#32 else c >>> 1

/-- One byte of the reflected CRC. -/
def crcByte (c : BitVec 32) (b : Byte) : BitVec 32 :=
  crcBit (crcBit (crcBit (crcBit (crcBit (crcBit (crcBit (crcBit (c ^^^ b.zeroExtend 32))))))))

/-- IEEE 802.3 CRC-32: polynomial 0x04C1_1DB7 reflected, initial value and final XOR 0xFFFF_FFFF (R113). -/
def crc32 (l : List Byte) : BitVec 32 := l.foldl crcByte 0xFFFFFFFF#32 ^^^ 0xFFFFFFFF#32

/-- Bytes 0 to 27 of a GFP header (Table TX-1). The reserved bits come from `resv`, lowest first: byte 1 [5:3],
bytes 4-5 [15:12], bytes 6-7 [15:12], bytes 12-13 [15:13], byte 14 [7:5], byte 15, ADDR [63:57]. -/
def Hdr.bytes (op : Nat) (h : Hdr) : List Byte :=
  leBytes 1 op
    ++ leBytes 1 (b2n h.release * 128 + b2n h.retry * 64 + bits h.resv 2 0 * 8 + h.tc % 8)
    ++ leBytes 2 h.tag
    ++ leBytes 2 (bits h.resv 6 3 * 4096 + h.src % 4096)
    ++ leBytes 2 (bits h.resv 10 7 * 4096 + h.dst % 4096)
    ++ leBytes 2 h.compId
    ++ leBytes 1 h.epoch
    ++ leBytes 1 h.status
    ++ leBytes 2 (bits h.resv 13 11 * 8192 + h.length % 8192)
    ++ leBytes 1 (bits h.resv 16 14 * 32 + h.lines % 32)
    ++ leBytes 1 (bits h.resv 24 17)
    ++ leBytes 8 (bits h.resv 31 25 * 2 ^ 57 + h.addr % 2 ^ 57)
    ++ leBytes 4 h.seq

/-- HDR_CRC of a header (R190). -/
def Hdr.goodCrc (op : Nat) (h : Hdr) : BitVec 32 := crc32 (h.bytes op)

/-- The header with HDR_CRC as it must be. -/
def Hdr.sealed (op : Nat) (h : Hdr) : Hdr := { h with crc := h.goodCrc op }

/-- A header of zeros, to be filled in. -/
def Hdr.zero : Hdr where
  lport := 0
  release := false
  retry := false
  resv := 0
  tc := 0
  tag := 0
  src := 0
  dst := 0
  compId := 0
  epoch := 0
  status := 0
  length := 0
  lines := 0
  addr := 0
  seq := 0
  crc := 0

/-- Bytes of a packet as R235 counts them. -/
def Packet.size (p : Packet) : Nat := 32 + p.hdr.length

/-- 256-byte cells of a packet. -/
def Packet.cells (p : Packet) : Nat := ceilDiv p.size 256

/-- Flits a packet takes when it starts in a new flit (Table LK-6: 240 transport bytes each). -/
def Packet.flits (p : Packet) : Nat := ceilDiv p.size 240

/-- Virtual channel of an opcode (Tables TX-2, SW-1): 0 REQ, 1 RSP, 2 SNP, 3 MGT. -/
def vcOf (op : Nat) : Nat :=
  if op = 0x60 ∨ op = 0x61 ∨ op = 0xE0 ∨ op = 0xE1 then 3
  else if 0x50 ≤ op ∧ op ≤ 0x52 then 2
  else if 0x80 ≤ op then 1
  else 0
end Sys2Proof
end

