-- ==== Sys2Proof/Machine/Regs.lean ====
section
/-! DEFINITION. The register map (R63, R81, R110, R139, R160, R180, R205, R223, R244, R266, R281, R304, R332, R357,
R378, R395, R396, R416, R423, R436): every register address with how it is held. -/

namespace Sys2Proof.Machine

/-- Whose counter a counter register shows. -/
inductive CtrScope where
  | dev
  | comp
  | tray
  | lport
  | dom
  | press
deriving DecidableEq, Repr

/-- How a register is held. `cfg`: a register software writes whole, its writable bits, whether one of its fields is
RWL (R9), its reset value. `ctr`: a 32-bit counter; `lo`, `hi`: the halves of a 64-bit one. `lock`: a LOCK register.
`own`: a register with a rule of its own. -/
inductive RegKind where
  | cfg (mask : Nat) (rwl : Bool) (reset : Nat)
  | ctr (sc : CtrScope)
  | lo (sc : CtrScope)
  | hi (sc : CtrScope)
  | lock
  | own
deriving DecidableEq, Repr

/-- Registers of R63, Table MT-11. -/
def Regs.pool : NMap RegKind :=
  [(0x200000, .cfg 0xFF true 25),
   (0x200004, .cfg 0xFFFF true 10),
   (0x200008, .cfg 0xFFFFFF true 5000),
   (0x20000C, .cfg 0xFF true 90),
   (0x200010, .own),
   (0x200014, .own),
   (0x200018, .own),
   (0x200020, .cfg 0xFF false 0),
   (0x200024, .own),
   (0x200028, .own),
   (0x200040, .ctr .comp),
   (0x200044, .ctr .comp),
   (0x200048, .ctr .comp),
   (0x20004C, .ctr .comp),
   (0x200050, .ctr .comp),
   (0x200054, .ctr .comp),
   (0x200058, .ctr .comp),
   (0x20005C, .ctr .comp),
   (0x200060, .ctr .comp),
   (0x200064, .ctr .comp),
   (0x200068, .ctr .comp),
   (0x20006C, .ctr .comp),
   (0x2000FC, .lock)]

/-- Registers of R81, Table FM-7. -/
def Regs.flash : NMap RegKind :=
  [(0x240000, .cfg 0xFFFFFFFF true 134217984),
   (0x240004, .cfg 0xFFFF true 300),
   (0x240008, .cfg 0xFFFFF true 262264),
   (0x24000C, .cfg 0xFFFF true 168),
   (0x240010, .cfg 0xFFFFFFFF true 200000),
   (0x240020, .cfg 0x1F false 0),
   (0x240024, .own),
   (0x240028, .own),
   (0x24002C, .own),
   (0x240030, .own),
   (0x240034, .own),
   (0x240040, .ctr .tray),
   (0x240044, .ctr .tray),
   (0x240048, .ctr .tray),
   (0x24004C, .ctr .tray),
   (0x240050, .ctr .tray),
   (0x240054, .ctr .tray),
   (0x240058, .ctr .tray),
   (0x24005C, .ctr .tray),
   (0x240060, .ctr .tray),
   (0x240064, .ctr .tray),
   (0x240068, .ctr .tray),
   (0x2400FC, .lock)]

/-- Registers of R205, Table TX-7. -/
def Regs.tx : NMap RegKind :=
  [(0x280000, .cfg 0xFFFFFF true 500),
   (0x280004, .cfg 0xF true 3),
   (0x280008, .cfg 0xFFFFFF true 2000),
   (0x28000C, .cfg 0xFFFFFF true 10000),
   (0x280010, .own),
   (0x280014, .own),
   (0x280018, .own),
   (0x28001C, .ctr .dev),
   (0x280020, .cfg 0xFF false 0),
   (0x280030, .ctr .dev),
   (0x280034, .ctr .dev),
   (0x280040, .ctr .comp),
   (0x280044, .ctr .comp),
   (0x280048, .ctr .comp),
   (0x28004C, .ctr .comp),
   (0x280050, .ctr .comp),
   (0x280054, .ctr .comp),
   (0x280058, .ctr .comp),
   (0x2800FC, .lock)]

/-- Registers of R223, Table CH-6. -/
def Regs.coh : NMap RegKind :=
  [(0x2C0000, .cfg 0xFFFFFF true 1000),
   (0x2C0008, .own),
   (0x2C000C, .own),
   (0x2C0010, .own),
   (0x2C0020, .cfg 0x3F false 0),
   (0x2C0024, .own),
   (0x2C0028, .own),
   (0x2C002C, .own),
   (0x2C0030, .own),
   (0x2C0040, .ctr .dom),
   (0x2C0044, .ctr .dom),
   (0x2C0048, .ctr .dom),
   (0x2C004C, .ctr .dom),
   (0x2C0050, .ctr .dom),
   (0x2C0054, .ctr .dom),
   (0x2C0058, .ctr .dom),
   (0x2C005C, .ctr .dom),
   (0x2C00FC, .lock)]

/-- Registers of R110. -/
def Regs.pressCommon : NMap RegKind :=
  [(0x300000, .cfg 0xFFFF true 500),
   (0x300004, .cfg 0x7FF07FF true 67108992),
   (0x300008, .cfg 0x3F7F true 8256),
   (0x30000C, .cfg 0x3FFFFF true 262144),
   (0x300010, .own),
   (0x300020, .cfg 0xFF false 0),
   (0x300040, .lo .comp),
   (0x300044, .hi .comp),
   (0x300048, .lo .comp),
   (0x30004C, .hi .comp),
   (0x300050, .ctr .comp),
   (0x300054, .ctr .comp),
   (0x300058, .ctr .comp),
   (0x30005C, .ctr .comp),
   (0x300060, .ctr .comp),
   (0x3000FC, .lock)]

/-- Registers of press n (R110). -/
def Regs.press (n : Nat) : NMap RegKind :=
  [
(0x310000 + 0x1000 * n + 0x0, .own),
   (0x310000 + 0x1000 * n + 0x4, .own),
   (0x310000 + 0x1000 * n + 0x8, .own),
   (0x310000 + 0x1000 * n + 0x10, .lo .press),
   (0x310000 + 0x1000 * n + 0x14, .hi .press),
   (0x310000 + 0x1000 * n + 0x18, .ctr .press),
   (0x310000 + 0x1000 * n + 0x1C, .ctr .press),
   (0x310000 + 0x1000 * n + 0x20, .ctr .press)]

/-- Registers of R139. -/
def Regs.coll : NMap RegKind :=
  [(0x340000, .cfg 0xFFFFFF true 10000000),
   (0x340004, .cfg 0xFFFF true 4096),
   (0x340010, .own),
   (0x340014, .own),
   (0x340020, .cfg 0xFF false 0),
   (0x340040, .ctr .comp),
   (0x340044, .ctr .comp),
   (0x340048, .ctr .comp),
   (0x34004C, .ctr .comp),
   (0x340050, .ctr .comp),
   (0x340054, .ctr .comp),
   (0x340058, .ctr .comp),
   (0x34005C, .ctr .comp),
   (0x340060, .ctr .comp),
   (0x3400FC, .lock)]

/-- Registers of R160. -/
def Regs.attn : NMap RegKind :=
  [(0x380000, .own),
   (0x380020, .cfg 0xFF false 0),
   (0x380040, .ctr .comp),
   (0x380044, .lo .comp),
   (0x380048, .hi .comp),
   (0x38004C, .ctr .comp),
   (0x380050, .ctr .comp),
   (0x380054, .ctr .comp),
   (0x380058, .ctr .comp),
   (0x38005C, .ctr .comp)]

/-- Registers of R180. -/
def Regs.vq : NMap RegKind :=
  [(0x3C0000, .own),
   (0x3C0004, .own),
   (0x3C0020, .cfg 0xFF false 0),
   (0x3C0024, .own),
   (0x3C0028, .own),
   (0x3C0040, .lo .comp),
   (0x3C0044, .hi .comp),
   (0x3C0048, .ctr .comp),
   (0x3C004C, .ctr .comp),
   (0x3C0050, .ctr .comp),
   (0x3C0054, .ctr .comp),
   (0x3C0058, .ctr .comp),
   (0x3C005C, .ctr .comp),
   (0x3C0060, .ctr .comp)]

/-- Registers of R244, Table SW-5, part 1. -/
def Regs.switchA : NMap RegKind :=
  [(0x400000, .cfg 0xFFFF true 4096),
   (0x400004, .cfg 0x7F true 75),
   (0x400008, .cfg 0xFFFF true 4096),
   (0x400010, .own),
   (0x400014, .own),
   (0x400018, .own),
   (0x400020, .cfg 0xFF false 0),
   (0x400030, .ctr .dev),
   (0x400034, .ctr .dev),
   (0x400038, .ctr .dev),
   (0x400040, .ctr .comp),
   (0x400044, .own),
   (0x400080, .cfg 0xFFF false 0),
   (0x400084, .own),
   (0x400088, .own),
   (0x40008C, .own),
   (0x400090, .own),
   (0x400094, .own),
   (0x400098, .own),
   (0x40009C, .own),
   (0x4000FC, .lock),
   (0x400100, .own),
   (0x400104, .own),
   (0x400108, .own),
   (0x40010C, .own),
   (0x400110, .own),
   (0x400114, .own),
   (0x400118, .own),
   (0x40011C, .own),
   (0x400120, .own),
   (0x400124, .own),
   (0x400128, .own),
   (0x40012C, .own),
   (0x400130, .own),
   (0x400134, .own),
   (0x400138, .own),
   (0x40013C, .own),
   (0x400140, .own),
   (0x400144, .own),
   (0x400148, .own)]

/-- Registers of R244, Table SW-5, part 2. -/
def Regs.switchB : NMap RegKind :=
  [(0x40014C, .own),
   (0x400150, .own),
   (0x400154, .own),
   (0x400158, .own),
   (0x40015C, .own),
   (0x400160, .own),
   (0x400164, .own),
   (0x400168, .own),
   (0x40016C, .own),
   (0x400170, .own),
   (0x400174, .own),
   (0x400178, .own),
   (0x40017C, .own),
   (0x400200, .cfg 0xE0FFFFFF false 0),
   (0x400204, .cfg 0xFFFF0FFF false 0),
   (0x400208, .cfg 0xFFFF0FFF false 0),
   (0x40020C, .cfg 0xFFFF false 0),
   (0x400210, .cfg 0xFFFFFFFF false 1024),
   (0x400214, .ctr .dev),
   (0x400218, .ctr .dev),
   (0x400220, .cfg 0xE0FFFFFF false 0),
   (0x400224, .cfg 0xFFFF0FFF false 0),
   (0x400228, .cfg 0xFFFF0FFF false 0),
   (0x40022C, .cfg 0xFFFF false 0),
   (0x400230, .cfg 0xFFFFFFFF false 1024),
   (0x400234, .ctr .dev),
   (0x400238, .ctr .dev),
   (0x400240, .cfg 0xE0FFFFFF false 0),
   (0x400244, .cfg 0xFFFF0FFF false 0),
   (0x400248, .cfg 0xFFFF0FFF false 0),
   (0x40024C, .cfg 0xFFFF false 0),
   (0x400250, .cfg 0xFFFFFFFF false 1024),
   (0x400254, .ctr .dev),
   (0x400258, .ctr .dev),
   (0x400260, .cfg 0xE0FFFFFF false 0),
   (0x400264, .cfg 0xFFFF0FFF false 0),
   (0x400268, .cfg 0xFFFF0FFF false 0),
   (0x40026C, .cfg 0xFFFF false 0),
   (0x400270, .cfg 0xFFFFFFFF false 1024),
   (0x400274, .ctr .dev)]

/-- Registers of R244, Table SW-5, part 3. -/
def Regs.switchC : NMap RegKind :=
  [(0x400278, .ctr .dev),
   (0x400400, .cfg 0x800000FF false 0),
   (0x400404, .cfg 0x800000FF false 0),
   (0x400408, .cfg 0x800000FF false 0),
   (0x40040C, .cfg 0x800000FF false 0),
   (0x400410, .cfg 0x800000FF false 0),
   (0x400414, .cfg 0x800000FF false 0),
   (0x400418, .cfg 0x800000FF false 0),
   (0x40041C, .cfg 0x800000FF false 0),
   (0x400420, .cfg 0x800000FF false 0),
   (0x400424, .cfg 0x800000FF false 0),
   (0x400428, .cfg 0x800000FF false 0),
   (0x40042C, .cfg 0x800000FF false 0),
   (0x400430, .cfg 0x800000FF false 0),
   (0x400434, .cfg 0x800000FF false 0),
   (0x400438, .cfg 0x800000FF false 0),
   (0x40043C, .cfg 0x800000FF false 0),
   (0x400440, .cfg 0x800000FF false 0),
   (0x400444, .cfg 0x800000FF false 0),
   (0x400448, .cfg 0x800000FF false 0),
   (0x40044C, .cfg 0x800000FF false 0),
   (0x400450, .cfg 0x800000FF false 0),
   (0x400454, .cfg 0x800000FF false 0),
   (0x400458, .cfg 0x800000FF false 0),
   (0x40045C, .cfg 0x800000FF false 0),
   (0x400460, .cfg 0x800000FF false 0),
   (0x400464, .cfg 0x800000FF false 0),
   (0x400468, .cfg 0x800000FF false 0),
   (0x40046C, .cfg 0x800000FF false 0),
   (0x400470, .cfg 0x800000FF false 0),
   (0x400474, .cfg 0x800000FF false 0),
   (0x400478, .cfg 0x800000FF false 0),
   (0x40047C, .cfg 0x800000FF false 0),
   (0x400480, .cfg 0x800000FF false 0),
   (0x400484, .cfg 0x800000FF false 0),
   (0x400488, .cfg 0x800000FF false 0),
   (0x40048C, .cfg 0x800000FF false 0),
   (0x400490, .cfg 0x800000FF false 0),
   (0x400494, .cfg 0x800000FF false 0),
   (0x400498, .cfg 0x800000FF false 0)]

/-- Registers of R244, Table SW-5, part 4. -/
def Regs.switchD : NMap RegKind :=
  [(0x40049C, .cfg 0x800000FF false 0),
   (0x4004A0, .cfg 0x800000FF false 0),
   (0x4004A4, .cfg 0x800000FF false 0),
   (0x4004A8, .cfg 0x800000FF false 0),
   (0x4004AC, .cfg 0x800000FF false 0),
   (0x4004B0, .cfg 0x800000FF false 0),
   (0x4004B4, .cfg 0x800000FF false 0),
   (0x4004B8, .cfg 0x800000FF false 0),
   (0x4004BC, .cfg 0x800000FF false 0),
   (0x4004C0, .cfg 0x800000FF false 0),
   (0x4004C4, .cfg 0x800000FF false 0),
   (0x4004C8, .cfg 0x800000FF false 0),
   (0x4004CC, .cfg 0x800000FF false 0),
   (0x4004D0, .cfg 0x800000FF false 0),
   (0x4004D4, .cfg 0x800000FF false 0),
   (0x4004D8, .cfg 0x800000FF false 0),
   (0x4004DC, .cfg 0x800000FF false 0),
   (0x4004E0, .cfg 0x800000FF false 0),
   (0x4004E4, .cfg 0x800000FF false 0),
   (0x4004E8, .cfg 0x800000FF false 0),
   (0x4004EC, .cfg 0x800000FF false 0),
   (0x4004F0, .cfg 0x800000FF false 0),
   (0x4004F4, .cfg 0x800000FF false 0),
   (0x4004F8, .cfg 0x800000FF false 0),
   (0x4004FC, .cfg 0x800000FF false 0)]

/-- Registers of R266, Table LK-7. -/
def Regs.link : NMap RegKind :=
  [(0x440000, .cfg 0xFFFF true 2000),
   (0x440004, .cfg 0xFFFF true 2052),
   (0x440008, .cfg 0xFFFF true 24),
   (0x440010, .own),
   (0x440020, .cfg 0xFF false 0),
   (0x440024, .own),
   (0x440028, .own),
   (0x44002C, .own),
   (0x440030, .own),
   (0x440034, .own),
   (0x440040, .lo .lport),
   (0x440044, .hi .lport),
   (0x440048, .ctr .lport),
   (0x44004C, .ctr .lport),
   (0x440050, .ctr .lport),
   (0x440054, .ctr .lport),
   (0x440058, .ctr .lport),
   (0x44005C, .ctr .lport),
   (0x440060, .ctr .lport),
   (0x440064, .ctr .lport),
   (0x440068, .ctr .lport),
   (0x44006C, .ctr .lport),
   (0x440070, .ctr .lport),
   (0x440074, .ctr .lport),
   (0x440078, .ctr .lport),
   (0x4400FC, .lock)]

/-- Registers of R281, Table TP-6. -/
def Regs.topo : NMap RegKind :=
  [(0x480000, .own),
   (0x480004, .cfg 0x1FF00 true 768),
   (0x480008, .cfg 0xFFFF true 100),
   (0x48000C, .cfg 0xFFFF true 50),
   (0x480010, .own),
   (0x480014, .own),
   (0x480020, .cfg 0xFF false 0),
   (0x480024, .own),
   (0x480028, .own),
   (0x48002C, .own),
   (0x480030, .own),
   (0x480040, .ctr .dev),
   (0x480044, .ctr .dev),
   (0x480048, .ctr .dev),
   (0x48004C, .ctr .dev),
   (0x480050, .ctr .dev),
   (0x480054, .ctr .dev),
   (0x480058, .ctr .dev),
   (0x4800FC, .lock)]

/-- Registers of R304, Table CP-6. -/
def Regs.comp : NMap RegKind :=
  [(0x4C0000, .own),
   (0x4C0020, .cfg 0xFF false 0),
   (0x4C0024, .own),
   (0x4C0028, .own),
   (0x4C002C, .own),
   (0x4C0030, .own),
   (0x4C0034, .own),
   (0x4C0038, .own),
   (0x4C003C, .own),
   (0x4C0040, .ctr .comp),
   (0x4C0044, .ctr .comp),
   (0x4C0048, .ctr .comp),
   (0x4C004C, .ctr .comp),
   (0x4C0050, .ctr .comp),
   (0x4C0054, .ctr .comp)]

/-- Registers of R332, part 1. -/
def Regs.secA : NMap RegKind :=
  [(0x500000, .own),
   (0x500004, .own),
   (0x500008, .own),
   (0x50000C, .own),
   (0x500010, .ctr .dev),
   (0x500014, .ctr .dev),
   (0x500018, .ctr .dev),
   (0x500020, .cfg 0xFF false 0),
   (0x500040, .ctr .comp),
   (0x500044, .ctr .comp),
   (0x500048, .ctr .comp),
   (0x50004C, .ctr .comp),
   (0x500050, .lo .comp),
   (0x500054, .hi .comp),
   (0x5000FC, .lock),
   (0x500100, .cfg 0xFFFFFFFF true 0),
   (0x500104, .cfg 0xFFFFFFFF true 0),
   (0x500108, .cfg 0xFFFFFFFF true 0),
   (0x50010C, .cfg 0xFFFFFFFF true 0),
   (0x500110, .cfg 0xFFFFFFFF true 0),
   (0x500114, .cfg 0xFFFFFFFF true 0),
   (0x500118, .cfg 0xFFFFFFFF true 0),
   (0x50011C, .cfg 0xFFFFFFFF true 0),
   (0x500120, .cfg 0xFFFFFFFF true 0),
   (0x500124, .cfg 0xFFFFFFFF true 0),
   (0x500128, .cfg 0xFFFFFFFF true 0),
   (0x50012C, .cfg 0xFFFFFFFF true 0),
   (0x500130, .cfg 0xFFFFFFFF true 0),
   (0x500134, .cfg 0xFFFFFFFF true 0),
   (0x500138, .cfg 0xFFFFFFFF true 0),
   (0x50013C, .cfg 0xFFFFFFFF true 0),
   (0x500140, .cfg 0xFFFFFFFF true 0),
   (0x500144, .cfg 0xFFFFFFFF true 0),
   (0x500148, .cfg 0xFFFFFFFF true 0),
   (0x50014C, .cfg 0xFFFFFFFF true 0),
   (0x500150, .cfg 0xFFFFFFFF true 0),
   (0x500154, .cfg 0xFFFFFFFF true 0),
   (0x500158, .cfg 0xFFFFFFFF true 0),
   (0x50015C, .cfg 0xFFFFFFFF true 0),
   (0x500160, .cfg 0xFFFFFFFF true 0)]

/-- Registers of R332, part 2. -/
def Regs.secB : NMap RegKind :=
  [(0x500164, .cfg 0xFFFFFFFF true 0),
   (0x500168, .cfg 0xFFFFFFFF true 0),
   (0x50016C, .cfg 0xFFFFFFFF true 0),
   (0x500170, .cfg 0xFFFFFFFF true 0),
   (0x500174, .cfg 0xFFFFFFFF true 0),
   (0x500178, .cfg 0xFFFFFFFF true 0),
   (0x50017C, .cfg 0xFFFFFFFF true 0)]

/-- Registers of R357. -/
def Regs.ft : NMap RegKind :=
  [(0x540000, .cfg 0x1FFF true 64),
   (0x540004, .cfg 0xFFFF true 3600),
   (0x540008, .cfg 0x3FF00FF true 39321610),
   (0x54000C, .cfg 0xFF true 2),
   (0x540010, .own),
   (0x540014, .own),
   (0x540018, .own),
   (0x540020, .cfg 0xFF false 0),
   (0x540040, .ctr .comp),
   (0x540044, .ctr .comp),
   (0x540048, .ctr .comp),
   (0x54004C, .ctr .comp),
   (0x540080, .lo .dev),
   (0x540084, .hi .dev),
   (0x540088, .ctr .dev),
   (0x54008C, .ctr .dev),
   (0x540090, .ctr .dev),
   (0x540094, .ctr .dev),
   (0x540098, .ctr .dev),
   (0x54009C, .ctr .dev),
   (0x5400A0, .ctr .dev),
   (0x5400A4, .ctr .dev),
   (0x5400A8, .ctr .dev),
   (0x5400AC, .ctr .dev),
   (0x5400B0, .ctr .dev),
   (0x5400B4, .ctr .dev),
   (0x5400B8, .ctr .dev),
   (0x5400BC, .ctr .dev),
   (0x5400FC, .lock)]

/-- Registers of R378, Table CM-7, part 1. -/
def Regs.cmA : NMap RegKind :=
  [(0x580000, .own),
   (0x580004, .cfg 0x1FFFF true 50731),
   (0x580008, .cfg 0xFFFFFFFF true 0),
   (0x58000C, .cfg 0x3F true 0),
   (0x580010, .cfg 0xFFFFFFFF true 0),
   (0x580014, .cfg 0xFFFFFFFF true 0),
   (0x580018, .cfg 0xFFFFFFFF true 0),
   (0x58001C, .cfg 0xFFFFFFFF true 0),
   (0x580020, .cfg 0xFFFF true 300),
   (0x580024, .own),
   (0x580030, .ctr .dev),
   (0x580034, .ctr .dev),
   (0x580038, .ctr .dev),
   (0x58003C, .ctr .dev),
   (0x580040, .ctr .dev),
   (0x580044, .ctr .dev),
   (0x580048, .ctr .dev),
   (0x58004C, .ctr .dev),
   (0x580050, .ctr .dev),
   (0x5800FC, .lock),
   (0x580100, .own),
   (0x580104, .own),
   (0x580108, .own),
   (0x58010C, .own),
   (0x580110, .own),
   (0x580114, .own),
   (0x580118, .own),
   (0x58011C, .own),
   (0x580120, .own),
   (0x580124, .own),
   (0x580128, .own),
   (0x58012C, .own),
   (0x580130, .own),
   (0x580134, .own),
   (0x580138, .own),
   (0x58013C, .own),
   (0x580140, .own),
   (0x580144, .own),
   (0x580148, .own),
   (0x58014C, .own)]

/-- Registers of R378, Table CM-7, part 2. -/
def Regs.cmB : NMap RegKind :=
  [(0x580150, .own),
   (0x580154, .own),
   (0x580158, .own),
   (0x58015C, .own),
   (0x580160, .own),
   (0x580164, .own),
   (0x580168, .own),
   (0x58016C, .own),
   (0x580170, .own),
   (0x580174, .own),
   (0x580178, .own),
   (0x58017C, .own)]

/-- Registers of R395, Table EV-3, part 1. -/
def Regs.evcA : NMap RegKind :=
  [(0x5C0000, .cfg 0x7 true 0),
   (0x5C0004, .cfg 0xFFFFFFFF true 65536010),
   (0x5C0008, .own),
   (0x5C000C, .ctr .dev),
   (0x5C0010, .ctr .dev),
   (0x5C0014, .ctr .dev),
   (0x5C0018, .ctr .dev),
   (0x5C0020, .cfg 0x3FF false 0),
   (0x5C0024, .own),
   (0x5C0028, .own),
   (0x5C002C, .own),
   (0x5C00FC, .lock),
   (0x5C0100, .own),
   (0x5C0104, .own),
   (0x5C0108, .own),
   (0x5C010C, .own),
   (0x5C0110, .own),
   (0x5C0114, .own),
   (0x5C0118, .own),
   (0x5C011C, .own),
   (0x5C0120, .own),
   (0x5C0124, .own),
   (0x5C0128, .own),
   (0x5C012C, .own),
   (0x5C0130, .own),
   (0x5C0134, .own),
   (0x5C0138, .own),
   (0x5C013C, .own),
   (0x5C0140, .own),
   (0x5C0144, .own),
   (0x5C0148, .own),
   (0x5C014C, .own),
   (0x5C0150, .own),
   (0x5C0154, .own),
   (0x5C0158, .own),
   (0x5C015C, .own),
   (0x5C0160, .own),
   (0x5C0164, .own),
   (0x5C0168, .own),
   (0x5C016C, .own)]

/-- Registers of R395, Table EV-3, part 2. -/
def Regs.evcB : NMap RegKind :=
  [(0x5C0170, .own),
   (0x5C0174, .own),
   (0x5C0178, .own),
   (0x5C017C, .own),
   (0x5C0180, .own),
   (0x5C0184, .own),
   (0x5C0188, .own),
   (0x5C018C, .own),
   (0x5C0190, .own),
   (0x5C0194, .own),
   (0x5C0198, .own),
   (0x5C019C, .own),
   (0x5C01A0, .own),
   (0x5C01A4, .own),
   (0x5C01A8, .own),
   (0x5C01AC, .own),
   (0x5C01B0, .own),
   (0x5C01B4, .own),
   (0x5C01B8, .own),
   (0x5C01BC, .own),
   (0x5C01C0, .own),
   (0x5C01C4, .own),
   (0x5C01C8, .own),
   (0x5C01CC, .own),
   (0x5C01D0, .own),
   (0x5C01D4, .own),
   (0x5C01D8, .own),
   (0x5C01DC, .own),
   (0x5C01E0, .own),
   (0x5C01E4, .own),
   (0x5C01E8, .own),
   (0x5C01EC, .own),
   (0x5C01F0, .own),
   (0x5C01F4, .own),
   (0x5C01F8, .own),
   (0x5C01FC, .own)]

/-- Registers of R396, Table EV-4. -/
def Regs.pwr : NMap RegKind :=
  [(0x600000, .own),
   (0x600004, .cfg 0xFFFF true 20),
   (0x600008, .cfg 0xFFFF true 1000),
   (0x60000C, .cfg 0xFFFF true 200),
   (0x600010, .own),
   (0x600014, .ctr .dev),
   (0x600018, .ctr .dev),
   (0x60001C, .ctr .dev),
   (0x6000FC, .lock)]

/-- Registers of R416. -/
def Regs.fw : NMap RegKind :=
  [(0x640000, .own),
   (0x640004, .cfg 0xFFFF true 600),
   (0x640008, .own),
   (0x64000C, .own),
   (0x640010, .own),
   (0x640014, .own),
   (0x640020, .cfg 0xFFF false 0),
   (0x640024, .own),
   (0x640028, .own),
   (0x64002C, .own),
   (0x640030, .own),
   (0x640040, .own),
   (0x640050, .ctr .dev),
   (0x640054, .ctr .dev),
   (0x640058, .ctr .dev),
   (0x64005C, .ctr .dev),
   (0x6400FC, .lock)]

/-- Registers of R423. -/
def Regs.rec : NMap RegKind :=
  [(0x680000, .cfg 0xFFFF true 600),
   (0x680004, .own),
   (0x680008, .own),
   (0x68000C, .own),
   (0x680010, .own),
   (0x680014, .ctr .dev),
   (0x680018, .ctr .dev),
   (0x680020, .cfg 0x3FF false 0),
   (0x680024, .own),
   (0x680028, .own),
   (0x68002C, .own),
   (0x680030, .own),
   (0x680034, .own),
   (0x680038, .own),
   (0x68003C, .own),
   (0x680040, .own),
   (0x680044, .own),
   (0x680048, .own),
   (0x68004C, .own),
   (0x680050, .own),
   (0x680054, .own),
   (0x680058, .own),
   (0x68005C, .own),
   (0x680060, .own),
   (0x680064, .own),
   (0x680068, .own),
   (0x68006C, .own),
   (0x680070, .own),
   (0x680074, .own),
   (0x680078, .own),
   (0x6800FC, .lock)]

/-- Registers of R436. -/
def Regs.el : NMap RegKind :=
  [(0x6C0000, .own),
   (0x6C0004, .own),
   (0x6C0008, .own),
   (0x6C000C, .cfg 0xF false 0),
   (0x6C0010, .own),
   (0x6C0014, .own),
   (0x6C0018, .own),
   (0x6C001C, .ctr .dev),
   (0x6C0020, .ctr .dev)]

/-- The registers of the block an address lies in. -/
def regBlock (a : Nat) : NMap RegKind :=
  if 0x310000 ≤ a ∧ a < 0x318000 then Regs.press ((a - 0x310000) / 0x1000)
  else match a / 0x40000 with
  | 0x8 => Regs.pool
  | 0x9 => Regs.flash
  | 0xA => Regs.tx
  | 0xB => Regs.coh
  | 0xC => Regs.pressCommon
  | 0xD => Regs.coll
  | 0xE => Regs.attn
  | 0xF => Regs.vq
  | 0x10 => Regs.switchA ++ Regs.switchB ++ Regs.switchC ++ Regs.switchD
  | 0x11 => Regs.link
  | 0x12 => Regs.topo
  | 0x13 => Regs.comp
  | 0x14 => Regs.secA ++ Regs.secB
  | 0x15 => Regs.ft
  | 0x16 => Regs.cmA ++ Regs.cmB
  | 0x17 => Regs.evcA ++ Regs.evcB
  | 0x18 => Regs.pwr
  | 0x19 => Regs.fw
  | 0x1A => Regs.rec
  | 0x1B => Regs.el
  | _ => []

/-! Addresses by the manual's names. An indexed register has the address of its index 0, and a register of press n
that of press 0. -/

abbrev Reg.POOL_CFG : Nat := 0x200000
abbrev Reg.POOL_T1_LATE_US : Nat := 0x200004
abbrev Reg.POOL_T2_LATE_US : Nat := 0x200008
abbrev Reg.POOL_PIN_LIMIT : Nat := 0x20000C
abbrev Reg.POOL_T0_FRAMES : Nat := 0x200010
abbrev Reg.POOL_T0_FREE : Nat := 0x200014
abbrev Reg.POOL_T0_PINNED : Nat := 0x200018
abbrev Reg.POOL_COMP_SEL : Nat := 0x200020
abbrev Reg.POOL_COMP_DEADLINE : Nat := 0x200024
abbrev Reg.POOL_COMP_PIN_QUOTA : Nat := 0x200028
abbrev Reg.POOL_CNT_TIER_LATE_T1 : Nat := 0x200040
abbrev Reg.POOL_CNT_TIER_LATE_T2 : Nat := 0x200044
abbrev Reg.POOL_CNT_TIER_UE_T0 : Nat := 0x200048
abbrev Reg.POOL_CNT_TIER_UE_T1 : Nat := 0x20004C
abbrev Reg.POOL_CNT_TIER_UE_T2 : Nat := 0x200050
abbrev Reg.POOL_CNT_TRAY_DOWN : Nat := 0x200054
abbrev Reg.POOL_CNT_STEPS_TIER_LOST : Nat := 0x200058
abbrev Reg.POOL_CNT_MIRROR_FAILOVER : Nat := 0x20005C
abbrev Reg.POOL_CNT_MIGRATION_ABANDONED : Nat := 0x200060
abbrev Reg.POOL_CNT_T0_FULL : Nat := 0x200064
abbrev Reg.POOL_CNT_OUT_OF_EXTENT : Nat := 0x200068
abbrev Reg.POOL_CNT_LOST_LEAVES : Nat := 0x20006C
abbrev Reg.POOL_LOCK : Nat := 0x2000FC
abbrev Reg.FLASH_GC_CFG : Nat := 0x240000
abbrev Reg.FLASH_WEAR_CFG : Nat := 0x240004
abbrev Reg.FLASH_REFRESH_CFG : Nat := 0x240008
abbrev Reg.FLASH_PATROL_CFG : Nat := 0x24000C
abbrev Reg.FLASH_DISTURB_CFG : Nat := 0x240010
abbrev Reg.FLASH_TRAY_SEL : Nat := 0x240020
abbrev Reg.FLASH_TRAY_STATE : Nat := 0x240024
abbrev Reg.FLASH_TRAY_GOOD_SB : Nat := 0x240028
abbrev Reg.FLASH_TRAY_RESERVE_SB : Nat := 0x24002C
abbrev Reg.FLASH_TRAY_FREE_SB : Nat := 0x240030
abbrev Reg.FLASH_TRAY_ERASE : Nat := 0x240034
abbrev Reg.FLASH_CNT_RETRY_READS : Nat := 0x240040
abbrev Reg.FLASH_CNT_SOFT_READS : Nat := 0x240044
abbrev Reg.FLASH_CNT_UE_PAGES : Nat := 0x240048
abbrev Reg.FLASH_CNT_PROGRAM_FAILS : Nat := 0x24004C
abbrev Reg.FLASH_CNT_ERASE_FAILS : Nat := 0x240050
abbrev Reg.FLASH_CNT_RETIRED_BLOCKS : Nat := 0x240054
abbrev Reg.FLASH_CNT_REFRESH_SHEAVES : Nat := 0x240058
abbrev Reg.FLASH_CNT_DISTURB_SHEAVES : Nat := 0x24005C
abbrev Reg.FLASH_CNT_GC_SHEAVES : Nat := 0x240060
abbrev Reg.FLASH_CNT_WEAR_SHEAVES : Nat := 0x240064
abbrev Reg.FLASH_CNT_WORN_REFUSED : Nat := 0x240068
abbrev Reg.FLASH_LOCK : Nat := 0x2400FC
abbrev Reg.TX_RESP_TIMEOUT_US : Nat := 0x280000
abbrev Reg.TX_RETRY_LIMIT : Nat := 0x280004
abbrev Reg.TX_ATOMIC_HOLD_US : Nat := 0x280008
abbrev Reg.TX_FENCE_DEADLINE_US : Nat := 0x28000C
abbrev Reg.TX_MEM_INFLIGHT : Nat := 0x280010
abbrev Reg.TX_REQ_OPEN : Nat := 0x280014
abbrev Reg.TX_PAIRS_USED : Nat := 0x280018
abbrev Reg.TX_CNT_HDR_CRC : Nat := 0x28001C
abbrev Reg.TX_COMP_SEL : Nat := 0x280020
abbrev Reg.TX_CNT_MALFORMED : Nat := 0x280030
abbrev Reg.TX_CNT_BINDING : Nat := 0x280034
abbrev Reg.TX_CNT_STALE_EPOCH : Nat := 0x280040
abbrev Reg.TX_CNT_DUPLICATES : Nat := 0x280044
abbrev Reg.TX_CNT_RETRY_EXPIRED : Nat := 0x280048
abbrev Reg.TX_CNT_FENCE_INCOMPLETE : Nat := 0x28004C
abbrev Reg.TX_CNT_WINDOW : Nat := 0x280050
abbrev Reg.TX_CNT_RETRY_SEEN : Nat := 0x280054
abbrev Reg.TX_CNT_RESENT : Nat := 0x280058
abbrev Reg.TX_LOCK : Nat := 0x2800FC
abbrev Reg.COH_SNOOP_TIMEOUT_US : Nat := 0x2C0000
abbrev Reg.COH_ONCHIP_FREE : Nat := 0x2C0008
abbrev Reg.COH_OVERFLOW_FREE : Nat := 0x2C000C
abbrev Reg.COH_DOMAINS : Nat := 0x2C0010
abbrev Reg.COH_DOM_SEL : Nat := 0x2C0020
abbrev Reg.COH_DOM_STATE : Nat := 0x2C0024
abbrev Reg.COH_DOM_UNRESPONSIVE : Nat := 0x2C0028
abbrev Reg.COH_DOM_ENTRIES : Nat := 0x2C002C
abbrev Reg.COH_DOM_RECLAIMED : Nat := 0x2C0030
abbrev Reg.CHCNT_RECALLS : Nat := 0x2C0040
abbrev Reg.CHCNT_DIR_WAITS : Nat := 0x2C0044
abbrev Reg.CHCNT_STALE_WB : Nat := 0x2C0048
abbrev Reg.CHCNT_UPGRADE_LOST : Nat := 0x2C004C
abbrev Reg.CHCNT_SNOOP_TIMEOUT : Nat := 0x2C0050
abbrev Reg.CHCNT_RECLAIMED_LINES : Nat := 0x2C0054
abbrev Reg.CHCNT_RECLAIMED_SEEN : Nat := 0x2C0058
abbrev Reg.CHCNT_NOT_AGENT : Nat := 0x2C005C
abbrev Reg.COH_LOCK : Nat := 0x2C00FC
abbrev Reg.PRESS_CTX_CFG : Nat := 0x300000
abbrev Reg.SP_POOL_CFG : Nat := 0x300004
abbrev Reg.DRILL_CFG : Nat := 0x300008
abbrev Reg.SEED_COMP_QUOTA : Nat := 0x30000C
abbrev Reg.SEED_RESIDENT : Nat := 0x300010
abbrev Reg.PRESS_COMP_SEL : Nat := 0x300020
abbrev Reg.PCNT_EXPANDER_STALL_LO : Nat := 0x300040
abbrev Reg.PCNT_EXPANDER_STALL_HI : Nat := 0x300044
abbrev Reg.PCNT_BANK_STALL_LO : Nat := 0x300048
abbrev Reg.PCNT_BANK_STALL_HI : Nat := 0x30004C
abbrev Reg.PCNT_WRITE_LOST : Nat := 0x300050
abbrev Reg.PCNT_SP_PARITY : Nat := 0x300054
abbrev Reg.PCNT_CTX_SWITCH : Nat := 0x300058
abbrev Reg.PCNT_SEEDS_DONE : Nat := 0x30005C
abbrev Reg.PCNT_QUOTA_WAITS : Nat := 0x300060
abbrev Reg.PRESS_LOCK : Nat := 0x3000FC
abbrev Reg.PRESS_STATE : Nat := 0x310000
abbrev Reg.PRESS_ACTIVE_SEEDS : Nat := 0x310004
abbrev Reg.PRESS_WAITING_SEEDS : Nat := 0x310008
abbrev Reg.PRESS_LIT_CYCLES_LO : Nat := 0x310010
abbrev Reg.PRESS_LIT_CYCLES_HI : Nat := 0x310014
abbrev Reg.PRESS_CTX_SWITCHES : Nat := 0x310018
abbrev Reg.PRESS_WRITE_LOST : Nat := 0x31001C
abbrev Reg.PRESS_SP_PARITY : Nat := 0x310020
abbrev Reg.COLL_TIMEOUT_US : Nat := 0x340000
abbrev Reg.COLL_SPILL_LIMIT : Nat := 0x340004
abbrev Reg.COLL_GROUPS : Nat := 0x340010
abbrev Reg.COLL_SPILL_USED : Nat := 0x340014
abbrev Reg.COLL_COMP_SEL : Nat := 0x340020
abbrev Reg.CCNT_DESC_CRC : Nat := 0x340040
abbrev Reg.CCNT_REDUCE_SPILL : Nat := 0x340044
abbrev Reg.CCNT_SPILL_HELD : Nat := 0x340048
abbrev Reg.CCNT_DUP_SEGMENTS : Nat := 0x34004C
abbrev Reg.CCNT_OP_TIMEOUT : Nat := 0x340050
abbrev Reg.CCNT_GROUP_MISMATCH : Nat := 0x340054
abbrev Reg.CCNT_LOST_ROWS : Nat := 0x340058
abbrev Reg.CCNT_INDEX_RANGE : Nat := 0x34005C
abbrev Reg.CCNT_FILTER_TRUNCATED : Nat := 0x340060
abbrev Reg.COLL_LOCK : Nat := 0x3400FC
abbrev Reg.ATTN_OPS_OPEN : Nat := 0x380000
abbrev Reg.ATTN_COMP_SEL : Nat := 0x380020
abbrev Reg.ACNT_OPS_DONE : Nat := 0x380040
abbrev Reg.ACNT_QUIRES_READ_LO : Nat := 0x380044
abbrev Reg.ACNT_QUIRES_READ_HI : Nat := 0x380048
abbrev Reg.ACNT_HEADS_WITHHELD : Nat := 0x38004C
abbrev Reg.ACNT_LOST_AT_START : Nat := 0x380050
abbrev Reg.ACNT_NAN_QUERIES : Nat := 0x380054
abbrev Reg.ACNT_OP_TIMEOUT : Nat := 0x380058
abbrev Reg.ACNT_EMPTY_QUERIES : Nat := 0x38005C
abbrev Reg.VQ_CB_REGISTERED : Nat := 0x3C0000
abbrev Reg.VQ_CB_FRAMES : Nat := 0x3C0004
abbrev Reg.VQ_COMP_SEL : Nat := 0x3C0020
abbrev Reg.VQ_CB_MASK_LO : Nat := 0x3C0024
abbrev Reg.VQ_CB_MASK_HI : Nat := 0x3C0028
abbrev Reg.VCNT_PASSES_LO : Nat := 0x3C0040
abbrev Reg.VCNT_PASSES_HI : Nat := 0x3C0044
abbrev Reg.VCNT_LENGTH_FAULT : Nat := 0x3C0048
abbrev Reg.VCNT_FORMAT_FAULT : Nat := 0x3C004C
abbrev Reg.VCNT_REFETCH_OK : Nat := 0x3C0050
abbrev Reg.VCNT_SLOTS_POISONED : Nat := 0x3C0054
abbrev Reg.VCNT_CODEBOOK_LOADS : Nat := 0x3C0058
abbrev Reg.VCNT_ENCODE_LEAVES : Nat := 0x3C005C
abbrev Reg.VCNT_ENCODE_NONFINITE : Nat := 0x3C0060
abbrev Reg.SW_ESCAPE_CFG : Nat := 0x400000
abbrev Reg.SW_OVF_CFG : Nat := 0x400004
abbrev Reg.SW_OVF_COMP_LIMIT : Nat := 0x400008
abbrev Reg.SW_BUF_USED_D0 : Nat := 0x400010
abbrev Reg.SW_BUF_USED_D1 : Nat := 0x400014
abbrev Reg.SW_OVF_USED : Nat := 0x400018
abbrev Reg.SW_COMP_SEL : Nat := 0x400020
abbrev Reg.SW_CNT_ESCAPE : Nat := 0x400030
abbrev Reg.SW_CNT_BRIDGE_DEFER : Nat := 0x400034
abbrev Reg.SW_CNT_OVF_FULL : Nat := 0x400038
abbrev Reg.SWCNT_OVF_HELD : Nat := 0x400040
abbrev Reg.SWCNT_OVF_MIB : Nat := 0x400044
abbrev Reg.SW_Q_SEL : Nat := 0x400080
abbrev Reg.SW_Q_QUANTUM : Nat := 0x400084
abbrev Reg.SW_Q_SHAPER : Nat := 0x400088
abbrev Reg.SW_Q_BURST : Nat := 0x40008C
abbrev Reg.SW_Q_TOKENS : Nat := 0x400090
abbrev Reg.SW_Q_DEPTH : Nat := 0x400094
abbrev Reg.SW_Q_DEPTH_MAX : Nat := 0x400098
abbrev Reg.SW_HIST_CTL : Nat := 0x40009C
abbrev Reg.SW_LOCK : Nat := 0x4000FC
abbrev Reg.SW_HIST_DEPTH : Nat := 0x400100
abbrev Reg.SW_HIST_DELAY : Nat := 0x400140
abbrev Reg.MIR_CFG : Nat := 0x400200
abbrev Reg.MIR_MATCH : Nat := 0x400204
abbrev Reg.MIR_MASK : Nat := 0x400208
abbrev Reg.MIR_SAMPLE : Nat := 0x40020C
abbrev Reg.MIR_LIMIT : Nat := 0x400210
abbrev Reg.MIR_CNT_COPIED : Nat := 0x400214
abbrev Reg.MIR_CNT_DROPS : Nat := 0x400218
abbrev Reg.FURROW_SLOT : Nat := 0x400400
abbrev Reg.LK_FALLOW_CFG : Nat := 0x440000
abbrev Reg.LK_REPLAY_CFG : Nat := 0x440004
abbrev Reg.LK_REKEY_CFG : Nat := 0x440008
abbrev Reg.LK_PRESETS_STORED : Nat := 0x440010
abbrev Reg.LK_PORT_SEL : Nat := 0x440020
abbrev Reg.LK_PORT_CFG : Nat := 0x440024
abbrev Reg.LK_PORT_STATE : Nat := 0x440028
abbrev Reg.LK_FAR_ID_LO : Nat := 0x44002C
abbrev Reg.LK_FAR_ID_HI : Nat := 0x440030
abbrev Reg.LK_FAR_PORT : Nat := 0x440034
abbrev Reg.LK_CNT_FEC_CORR_LO : Nat := 0x440040
abbrev Reg.LK_CNT_FEC_CORR_HI : Nat := 0x440044
abbrev Reg.LK_CNT_FEC_UNCORR : Nat := 0x440048
abbrev Reg.LK_CNT_CRC : Nat := 0x44004C
abbrev Reg.LK_CNT_REPLAYS : Nat := 0x440050
abbrev Reg.LK_CNT_RETRAINS : Nat := 0x440054
abbrev Reg.LK_CNT_FAST_RETRAINS : Nat := 0x440058
abbrev Reg.LK_CNT_TRAIN_FAIL : Nat := 0x44005C
abbrev Reg.LK_CNT_DOWN : Nat := 0x440060
abbrev Reg.LK_CNT_LOST_PKTS : Nat := 0x440064
abbrev Reg.LK_CNT_TAG_FAIL : Nat := 0x440068
abbrev Reg.LK_CNT_WINDOW_STALL : Nat := 0x44006C
abbrev Reg.LK_CNT_FALLOW_ENTRIES : Nat := 0x440070
abbrev Reg.LK_CNT_WAKE_FAIL : Nat := 0x440074
abbrev Reg.LK_CNT_RX_DISCARD : Nat := 0x440078
abbrev Reg.LK_LOCK : Nat := 0x4400FC
abbrev Reg.TP_NODE : Nat := 0x480000
abbrev Reg.TP_CFG : Nat := 0x480004
abbrev Reg.TP_PROBE_CFG : Nat := 0x480008
abbrev Reg.TP_NOROUTE_CFG : Nat := 0x48000C
abbrev Reg.TP_ROUTE_EPOCH : Nat := 0x480010
abbrev Reg.TP_ROUTES_VALID : Nat := 0x480014
abbrev Reg.TP_NBR_SEL : Nat := 0x480020
abbrev Reg.TP_NBR_STATE : Nat := 0x480024
abbrev Reg.TP_NBR_LINK_ID_LO : Nat := 0x480028
abbrev Reg.TP_NBR_LINK_ID_HI : Nat := 0x48002C
abbrev Reg.TP_NBR_RTT_NS : Nat := 0x480030
abbrev Reg.TP_CNT_NO_ROUTE : Nat := 0x480040
abbrev Reg.TP_CNT_WITHDRAW_RX : Nat := 0x480044
abbrev Reg.TP_CNT_WITHDRAW_TX : Nat := 0x480048
abbrev Reg.TP_CNT_PROBE_MISS : Nat := 0x48004C
abbrev Reg.TP_CNT_PROBE_BAD : Nat := 0x480050
abbrev Reg.TP_CNT_ESC_BLOCKED : Nat := 0x480054
abbrev Reg.TP_CNT_MEMBER_SKIP : Nat := 0x480058
abbrev Reg.TP_LOCK : Nat := 0x4800FC
abbrev Reg.COMP_ACTIVE : Nat := 0x4C0000
abbrev Reg.COMP_SEL : Nat := 0x4C0020
abbrev Reg.COMP_STATE : Nat := 0x4C0024
abbrev Reg.COMP_EPOCH : Nat := 0x4C0028
abbrev Reg.COMP_RESOURCES : Nat := 0x4C002C
abbrev Reg.COMP_FP_MASK : Nat := 0x4C0030
abbrev Reg.COMP_DRAIN : Nat := 0x4C0034
abbrev Reg.COMP_MEMBER_LEASE : Nat := 0x4C0038
abbrev Reg.COMP_LEASE_LEFT_MS : Nat := 0x4C003C
abbrev Reg.CPCNT_MAP_CHANGES : Nat := 0x4C0040
abbrev Reg.CPCNT_WINDOW_ABORTS : Nat := 0x4C0044
abbrev Reg.CPCNT_REVOKED_INFLIGHT : Nat := 0x4C0048
abbrev Reg.CPCNT_MEMBER_EXPIRED : Nat := 0x4C004C
abbrev Reg.CPCNT_SUPERSEDED : Nat := 0x4C0050
abbrev Reg.CPCNT_MAP_BUSY : Nat := 0x4C0054
abbrev Reg.SE_DEBUG_STATE : Nat := 0x500000
abbrev Reg.SE_SVN : Nat := 0x500004
abbrev Reg.SE_ROOTS : Nat := 0x500008
abbrev Reg.SE_SESSIONS : Nat := 0x50000C
abbrev Reg.SE_CNT_AUTH_FAIL : Nat := 0x500010
abbrev Reg.SE_CNT_ZEROISE : Nat := 0x500014
abbrev Reg.SE_CNT_ATTEST : Nat := 0x500018
abbrev Reg.SE_COMP_SEL : Nat := 0x500020
abbrev Reg.SECNT_MAC_FAIL : Nat := 0x500040
abbrev Reg.SECNT_REENCRYPT : Nat := 0x500044
abbrev Reg.SECNT_DECRYPT_FAIL : Nat := 0x500048
abbrev Reg.SECNT_THROTTLE_100US : Nat := 0x50004C
abbrev Reg.SECNT_COUNTER_MISS_LO : Nat := 0x500050
abbrev Reg.SECNT_COUNTER_MISS_HI : Nat := 0x500054
abbrev Reg.SE_LOCK : Nat := 0x5000FC
abbrev Reg.SE_DEBUG_AUTH : Nat := 0x500100
abbrev Reg.FT_SAMPLE_CFG : Nat := 0x540000
abbrev Reg.FT_SWEEP_CFG : Nat := 0x540004
abbrev Reg.FT_HEALTH_CFG : Nat := 0x540008
abbrev Reg.FT_EXPEL_CFG : Nat := 0x54000C
abbrev Reg.FT_QUORUM : Nat := 0x540010
abbrev Reg.FT_EXPEL_USED : Nat := 0x540014
abbrev Reg.FT_EXPEL_ENTRIES : Nat := 0x540018
abbrev Reg.FT_COMP_SEL : Nat := 0x540020
abbrev Reg.FTCNT_REPLAYED_CHAINS : Nat := 0x540040
abbrev Reg.FTCNT_LEDGER_WAITS : Nat := 0x540044
abbrev Reg.FTCNT_STEPS_RECORDED : Nat := 0x540048
abbrev Reg.FTCNT_PRESS_OFFLINE : Nat := 0x54004C
abbrev Reg.FT_CNT_SAMPLED_LO : Nat := 0x540080
abbrev Reg.FT_CNT_SAMPLED_HI : Nat := 0x540084
abbrev Reg.FT_CNT_MISMATCH : Nat := 0x540088
abbrev Reg.FT_CNT_FENCED : Nat := 0x54008C
abbrev Reg.FT_CNT_UNRESOLVED : Nat := 0x540090
abbrev Reg.FT_CNT_PRESS_RESETS : Nat := 0x540094
abbrev Reg.FT_CNT_PARITY_REPLAY : Nat := 0x540098
abbrev Reg.FT_CNT_PARITY_HARD : Nat := 0x54009C
abbrev Reg.FT_CNT_BUFFER_UE : Nat := 0x5400A0
abbrev Reg.FT_CNT_WATCHDOG : Nat := 0x5400A4
abbrev Reg.FT_CNT_SWEEP_PASSES : Nat := 0x5400A8
abbrev Reg.FT_CNT_SWEEP_FAIL : Nat := 0x5400AC
abbrev Reg.FT_CNT_EXPEL : Nat := 0x5400B0
abbrev Reg.FT_CNT_DEMOTED : Nat := 0x5400B4
abbrev Reg.FT_CNT_REHEARSAL : Nat := 0x5400B8
abbrev Reg.FT_CNT_REHEARSAL_SKIPPED : Nat := 0x5400BC
abbrev Reg.FT_LOCK : Nat := 0x5400FC
abbrev Reg.CM_STATE : Nat := 0x580000
abbrev Reg.CM_NET_CFG : Nat := 0x580004
abbrev Reg.CM_IPV4_ADDR : Nat := 0x580008
abbrev Reg.CM_IPV4_PREFIX : Nat := 0x58000C
abbrev Reg.CM_IPV6_ADDR : Nat := 0x580010
abbrev Reg.CM_SESSION_CFG : Nat := 0x580020
abbrev Reg.CM_SESSIONS : Nat := 0x580024
abbrev Reg.CM_CNT_HDR_CRC : Nat := 0x580030
abbrev Reg.CM_CNT_TAG_FAIL : Nat := 0x580034
abbrev Reg.CM_CNT_BAD_SESSION : Nat := 0x580038
abbrev Reg.CM_CNT_DUP_REPLIES : Nat := 0x58003C
abbrev Reg.CM_CNT_WRONG_STATE : Nat := 0x580040
abbrev Reg.CM_CNT_BAD_SEQUENCE : Nat := 0x580044
abbrev Reg.CM_CNT_PART_TIMEOUT : Nat := 0x580048
abbrev Reg.CM_CNT_WRITE_CONFLICT : Nat := 0x58004C
abbrev Reg.CM_CNT_UNKNOWN_OPCODE : Nat := 0x580050
abbrev Reg.CM_LOCK : Nat := 0x5800FC
abbrev Reg.CM_FM_KEY : Nat := 0x580100
abbrev Reg.EVC_CTRL : Nat := 0x5C0000
abbrev Reg.EVC_TIMING : Nat := 0x5C0004
abbrev Reg.EVC_SOFT_SET : Nat := 0x5C0008
abbrev Reg.EVC_CNT_RESET_SEEN : Nat := 0x5C000C
abbrev Reg.EVC_CNT_SPURIOUS : Nat := 0x5C0010
abbrev Reg.EVC_CNT_LOG_LOST : Nat := 0x5C0014
abbrev Reg.EVC_CNT_REOFFER : Nat := 0x5C0018
abbrev Reg.EVC_SRC_SEL : Nat := 0x5C0020
abbrev Reg.EVC_SRC_CFG : Nat := 0x5C0024
abbrev Reg.EVC_SRC_TARGETS : Nat := 0x5C0028
abbrev Reg.EVC_SRC_STATUS : Nat := 0x5C002C
abbrev Reg.EVC_LOCK : Nat := 0x5C00FC
abbrev Reg.EVC_TGT_STATE : Nat := 0x5C0100
abbrev Reg.EVC_TGT_THRESHOLD : Nat := 0x5C0104
abbrev Reg.EVC_TGT_CLAIM : Nat := 0x5C0108
abbrev Reg.EVC_TGT_COMPLETE : Nat := 0x5C010C
abbrev Reg.PWR_STATE : Nat := 0x600000
abbrev Reg.PWR_PRESS_IDLE : Nat := 0x600004
abbrev Reg.PWR_HBM_IDLE : Nat := 0x600008
abbrev Reg.PWR_QUIESCE : Nat := 0x60000C
abbrev Reg.PWR_WAKE_CAUSE : Nat := 0x600010
abbrev Reg.PWR_CNT_QUIESCE_FAIL : Nat := 0x600014
abbrev Reg.PWR_CNT_PRESS_WAKES : Nat := 0x600018
abbrev Reg.PWR_CNT_STANDBY_ENTRIES : Nat := 0x60001C
abbrev Reg.PWR_LOCK : Nat := 0x6000FC
abbrev Reg.FW_UPDATE_STATE : Nat := 0x640000
abbrev Reg.FW_CONFIRM_CFG : Nat := 0x640004
abbrev Reg.FW_CONFIRM_LEFT_S : Nat := 0x640008
abbrev Reg.FW_ROLLBACK : Nat := 0x64000C
abbrev Reg.FW_BOOT_COUNT : Nat := 0x640010
abbrev Reg.FW_BOOT_PATH : Nat := 0x640014
abbrev Reg.JRN_SEL : Nat := 0x640020
abbrev Reg.JRN_ENTRY : Nat := 0x640024
abbrev Reg.JRN_CTL : Nat := 0x640040
abbrev Reg.FW_CNT_ACTIVATIONS : Nat := 0x640050
abbrev Reg.FW_CNT_REVERTS : Nat := 0x640054
abbrev Reg.FW_CNT_DIGEST_FAIL : Nat := 0x640058
abbrev Reg.FW_CNT_BOOT_FAIL : Nat := 0x64005C
abbrev Reg.FW_LOCK : Nat := 0x6400FC
abbrev Reg.REC_CFG : Nat := 0x680000
abbrev Reg.REC_OP_SECONDS : Nat := 0x680004
abbrev Reg.REC_POWER_CYCLES : Nat := 0x680008
abbrev Reg.REC_RECORDS : Nat := 0x68000C
abbrev Reg.REC_CLEAR_USED : Nat := 0x680010
abbrev Reg.REC_CNT_FLUSH : Nat := 0x680014
abbrev Reg.REC_CNT_SATURATED : Nat := 0x680018
abbrev Reg.REC_CLOG_SEL : Nat := 0x680020
abbrev Reg.REC_CLOG_ENTRY : Nat := 0x680024
abbrev Reg.REC_LOCK : Nat := 0x6800FC
abbrev Reg.EL_THROTTLE : Nat := 0x6C0000
abbrev Reg.EL_TJ_D0 : Nat := 0x6C0004
abbrev Reg.EL_TJ_D1 : Nat := 0x6C0008
abbrev Reg.EL_RAIL_SEL : Nat := 0x6C000C
abbrev Reg.EL_RAIL_MV : Nat := 0x6C0010
abbrev Reg.EL_PPS_STATUS : Nat := 0x6C0014
abbrev Reg.EL_PPS_ERROR_NS : Nat := 0x6C0018
abbrev Reg.EL_CNT_PPS_REJECT : Nat := 0x6C001C
abbrev Reg.EL_CNT_THROTTLE_CHANGES : Nat := 0x6C0020

/-- How the register at an address is held; none where there is no register. -/
def regKind (a : Nat) : Option RegKind := (regBlock a).look a

/-- The LOCK register of the block an address lies in (R9). -/
def lockOf (a : Nat) : Nat := a / 0x40000 * 0x40000 + 0xFC

/-- Reset value of a register that software writes whole. -/
def regReset (a : Nat) : Nat :=
  match regKind a with
  | some (.cfg _ _ r) => r
  | _ => 0

end Sys2Proof.Machine
end

