-- ==== Sys2Proof/Machine/State.lean ====
section
/-! DEFINITION. The state of one K9: plain data, every piece of state the spec names. Counters are kept in maps keyed
by the CSR address of their counter register (a _LO/_HI pair under its _LO address); configuration registers that
software writes whole are kept in `State.csr` under their address, and read as their reset value until written. -/

namespace Sys2Proof.Machine

/-- Why the block stops. The spec gives every command of the table an effect (NOTES.md, Stops), so no meaning stops it. -/
inductive Fault where
  /-- Raised by no meaning; the type of Host/Core.lean has to be inhabited. Safe. -/
  | clockStopped
deriving DecidableEq, Repr

/-- Why a command has no meaning. -/
inductive Refusal where
  /-- Raised only by an arm of Dispatch.lean that has no meaning yet. Safe. -/
  | notModelled (mnemonic : String)
deriving DecidableEq, Repr

/-! ### What leaves the block -/

/-- One item of a Nirod reply (R360): its place in the list is its type, but for an error detail (Table CM-2). -/
inductive Item where
  | detail (type n : Nat)
  | num (n : Nat)
  | bytes (b : List Byte)
  | digest (d : Digest)
deriving DecidableEq, Repr

/-- A message, flit or bridge operation the K9 has sent. -/
inductive Emit where
  /-- A Nirod reply (R359): session, SEQ, opcode, status, items. -/
  | reply (session seq opcode status : Nat) (items : List Item)
  /-- An event packet to a subscriber (R388): index, SEQ, event number, offer time, number of log records carried. -/
  | eventPacket (sub seq ev time : Nat) (records : List Nat)
  /-- A packet handed to its link by EGRESS_SEND (R235). -/
  | packet (lport : Nat) (p : Packet)
  /-- What the link layer sends of its own: 0 NAK, 1 ACK, 2 FALLOW_REQ, 3 FALLOW_ACK, 4 KEY_SWITCH, 5 wake tone,
  6 lock burst, 7 replay; and its ACK_SEQ or key class. -/
  | linkCtl (lport kind value : Nat)
  /-- A tray-bridge operation (Table FM-1): 0 PAGE_READ, 1 PAGE_READ_RETRY, 2 PAGE_SOFT_READ, 3 PAGE_PROGRAM,
  4 PAGE_RELOCATE, 5 BLOCK_ERASE, 6 GEOMETRY, 7 DRAM read, 8 DRAM write, 9 TEMP_READ. -/
  | bridge (tray op : Nat) (args : List Nat)
  /-- A mirror record (Table SW-4): session, destination port, flags, SEQ, original bytes, copied bytes. -/
  | mirror (session lport flags seq orig copied : Nat)
  /-- An answer of the control port below Nirod (R358). -/
  | net (k : NetKind)
  /-- A word the JTAG port shifts out (R430). -/
  | jtag (w : BitVec 32)
deriving DecidableEq, Repr

/-! ### Time, pins and supplies (chapters 01, 20) -/

/-- The AON clock's registers: R17, R43, R428. -/
structure Clock where
  /-- TIME_NS : 64 bits; 01 R17; reset DESIGN CHOICE 0 (entry 3) -/
  timeNs : Nat
  /-- last accepted PPS_IN edge stamp (none since BOOT) : 64 bits; 20 R428; reset none -/
  ppsLast : Option Nat
  /-- the next accepted edge is the first after BOOT or PPS_LOST : 1 bit; 20 R428; reset 1 -/
  ppsFirst : Bool
  /-- e of the last accepted edge (EL_PPS_ERROR_NS) : 32 bits signed; 20 R436; reset 0 -/
  ppsError : Int
  /-- what is still to be slewed at 200 ppm, in 1/125 ns (one for each AON cycle) : signed; 20 R428; reset 0 -/
  slew : Int
  /-- the part of a nanosecond already slewed, in 1/125 ns : signed; 20 R428; reset 0 -/
  slewFrac : Int
  /-- PPS_LOCKED : 1 bit; 20 R428; reset 0 -/
  ppsLocked : Bool
  /-- the 16-bit placement tick : 16 bits; 02 R42 (text before it); reset DESIGN CHOICE 0 (entry 3) -/
  tick : BitVec 16
  /-- remainder of TIME_NS within the current second already counted into OP_SECONDS, ns; 19 R417; reset 0 -/
  opRemNs : Nat
deriving DecidableEq, Repr

/-- The board signals, rails, sensors and the TAP controller (R426 to R436). Active-low pins are held as "is low". -/
structure Pins where
  /-- group A supplies present : 1 bit; 20 R431; reset 1 -/
  powered : Bool
  /-- RESET_N is low : 1 bit; 20 R427; reset 0 -/
  resetLow : Bool
  /-- FAULT_N is low : 1 bit; 20 Table EL-4; reset 0 -/
  faultLow : Bool
  /-- THERMTRIP_N is low, latched : 1 bit; 20 R435; reset 0 -/
  thermtripLow : Bool
  /-- SLEEP_N is low : 1 bit; 20 R433; reset 0 -/
  sleepLow : Bool
  /-- SLEEP_N has risen on a wake, at this TIME_NS, and the rails are being restored; 20 R433; reset none -/
  railsPending : Option Nat
  /-- EVT_IN[7:0] as last sampled : 8 bits; 17 R380; reset DESIGN CHOICE 0xFF, the internal pull-ups of R426 (entry 3) -/
  evtIn : BitVec 8
  /-- the rail index a RAIL_UNDERVOLTAGE recorded for the next boot's first journal entry : 4 bits; 20 R432; reset none -/
  railDetail : Option Nat
  /-- millivolts of rails 0 to 11 as the monitors measure them : 16 bits each; 20 R436; reset 0 -/
  railMv : NMap Nat
  /-- EL_TJ_D0 in 0.1 C : 16 bits; 20 R436; reset 0 -/
  tjD0 : Nat
  /-- EL_TJ_D1 in 0.1 C : 16 bits; 20 R436; reset 0 -/
  tjD1 : Nat
  /-- throttle level : 2 bits; 14 R325, 20 R435; reset 0 -/
  throttle : Nat
  /-- TIME_NS of the last level change (none: no change yet) : 64 bits; 14 R325; reset none -/
  throttleAt : Option Nat
  /-- the JTAG instruction in force : 20 R430; reset PRESUMED IDCODE (IEEE 1149.1, entry 32) -/
  tap : Jtag
deriving DecidableEq, Repr

/-! ### Device state and power (chapters 16, 17) -/

/-- Table CM-3. -/
inductive DevState where
  | poweredOff
  | deepStandby
  | standby
  | boot
  | ready
  | serving
  | draining
  | activating
  | faulted
  | maintenance
deriving DecidableEq, Repr

/-- A POWER_STATE_SET entry that waits for the device to be quiet (R391). -/
structure Quiesce where
  /-- session of the POWER_STATE_SET that waits : 32 bits; 17 R391; exists only during entry -/
  session : Nat
  /-- its SEQ : 32 bits; 17 R391 -/
  seq : Nat
  /-- the target is DEEP_STANDBY : 1 bit; 17 R393 -/
  deep : Bool
  /-- TIME_NS at which the entry began : 64 bits; 17 R391 -/
  startNs : Nat
  /-- a wake that arrived during entry: an event number, 1,023 for WAKE_N (R392) -/
  wake : Option Nat
  /-- DEEP_STANDBY: the recalls and write-backs of R393 have been started -/
  flushing : Bool
deriving DecidableEq, Repr

/-- The device state machine and the units Table AR-6 gates. -/
structure Device where
  /-- CM_STATE.STATE : 8 bits; 16 R378; reset 3 BOOT -/
  state : DevState
  /-- CM_STATE.PRIOR_STATE : 8 bits; 16 R378; reset 0 -/
  prior : DevState
  /-- the state an activation, revert or STANDBY returns to : 16 R371; reset READY (not in use) -/
  resume : DevState
  /-- a STANDBY or DEEP_STANDBY entry waiting for quiet; 17 R391; reset none -/
  quiesce : Option Quiesce
  /-- POWER_STATE_SETs waiting for the running one (session, seq, target); 17 R392; reset empty -/
  powerWaiting : List (Nat × Nat × Nat)
  /-- REQ and REQ_ESC credits are withheld at every port; 17 R391; reset 0 -/
  creditsWithheld : Bool
  /-- PWR_STATE.CORES_ON : 8 bits; 17 R396; reset 0xFF -/
  coresOn : BitVec 8
  /-- cores that are restarting : 8 bits; 01 R21; reset 0 -/
  restarting : BitVec 8
  /-- TIME_NS of the restarts of each core in the last 60 s; 16 Table CM-3; reset empty -/
  restarts : NMap (List Nat)
  /-- PWR_STATE.HBM_SR : 8 bits; 17 R396; reset 0 -/
  hbmSr : BitVec 8
  /-- stacks leaving self-refresh : 8 bits; 01 R19; reset 0 -/
  hbmWaking : BitVec 8
  /-- PWR_WAKE_CAUSE : WAKE_N, COMMAND, EVENT, EVENT_NUM; 17 R396; reset 0, 0, 0, 1,023 -/
  wakeCause : Bool × Bool × Bool × Nat
  /-- single-die mode : 1 bit; 01 R12, 18 R402; reset 0 -/
  singleDie : Bool
  /-- the die-to-die bridge works : 1 bit; 16 R371; reset 1 -/
  bridgeUp : Bool
  /-- TIME_NS at which leases paused (STANDBY, DEEP_STANDBY); 13 R290; reset none -/
  pausedAt : Option Nat
  /-- the control port is in low-power listen : 1 bit; 01 Table AR-6; reset 0 -/
  ctrlListen : Bool
deriving DecidableEq, Repr

/-! ### Firmware and boot (chapter 18) -/

/-- A journal entry (Table FW-4). -/
structure JEntry where
  /-- BOOT_COUNT : 32 bits; 18 Table FW-4 -/
  bootCount : Nat
  /-- STEP : 8 bits; 18 Table FW-4 -/
  step : Nat
  /-- PATH : 4 bits; 18 Table FW-4 -/
  path : Nat
  /-- OUTCOME : 4 bits; 18 Table FW-4 -/
  outcome : Nat
  /-- BANK : 1 bit; 18 Table FW-4 -/
  bank : Nat
  /-- UNIT : 8 bits; 18 Table FW-4 -/
  unit : Nat
  /-- ELAPSED_US : 32 bits; 18 Table FW-4 -/
  elapsedUs : Nat
  /-- DETAIL : 32 bits; 18 Table FW-4 -/
  detail : Nat
deriving DecidableEq, Repr

/-- Table FW-5. -/
inductive UpdState where
  | idle
  | receiving
  | verified
  | activating
  | pendingConfirm
  | reverting
deriving DecidableEq, Repr

/-- One image bank (R397): its manifest and the image bytes of components 1 to 5. -/
structure Bank where
  /-- the bank's manifest (none: the bank holds no image written by an update) : 4,116 bytes; 18 R397, Table FW-1; reset DESIGN CHOICE none (entry 3) -/
  manifest : Option Manifest
  /-- image bytes of components 1 to 5 : 18 R397, R408; reset DESIGN CHOICE empty (entry 3) -/
  images : NMap (List Host.Cell)
deriving DecidableEq, Repr

/-- The package flash's firmware records, the boot sequencer and the update. -/
structure Firmware where
  /-- the step BOOT is running (1 to 14) : 18 R400; reset 1 -/
  step : Nat
  /-- TIME_NS when step 1 began : 64 bits; 18 Table FW-4; reset 0 -/
  stepOneNs : Nat
  /-- TIME_NS when the present step began : 64 bits; 18 R400; reset 0 -/
  stepNs : Nat
  /-- FAULTED at step 1, 3 or 4: the boot ROM answers NOP and DEVICE_INFO in session 0 only : 1 bit; 18 R406; reset 0 -/
  romOnly : Bool
  /-- this boot came from DEEP_STANDBY (step 12 runs) : 1 bit; 18 Table FW-3; reset 0 -/
  fromDeep : Bool
  /-- FW_BOOT_COUNT : 32 bits; 18 R416; reset DESIGN CHOICE 0 (entry 3) -/
  bootCount : Nat
  /-- the journal, newest entry first, at most 4,096; 18 R404; reset DESIGN CHOICE empty (entry 3) -/
  journal : List JEntry
  /-- FW_BOOT_PATH.ALTERNATE : 16 bits; 18 R416; reset 0 -/
  alternate : BitVec 16
  /-- FW_BOOT_PATH.SKIPPED : 16 bits; 18 R416; reset 0 -/
  skipped : BitVec 16
  /-- alternates of steps 5, 6, 10 and the skip of 9 that persist : 16 bits; 18 R405; reset DESIGN CHOICE 0 (entry 3) -/
  persistent : BitVec 16
  /-- JRN_CTL.CLEAR_PATHS was written : 1 bit; 18 R405; reset 0 -/
  clearPaths : Bool
  /-- boots of the bank while unconfirmed : 18 R405; reset 0 -/
  unconfirmedBoots : Nat
  /-- the bank the pointer record names : 1 bit; 18 R397; reset DESIGN CHOICE 0 (entry 3) -/
  bank : Nat
  /-- this boot runs the bank that the pointer record does not name : 1 bit; 18 R405; reset 0 -/
  other : Bool
  /-- the confirm flag of the bank pointer record : 1 bit; 18 R397; reset DESIGN CHOICE 1 (entry 3) -/
  confirmed : Bool
  /-- BANK_0 and BANK_1; 18 R397; reset DESIGN CHOICE empty (entry 3) -/
  bank0 : Bank
  bank1 : Bank
  /-- rollback counter : 8 bits; 18 R399; reset DESIGN CHOICE 0 (entry 3) -/
  rollback : Nat
  /-- update state : 3 bits; 18 R416; reset DESIGN CHOICE IDLE (entry 3) -/
  upd : UpdState
  /-- update handle : 32 bits; 18 R408; reset 0 -/
  handle : Nat
  /-- staged manifest digest; 18 R410; reset none -/
  staged : Option Digest
  /-- HEALTH_CONFIRM deadline, TIME_NS; 18 R414; reset none -/
  confirmBy : Option Nat
  /-- the load phase of an activation or revert is running; 18 R412; reset 0 -/
  loading : Bool
  /-- units that still have to switch; 18 R412; reset empty -/
  switching : List SwUnit
  /-- who waits for FW_ACTIVATE's reply (session, seq); 18 R412; reset none -/
  activator : Option (Nat × Nat)
  /-- block 8 records a revert : 1 bit; 14 R309; reset 0 -/
  reverted : Bool
  /-- latched JRN_SEL entry; 18 R416; reset none -/
  jrnLatch : Option JEntry
  /-- stored LK_PORT_CFG values per logical port; 18 R401; reset DESIGN CHOICE empty (entry 3) -/
  storedPorts : NMap Word
deriving DecidableEq, Repr

/-! ### Nirod (chapter 16) -/

/-- Authority classes of R300. -/
inductive Cls where
  | fabricManager
  | owner
  | observer
deriving DecidableEq, Repr

/-- A cached reply (R366). -/
structure Cached where
  /-- SEQ : 32 bits; 16 R366 -/
  seq : Nat
  /-- opcode : 16 bits; 16 R366 -/
  opcode : Nat
  /-- status : 8 bits; 16 R366 -/
  status : Nat
  /-- reply items; 16 R366 -/
  items : List Item
deriving DecidableEq, Repr

/-- A command admitted and not answered: its SEQ, opcode and message time (R366, R369). -/
structure Running where
  /-- SEQ : 32 bits; 16 R366 -/
  seq : Nat
  /-- opcode : 16 bits; 16 R366 -/
  opcode : Nat
  /-- message time, TIME_NS : 64 bits; 16 R369 -/
  mtime : Nat
  /-- the command has been started (R369) -/
  started : Bool
deriving DecidableEq, Repr

/-- A colophon snapshot (R376): identity, size in bytes, when last read. -/
structure Snapshot where
  /-- SNAPSHOT_ID : 32 bits; 16 R376 -/
  id : Nat
  /-- the record captured; 16 R376 -/
  bytes : List Byte
  /-- TIME_NS of the last read : 64 bits; 16 R376 -/
  readNs : Nat
deriving DecidableEq, Repr

/-- An SPDM secure session and its Nirod binding (R311, R363, R366). -/
structure Session where
  /-- digest of the key that signed FINISH; none until FINISH -/
  signer : Option Digest
  /-- bound class, none while unbound -/
  cls : Option Cls
  /-- handle of the bound composition, 256 where none : 9 bits; 16 R363; at key exchange 256 -/
  comp : Nat
  /-- COMP_ID it was bound with : 16 bits; 13 R300; 0 -/
  compId : Nat
  /-- PART_BYTES : 16 bits; 16 R363; 0 until SESSION_OPEN -/
  partBytes : Nat
  /-- H of R366 -/
  high : Nat
  /-- recorded SEQs of the window below H : 16 R366; empty -/
  recorded : List Nat
  /-- reply cache of 256 entries; 16 R366; empty -/
  cache : List Cached
  /-- admitted commands without a reply, at most 32; 16 R366; empty -/
  running : List Running
  /-- NONCE_EXT count of encrypted uncached replies : 24 bits; 16 R362; 0 -/
  nonceExt : Nat
  /-- TIME_NS of the last command : 64 bits; 16 R363 -/
  lastCmdNs : Nat
  /-- IDLE_S in force: a change applies from the session's next command (R378) -/
  idleS : Nat
  /-- snapshots, at most 4; 16 R376; empty -/
  snaps : List Snapshot
  /-- next SNAPSHOT_ID : 32 bits; 16 R376; 1 -/
  nextSnap : Nat
  /-- messages received under the present key : 33 bits; 14 R311; 0 -/
  rxMsgs : Nat
  /-- messages sent under the present key : 33 bits; 14 R311; 0 -/
  txMsgs : Nat
  /-- CHUNK_SEQ of the last exported chunk; the lowest CHUNK_SEQ an import still accepts (R312, R313) -/
  exportSeq : Nat
  importSeq : Nat
deriving DecidableEq, Repr

/-- A message being assembled (R361). -/
structure Assembly where
  /-- session : 32 bits; 16 R361 -/
  session : Nat
  /-- SEQ : 32 bits; 16 R361 -/
  seq : Nat
  /-- opcode : 16 bits; 16 R361 -/
  opcode : Nat
  /-- TIME_NS of the first part : 64 bits; 16 R361 -/
  firstNs : Nat
  /-- index of the last part, once seen : 16 bits; 16 R361 -/
  last : Option Nat
  /-- parts received, by index; 16 R361 -/
  parts : NMap (List Byte)
deriving DecidableEq, Repr

/-- What a command acts on, for R300 and R301: a composition, an extent, a member's logical port. -/
structure Target where
  /-- composition handle : 8 bits; 13 R300 -/
  comp : Option Nat
  /-- EXTENT_ID : 32 bits; 13 R300 -/
  extent : Option Nat
  /-- member's logical port : 8 bits; 13 R301 -/
  member : Option Nat
deriving DecidableEq, Repr

/-- A command that passed step 6 in the present message time (R301). -/
structure Recent where
  /-- message time : 64 bits; 16 R369, 13 R301 -/
  mtime : Nat
  /-- session : 32 bits; 13 R301 -/
  session : Nat
  /-- SEQ : 32 bits; 13 R301 -/
  seq : Nat
  /-- class : 2 bits; 13 R301 -/
  cls : Cls
  /-- opcode : 16 bits; 13 R301 -/
  opcode : Nat
  /-- target; 13 R301 -/
  target : Target
deriving DecidableEq, Repr

/-- The command protocol's state. -/
structure Nirod where
  /-- commands of the present message time, for contradictions; 16 R368 step 10; reset empty -/
  recent : List Recent
  /-- commands that wait for a restarting core, with their session; 01 R21; reset empty -/
  deferred : List (Nat × Instr)
  /-- SPDM sessions by SESSION_ID (at most 64); 14 R311, 16 R363; reset empty -/
  sessions : NMap Session
  /-- messages being assembled; 16 R361; reset empty -/
  asm : List Assembly
  /-- next SPDM session ID; DESIGN CHOICE (entry 14); reset 1 -/
  nextSession : Nat
  /-- CM_FM_KEY slots 0 to 3; 16 R378; reset 0 -/
  fmKeys : NMap Digest
  /-- nonce of the latest SEC_STATUS reply; 14 R327; reset none -/
  nonce : Option Digest
deriving DecidableEq, Repr

/-! ### Compositions (chapter 13) -/

inductive CompState where
  | active
  | expired
  | destroying
deriving DecidableEq, Repr

/-- A bound member (R286, R289). -/
structure Member where
  /-- logical port : 8 bits; 13 R286 -/
  lport : Nat
  /-- NODE_ID : 12 bits; 13 R286 -/
  node : Nat
  /-- TIME_NS at which the member lease ends : 64 bits; 13 R289 -/
  leaseEnd : Nat
  /-- its lease expired inside an open drain window (R289) -/
  lapsed : Bool
deriving DecidableEq, Repr

/-- The meters of Table CP-5 in exact nanosecond units (amount times ns), and the current amounts. -/
structure Meters where
  /-- CREATED_NS : 64 bits; 13 R302 -/
  createdNs : Nat
  /-- RESIDENT_NS : 64 bits; 13 R302; 0 at COMP_CREATE -/
  resident : Nat
  /-- PRESS_NS : 64 bits; 13 R302; 0 -/
  press : Nat
  /-- LANE_US, kept in lane ns : 64 bits; 13 R302; 0 -/
  lane : Nat
  /-- T0_FRAME_MS, kept in frame ns : 64 bits; 13 R302; 0 -/
  t0Frame : Nat
  /-- T1_CHUNK_MS, kept in chunk ns : 64 bits; 13 R302; 0 -/
  t1Chunk : Nat
  /-- T2_SHEAF_S, kept in sheaf ns : 64 bits; 13 R302; 0 -/
  t2Sheaf : Nat
  /-- FURROW_SLOT_NS : 64 bits; 13 R302; 0 -/
  furrow : Nat
deriving DecidableEq, Repr

/-- A registered codebook (R165): its 64 KiB as bytes. -/
structure Codebook where
  /-- generation : 16 bits; 07 R167; 0 before the first VQ_CODEBOOK_SET -/
  gen : Nat
  /-- registered : 1 bit; 07 R166 -/
  registered : Bool
  /-- the 64 KiB of entries; 07 R165 -/
  bytes : List Byte
deriving DecidableEq, Repr

/-- A binding slot (R322, R323): the record's WEIGHT_DIGEST, the chunks imported so far (headers included) and the
lowest CHUNK_SEQ an import still accepts. -/
structure BindSlot where
  /-- WEIGHT_DIGEST of the binding record : 256 bits; 14 R322 -/
  weightDigest : Digest
  /-- chunks imported under the slot, headers included; 14 R323 -/
  imported : List Byte
  /-- lowest CHUNK_SEQ an import under the slot accepts : 32 bits; 14 R313 -/
  nextSeq : Nat
deriving DecidableEq, Repr

/-- One composition instance. -/
structure Comp where
  /-- COMP_ID : 16 bits; 13 R282 -/
  compId : Nat
  /-- OWNER_ID : 256 bits; 13 R282 -/
  ownerId : Digest
  /-- FORM is SLICE : 1 bit; 13 R283 -/
  slice : Bool
  /-- ORDERING is RELEASE_FLAG : 1 bit; 13 Table CP-1 -/
  releaseFlag : Bool
  /-- ISOLATION is FURROW : 1 bit; 13 Table CP-1 -/
  furrow : Bool
  /-- CONFIDENTIAL : 1 bit; 13 Table CP-1 -/
  confidential : Bool
  /-- PRESS_MASK : 8 bits; 13 Table CP-1 -/
  pressMask : BitVec 8
  /-- STACK_MASK : 8 bits; 13 Table CP-1 -/
  stackMask : BitVec 8
  /-- FP_MASK : 32 bits; 13 Table CP-1 -/
  fpMask : BitVec 32
  /-- LEASE_S : 32 bits; 13 R288 -/
  leaseS : Nat
  /-- MEMBER_LEASE_MS : 32 bits; 13 R289 -/
  memberLeaseMs : Nat
  /-- DRAIN_US : 32 bits; 13 R291 -/
  drainUs : Nat
  /-- ACTIVE, EXPIRED or DESTROYING : 2 bits; 13 R288, R299 -/
  state : CompState
  /-- map epoch : 32 bits; starts at 1 (R282) -/
  epoch : Nat
  /-- drain window open until TIME_NS (R291) -/
  windowEnd : Option Nat
  /-- previous extent table while the window is open: (EXTENT_ID, base, size) (R292) -/
  prevMap : List (Nat × Nat × Nat)
  /-- TIME_NS at which the lease ends : 64 bits; 13 R288 -/
  leaseEnd : Nat
  /-- bound members; 13 R286; empty -/
  members : List Member
  /-- observer digests, at most 4 : 256 bits each; 13 R300; empty -/
  observers : List Digest
  /-- POOL_COMP_DEADLINE; reset 50,000 -/
  deadlineUs : Nat
  /-- POOL_COMP_PIN_QUOTA; reset 0 -/
  pinQuota : Nat
  /-- per-composition counters by CSR address; cleared at COMP_CREATE -/
  cnt : NMap Nat
  /-- the meters of Table CP-5; 13 R302 -/
  meters : Meters
  /-- codebooks by CB_ID 0 to 63; 07 R165; empty -/
  codebooks : NMap Codebook
  /-- binding slots 0 to 15; 14 R322; empty -/
  bindSlots : NMap BindSlot
  /-- a slice's COMP_CREATE still waits for foreign leaves to leave (session, seq) (R284) -/
  evicting : Option (Nat × Nat)
  /-- the COMP_DESTROY that waits for its end (session, seq) (R299) -/
  destroyer : Option (Nat × Nat)
deriving DecidableEq, Repr

/-! ### The pool (chapters 02, 03) -/

inductive TierPolicy where
  | t1Home
  | t1NoCache
  | t2Home
  | t2T1Only
deriving DecidableEq, Repr

inductive Durability where
  | single
  | mirrored
  | replicated
deriving DecidableEq, Repr

inductive Hint where
  | pinHot
  | warm
  | cold
deriving DecidableEq, Repr

inductive ExtState where
  | active
  | sealed
  | revoking
  | revoked
  | held
deriving DecidableEq, Repr

/-- A T0 copy of a leaf. -/
structure T0Leaf where
  /-- HBM stack that holds the copy : 3 bits; 02 R38 -/
  stack : Nat
  /-- dirty : 1 bit; 02 R36 -/
  dirty : Bool
deriving DecidableEq, Repr

/-- A chunk record (R36) and the home placement of R39. -/
structure Chunk where
  /-- home tray : 5 bits; 02 R36, R39 -/
  tray : Nat
  /-- mirror tray : 5 bits; 02 R47 -/
  mirror : Option Nat
  /-- the mirror copy is stale: the tray whose copy must be rebuilt (R47) -/
  stale : Option Nat
  /-- hint class : 2 bits; 02 R36, R42 -/
  hint : Hint
  /-- recency stamp : 16 bits; 02 R36 -/
  stamp : BitVec 16
  /-- leaves with a T0 copy; 02 R36 -/
  t0 : NMap T0Leaf
  /-- T2 homes: the chunk is cached in T1 -/
  inT1 : Bool
  /-- T2 homes: the T1 copy is dirty -/
  t1Dirty : Bool
  /-- leaves (0 to 63) of a T2 chunk on its way into T1 that have not landed yet (R23) -/
  arriving : List Nat
  /-- the T1 copy is to be dropped once it is clean (EVICT_NOW, Table MT-5) -/
  dropT1 : Bool
deriving DecidableEq, Repr

/-- A version-counter group of a PROTECTED extent (Table SE-4). -/
structure CtrGroup where
  /-- MAJOR : 45 bits; 14 R317 -/
  major : Nat
  /-- MINOR counters of the 128 lines : 7 bits each; 14 R317; 0 -/
  minors : NMap Nat
deriving DecidableEq, Repr

/-- The mark of a VQ slot (R173, R174). -/
inductive Mark where
  | tierLost
  | lengthFault
  | blockFormat
deriving DecidableEq, Repr

/-- One extent. -/
structure Extent where
  /-- owning composition : 8 bits; 02 R29 -/
  comp : Nat
  /-- BASE : 57 bits; 02 R30 -/
  base : Nat
  /-- SIZE : 57 bits; 02 R30 -/
  size : Nat
  /-- TIER_POLICY : 2 bits; 02 Table MT-2 -/
  tier : TierPolicy
  /-- LAYOUT is VQ : 1 bit; 02 Table MT-2 -/
  vq : Bool
  /-- PROTECTION is PROTECTED : 1 bit; 02 Table MT-2 -/
  isProtected : Bool
  /-- DURABILITY : 2 bits; 02 Table MT-2 -/
  durability : Durability
  /-- STACK_AFFINITY, 15 for ANY : 4 bits; 02 Table MT-2 -/
  affinity : Nat
  /-- SLOT_LINES : 8 bits; 02 Table MT-2 -/
  slotLines : Nat
  /-- HOME_TRAYS : 24 bits; 02 Table MT-2 -/
  homeTrays : BitVec 24
  /-- REPLICA : 32 bits; 02 Table MT-2 -/
  replica : BitVec 32
  /-- INITIAL_HINT : 2 bits; 02 Table MT-2 -/
  initialHint : Hint
  /-- ACTIVE, SEALED, REVOKING, REVOKED or HELD : 3 bits; 02 R33, R62 -/
  state : ExtState
  /-- key of the extent's bytes in the pool memory (survives adoption) -/
  store : Nat
  /-- first logical sheaf (T2 homes) -/
  sheafBase : Option Nat
  /-- chunk records by chunk index; 02 R36 -/
  chunks : NMap Chunk
  /-- leaves that have been written (R32), ascending -/
  written : List Nat
  /-- poisoned leaf (PLAIN) or slot (VQ) -> lines written again since (R57, R174) -/
  poison : NMap (List Nat)
  /-- marks of poisoned VQ slots -/
  marks : NMap Mark
  /-- EXTENT_SEAL running (session, seq) (R48) -/
  sealer : Option (Nat × Nat)
  /-- EXTENT_DRAIN commands that wait (session, seq) (R297) -/
  drainers : List (Nat × Nat)
  /-- version counters by 16 KiB group (R317) -/
  counters : NMap CtrGroup
  /-- generation of the MAC key; a re-key in progress (R319) -/
  macGen : Nat
  /-- a re-key of the extent is in progress : 1 bit; 14 R319; 0 -/
  rekeying : Bool
  /-- leaves whose replica fetch is running or waits for its retry (R79) -/
  replicaFetch : NMap Bool
deriving DecidableEq, Repr

/-- Table MT-9 states. -/
inductive KvState where
  | filling
  | ready
  | retiring
deriving DecidableEq, Repr

/-- A KV object record (R54 to R57). -/
structure Kv where
  /-- KEY : 128 bits; 02 R55 -/
  key : BitVec 128
  /-- EXTENT_ID : 32 bits; 02 Table MT-9 -/
  extent : Nat
  /-- OBJ_OFFSET : 57 bits; 02 Table MT-9 -/
  objOffset : Nat
  /-- L : 16 bits; 02 Table MT-9 -/
  layers : Nat
  /-- H : 16 bits; 02 Table MT-9 -/
  heads : Nat
  /-- P : 32 bits; 02 Table MT-9 -/
  pages : Nat
  /-- D : 16 bits; 02 Table MT-9 -/
  dim : Nat
  /-- the format of a PLAIN object is BF16 : 1 bit; 02 Table MT-9 -/
  bf16 : Bool
  /-- FILLING, READY or RETIRING : 2 bits; 02 R56 -/
  state : KvState
  /-- references : 16 bits; 02 R56; 0 -/
  refs : Nat
  /-- implicit references of running OP_ATTENDs -/
  implicit : Nat
  /-- TIME_NS at which the lease ends : 64 bits; 02 R56 -/
  leaseEnd : Nat
  /-- lost quires, ascending, reported as at most 1,024 ranges; 02 R57; empty -/
  lost : List Nat
deriving DecidableEq, Repr

/-- What a leaf move does (R26, R45). -/
inductive MoveKind where
  | promote
  | writeBack
  | evict
deriving DecidableEq, Repr

/-- A leaf move in progress (R26). -/
structure Move where
  /-- EXTENT_ID : 32 bits; 01 R26 -/
  extent : Nat
  /-- leaf of the extent; 01 R26 -/
  leaf : Nat
  /-- promotion, write-back or eviction; 02 R45 -/
  kind : MoveKind
  /-- stack the T0 frame lies in : 3 bits; 02 R38 -/
  stack : Nat
  /-- lines marked by a store during the copy; 01 R26 -/
  marked : List Nat
  /-- successive recopies : 2 bits; 01 R26; 0 -/
  recopies : Nat
deriving DecidableEq, Repr

/-- A queued background move (R46). -/
structure Background where
  /-- EXTENT_ID : 32 bits; 02 R46 -/
  extent : Nat
  /-- leaf of the extent; 02 R46 -/
  leaf : Nat
  /-- what the move does; 02 R46 -/
  kind : MoveKind
  /-- tray whose port it loads : 5 bits; 02 R46 -/
  tray : Nat
deriving DecidableEq, Repr

/-- The pool. -/
structure Pool where
  /-- the pool's bytes, at store * 2^57 + offset; an unlisted address reads 0 (R32); reset empty -/
  mem : List Host.Cell
  /-- extents by EXTENT_ID; 02 R29; reset empty -/
  extents : NMap Extent
  /-- next EXTENT_ID : 32 bits; 02 R29; reset DESIGN CHOICE 1 (entry 14) -/
  nextExtent : Nat
  /-- next key of pool bytes: the model's own; reset 0 -/
  nextStore : Nat
  /-- KV objects by handle; 02 R54; reset empty -/
  kv : NMap Kv
  /-- next KV handle : 32 bits; 02 R54; reset DESIGN CHOICE 1 (entry 14) -/
  nextKv : Nat
  /-- leaf moves in progress; 02 R26; reset empty -/
  moves : List Move
  /-- background moves waiting; 02 R46; reset empty -/
  background : List Background
  /-- the translation caches: (die, handle, key) recently used; 02 R36; reset empty -/
  xlat : List (Nat × Nat × Nat)
  /-- SEC_IMPORT or SEC_EXPORT running: session, seq, status, items; 14 R313; reset empty -/
  ioRunning : List (Nat × Nat × Nat × List Item)
deriving DecidableEq, Repr

/-- Table FM-5 and FLASH_TRAY_STATE. -/
inductive TrayState where
  | absent
  | normal
  | spareLow
  | worn
  | rejected
deriving DecidableEq, Repr

/-- A superblock (R66, R72 to R77). -/
structure Superblock where
  /-- closed : 1 bit; 03 R70 -/
  closed : Bool
  /-- valid logical sheaves it holds; 03 R70 -/
  valid : List Nat
  /-- next sheaf slot to program; 03 R70 -/
  next : Nat
  /-- erase count : 32 bits; 03 R74 -/
  erases : Nat
  /-- read counter : 32 bits; 03 R77 -/
  reads : Nat
  /-- equivalent age at 40 C, ns : 64 bits; 03 R76 -/
  ageNs : Nat
  /-- dies whose block is to be retired once its sheaves have moved (R78) -/
  retire : List Nat
  /-- why its sheaves move: 0 none, 1 GC, 2 refresh, 3 disturb, 4 wear -/
  moving : Nat
deriving DecidableEq, Repr

/-- A flash-map entry (Table FM-2). -/
structure MapEntry where
  /-- VALID : 1 bit; 03 Table FM-2 -/
  valid : Bool
  /-- CACHED : 1 bit; 03 Table FM-2 -/
  cached : Bool
  /-- POISON : 1 bit; 03 Table FM-2 -/
  poison : Bool
  /-- TRAY : 5 bits; 03 Table FM-2 -/
  tray : Nat
  /-- T1_FRAME; 03 Table FM-2 -/
  frame : Nat
  /-- superblock; 03 Table FM-2 -/
  sb : Nat
  /-- sheaf slot in the superblock; 03 Table FM-2 -/
  slot : Nat
deriving DecidableEq, Repr

/-- A page on the retry ladder (R75): tray, logical sheaf, page, step 1 to 9. -/
structure Ladder where
  /-- tray : 5 bits; 03 R75 -/
  tray : Nat
  /-- logical sheaf; 03 R75 -/
  sheaf : Nat
  /-- page of the sheaf; 03 R75 -/
  page : Nat
  /-- ladder step 1 to 9 : 4 bits; 03 R75 -/
  step : Nat
deriving DecidableEq, Repr

/-- One tray slot. -/
structure Tray where
  /-- FLASH_TRAY_STATE.STATE : 3 bits; 03 R81; reset ABSENT -/
  state : TrayState
  /-- TRAY logical port it answers on : 8 bits; 03 R65; reset none -/
  lport : Option Nat
  /-- geometry returned at attach; 03 R65, Table FM-1; reset 0 (no tray) -/
  geom : Geometry
  /-- FLASH_TRAY_FREE_SB : 24 bits; 03 R81; reset 0 -/
  freeSb : Nat
  /-- FLASH_TRAY_GOOD_SB : 24 bits; 03 R81; reset 0 -/
  goodSb : Nat
  /-- FLASH_TRAY_RESERVE_SB : 24 bits; 03 R81; reset 0 -/
  reserve : Nat
  /-- superblock records; 03 R70, R72; reset empty -/
  sbs : NMap Superblock
  /-- superblock open for write-backs; 03 R70; reset none -/
  openWrite : Option Nat
  /-- superblock open for relocations; 03 R70; reset none -/
  openMove : Option Nat
  /-- sequence number of the next program : 64 bits; 03 R67; reset 0 -/
  writeSeq : Nat
  /-- programs since the last checkpoint; 03 R69; reset 0 -/
  sinceCkpt : Nat
  /-- TIME_NS of the last checkpoint : 64 bits; 03 R69; reset 0 -/
  ckptNs : Nat
  /-- checkpoint superblock to write next : 1 bit; 03 R69; reset 0 -/
  ckptWhich : Nat
  /-- last flash temperature, 0.1 C : 16 bits; 03 R76; reset 0 -/
  tempDeciC : Nat
  /-- garbage-collection urgent condition : 1 bit; 03 R72; reset 0 -/
  urgent : Bool
  /-- FLASH_ENDURANCE has been raised : 1 bit; 03 Table FM-5; reset 0 -/
  endurance : Bool
  /-- rated program and erase cycles : 16 bits; 03 R65; reset 0 -/
  ratedCycles : Nat
  /-- spare blocks used, per die; 03 R78; reset empty -/
  spares : NMap Nat
  /-- counters of Table FM-7 by CSR address : 32 bits each; 03 R81; reset 0 -/
  cnt : NMap Nat
  /-- pages on the retry ladder; 03 R75; reset empty -/
  ladder : List Ladder
  /-- relocations in progress; 03 R73; reset empty -/
  relocating : List (Nat × Nat × Nat × Nat)
  /-- programs in progress; 03 R71; reset empty -/
  programming : List (Nat × Nat × Nat)
deriving DecidableEq, Repr

/-! ### Presses and operations (chapters 04 to 07, 15) -/

/-- PRESS_STATE.STATE (Table PS-12). -/
inductive PressState where
  | fallow
  | waking
  | lit
  | switching
  | scrubbing
  | resetting
  | offline
deriving DecidableEq, Repr

/-- A chain running on an engine (R98, R340). -/
structure Chain where
  /-- matrix engine 0 to 4 : 3 bits; 04 R98 -/
  engine : Nat
  /-- seed it belongs to; 04 R98 -/
  seed : Nat
  /-- tiles sampled; 15 R337 -/
  sampled : Nat
  /-- verdicts given; 15 R340 -/
  verdicts : Nat
  /-- the engine has stopped for a tie-break : 1 bit; 15 R341 -/
  stopped : Bool
  /-- it has been replayed : 1 bit; 15 R341 -/
  replayed : Bool
  /-- the mismatch was injected by a rehearsal (Table FT-7) -/
  injected : Bool
deriving DecidableEq, Repr

/-- One press. -/
structure Press where
  /-- PRESS_STATE.STATE : 3 bits; 04 Table PS-12; reset 0 FALLOW -/
  state : PressState
  /-- current context: composition handle -/
  ctx : Option Nat
  /-- bits 0 to 4 : MATRIX_n fenced (package flash, R344) -/
  fenced : BitVec 5
  /-- chains running on its engines; 04 R98; reset empty -/
  chains : List Chain
  /-- the quantum has expired, no new chain of the context starts (R106) -/
  expired : Bool
  /-- TIME_NS at which the context's quantum began : 64 bits; 04 R105; reset 0 -/
  quantumNs : Nat
  /-- pool sizes in force since the last wake or switch (R109) -/
  drillSlots : Nat
  /-- reduce slots in force : 11 bits; 04 R109; reset 128 -/
  reduceSlots : Nat
  /-- drill lanes in force : 6 bits; 04 R109; reset 32 -/
  lanes : Nat
  /-- AHEAD in force : 8 bits; 04 R109; reset 64 -/
  ahead : Nat
  /-- slots retired by repeated parity errors (R336) -/
  retired : List Nat
  /-- codebook store places filled (R168), and the codebook whose norms are formed -/
  store : List Nat
  norms : Option Nat
  /-- engines that must pass a sweep before they take a chain (R345) -/
  mustSweep : BitVec 5
  /-- engines that still owe a sweep pass in this period (R348) -/
  sweepDue : BitVec 5
  /-- TIME_NS of each engine's last sweep pass (R346) -/
  lastPass : NMap Nat
  /-- engine last served by MATRIX_4 (R337) -/
  lastShadow : Nat
  /-- pending rehearsal: the next verdict is forced to mismatch -/
  forceMismatch : Bool
  /-- PRESS_RESETs that wait (session, seq) (R342) -/
  resetter : List (Nat × Nat)
  /-- counters of Table PS-12 by the address in PRESS_0's block : 32 or 64 bits each; 04 R110; reset 0 -/
  cnt : NMap Nat
deriving DecidableEq, Repr

/-- Table PS-5. -/
inductive SeedState where
  | waiting
  | active
  | parked
  | done
  | failed
deriving DecidableEq, Repr

/-- What a seed computes. -/
inductive SeedKind where
  | select (head : Nat)
  | span (head idx : Nat)
  | merge (head node left right : Nat)
  | block (first : Nat)
  | final
  | rows (first count : Nat)
  | filter (first count : Nat)
  | encode (leaf : Nat)
  | partials (q : Nat)
deriving DecidableEq, Repr

/-- A leaf a seed fetches: extent, leaf index. -/
structure LeafRef where
  /-- EXTENT_ID : 32 bits; 04 R97 -/
  extent : Nat
  /-- leaf of the extent; 04 R97 -/
  leaf : Nat
deriving DecidableEq, Repr

/-- A seed-table slot: the descriptor fields of Table PS-4 that change, and the ledger record of Table FT-3. -/
structure Seed where
  /-- operation; 04 Table PS-4 OP_SLOT -/
  op : Nat
  /-- INDEX; 04 Table PS-4 -/
  index : Nat
  /-- COMP : 8 bits; 04 Table PS-4 -/
  comp : Nat
  /-- PRESS : 3 bits; 04 Table PS-4 -/
  press : Nat
  /-- STATE : 3 bits; 04 Table PS-5 -/
  state : SeedState
  /-- what the seed computes; 04 R91 -/
  kind : SeedKind
  /-- DEP fields: seeds it waits for; 04 Table PS-4 -/
  deps : List Nat
  /-- SEED_DONE dependencies met (completions that reached this press) -/
  met : List Nat
  /-- chains in all; 04 Table PS-4 -/
  chains : Nat
  /-- CHAINS_DONE; 04 Table PS-4 -/
  chainsDone : Nat
  /-- chains started; 04 R98 -/
  chainsStarted : Nat
  /-- RESUME_FIRST : 1 bit; 04 Table PS-4 -/
  resumeFirst : Bool
  /-- leaves it fetches; 04 R97 -/
  leaves : List LeafRef
  /-- leaves fetched; 04 R97 -/
  fetched : Nat
  /-- a leaf answered poisoned : 1 bit; 04 R96 -/
  poisoned : Bool
  /-- the slot whose block is held for a refetch (R173) -/
  refetch : Option Nat
  /-- TILES_DONE; 15 Table FT-3 -/
  tilesDone : Nat
  /-- TILES_SAMPLED; 15 Table FT-3 -/
  tilesSampled : Nat
  /-- REPLAYS; 15 Table FT-3 -/
  replays : Nat
  /-- ENGINES : 5 bits; 15 Table FT-3 -/
  engines : BitVec 5
  /-- the seed has moved to another press : 1 bit; 15 R343 -/
  moved : Bool
  /-- replayed for a check mismatch : 1 bit; 15 R341 -/
  checkReplay : Bool
  /-- replayed for a parity error : 1 bit; 15 R336 -/
  parityReplay : Bool
  /-- ACTIVATE_NS : 64 bits; 15 Table FT-3 -/
  activateNs : Nat
  /-- COMMIT_NS : 64 bits; 15 Table FT-3 -/
  commitNs : Nat
  /-- STEP_SEQ : 32 bits; 15 Table FT-3 -/
  stepSeq : Nat
deriving DecidableEq, Repr

/-- Table CO-2 kinds of operations held as operation records. -/
inductive OpKind where
  | fill | copy | compare | nmReduce
  | allReduce | reduceScatter | reduceToMem
  | gather | scatter
  | filterPredicate | filterThreshold | filterTopk | filterBlockSelect
  | attend | encode
deriving DecidableEq, Repr

/-- Where an operation stands. -/
inductive OpPhase where
  | waiting
  | running
  | ledger
deriving DecidableEq, Repr

/-- One contributor of a reduce instance: its descriptor's header, and the 64-byte words received. -/
structure Contrib where
  /-- contributor index : 8 bits; 05 R115 -/
  index : Nat
  /-- header of its descriptor (none until it arrives); 05 R118 -/
  hdr : Option Hdr
  /-- OP_ID : 32 bits; 05 R120 -/
  opId : Nat
  /-- 64-byte words received; 05 R120 -/
  words : NMap (List Byte)
  /-- its step-ledger job and STEP_SEQ (R350) -/
  job : Option Nat
  stepSeq : Nat
  /-- the member has been unbound: its OP_RESULTs are discarded (R293) -/
  mute : Bool
deriving DecidableEq, Repr

/-- An operation record (R91, R92, R111). -/
structure Op where
  /-- KIND : 8 bits; 05 Table CO-2 -/
  kind : OpKind
  /-- composition handle : 8 bits; 05 R111 -/
  comp : Nat
  /-- OP_SUBMIT header; 05 R111 -/
  hdr : Hdr
  /-- the descriptor : 256 bytes; 05 R111 -/
  desc : List Byte
  /-- waiting, running or writing its ledger entry; 05 R113, 15 R351 -/
  phase : OpPhase
  /-- TIME_NS of acceptance : 64 bits; 05 R113 -/
  acceptNs : Nat
  /-- order of acceptance: the model's own -/
  order : Nat
  /-- TIMEOUT deadline, TIME_NS; 05 Table CO-1 -/
  timeoutAt : Option Nat
  /-- TIME_NS of the first stall; 02 R60 -/
  firstStall : Option Nat
  /-- its seeds; 04 R92 -/
  seeds : List Nat
  /-- leaves (near-memory), blocks (reduce) or heads (attention) still to run -/
  todo : List Nat
  /-- rows, quires or leaves lost; 05 R138, 06 R153 -/
  lost : List Nat
  /-- status so far : 8 bits; 05 R114 -/
  status : Nat
  /-- RESULT : 64 bits; 05 R114 -/
  result : Nat
  /-- DETAIL : 64 bits; 05 R114 -/
  detail : Nat
  /-- REPLAYED : 1 bit; 05 R114 -/
  replayed : Bool
  /-- a seed of it has moved : 1 bit; 15 R343 -/
  moved : Bool
  /-- TRUNCATED : 1 bit; 05 R114 -/
  truncated : Bool
  /-- heads withheld; 06 R154 -/
  withheld : List Nat
  /-- partial results by key: span and merge partials, per-seed selections (R145, R135) -/
  partials : NMap (List Nat)
  /-- reduce: group, instance, contributors -/
  group : Nat
  inst : Nat
  contribs : List Contrib
  /-- contributions held back by capacity (R124) -/
  spilled : Nat
  /-- step-ledger job; 15 R350 -/
  job : Option Nat
  /-- STEP_SEQ : 32 bits; 15 R350 -/
  stepSeq : Nat
  /-- extents it reads or writes; 02 R34 -/
  extents : List Nat
  /-- data of the final packet and its DATA_OFFSET, kept while the ledger entry is written (R129, R154, R351) -/
  finalData : List Byte
  finalOffset : Nat
  /-- the submitter has been unbound: every OP_RESULT is discarded (R293) -/
  mute : Bool
  /-- stall causes counted; 02 R58 -/
  causes : List Nat
deriving DecidableEq, Repr

/-- A reduce group (R115). -/
structure Group where
  /-- composition : 8 bits; 05 R115 -/
  comp : Nat
  /-- GROUP_ID : 16 bits; 05 R115 -/
  gid : Nat
  /-- home press : 3 bits; 05 R115 -/
  press : Nat
  /-- members (node, logical port) by index; 05 R115 -/
  members : List (Nat × Nat)
  /-- parent (root node, child index); 05 R127 -/
  parent : Option (Nat × Nat)
  /-- instances completed; 05 R116 -/
  done : List Nat
  /-- instances aborted, with their status; 05 R125 -/
  aborted : NMap Nat
deriving DecidableEq, Repr

/-- A step-ledger job (R350). -/
structure Job where
  /-- composition : 8 bits; 15 R350 -/
  comp : Nat
  /-- NODE : 12 bits; 15 R350 -/
  node : Nat
  /-- ring address : 57 bits; 15 R350 -/
  ring : Nat
  /-- ENTRIES; 15 R350 -/
  entries : Nat
  /-- DEPTH; 15 R350 -/
  depth : Nat
  /-- copy (node, address); 15 R350 -/
  copy : Option (Nat × Nat)
  /-- next STEP_SEQ : 32 bits; 15 R350 -/
  nextStep : Nat
  /-- steps without an entry; 15 R350 -/
  openSteps : Nat
  /-- LEDGER_CLOSE that waits (session, seq); 15 R350 -/
  closer : Option (Nat × Nat)
deriving DecidableEq, Repr

/-- Operations, seeds, groups and jobs. -/
structure Work where
  /-- operation records by the model's number; 05 R113; reset empty -/
  ops : NMap Op
  /-- next number: the model's own; reset 1 -/
  nextOp : Nat
  /-- seed table by the model's number; 04 R91; reset empty -/
  seeds : NMap Seed
  /-- next number: the model's own; reset 1 -/
  nextSeed : Nat
  /-- reduce groups by the model's number, at most 1,024; 05 R115; reset empty -/
  groups : NMap Group
  /-- next number: the model's own; reset 1 -/
  nextGroup : Nat
  /-- step-ledger jobs by JOB; 15 R350; reset empty -/
  jobs : NMap Job
  /-- next JOB; reset DESIGN CHOICE 1 (entry 14) -/
  nextJob : Nat
  /-- next order of acceptance: the model's own; reset 0 -/
  order : Nat
  /-- segments that arrived before their descriptor: composition, source node, OP_ID, header, data (R120) -/
  early : List (Nat × Nat × Nat × List Byte × List Byte)
deriving DecidableEq, Repr

/-! ### Transactions (chapter 08) -/

/-- A saved atomic response (R198). -/
structure Saved where
  /-- SRC_SEQ : 32 bits; 08 R198 -/
  seq : Nat
  /-- OPCODE of the response : 8 bits; 08 R198 -/
  opcode : Nat
  /-- STATUS : 8 bits; 08 R198 -/
  status : Nat
  /-- payload; 08 R198 -/
  data : List Byte
  /-- TIME_NS until which it is held : 64 bits; 08 R198 -/
  until_ : Nat
deriving DecidableEq, Repr

/-- A (source node, composition) pair entry (R197). -/
structure Pair where
  /-- source node : 12 bits; 08 R197 -/
  src : Nat
  /-- composition : 8 bits; 08 R197 -/
  comp : Nat
  /-- W, the lowest SRC_SEQ not applied : 32 bits; 08 R197; 0 -/
  low : Nat
  /-- SRC_SEQs applied above W; 08 R197; empty -/
  applied : List Nat
  /-- saved atomic responses; 08 R198; empty -/
  saved : List Saved
deriving DecidableEq, Repr

/-- Why a request of the pool has not been served yet. -/
inductive WaitKind where
  /-- held for lower SRC_SEQs (R199, R200) -/
  | order
  /-- stalled at a tier -/
  | tier
  /-- waiting for snoops -/
  | snoop
  /-- the extent's MAC is being re-keyed (R319) -/
  | rekey
  /-- an HBM stack is leaving self-refresh (R19) -/
  | stack
deriving DecidableEq, Repr

/-- A pool request (a step of R58) that has passed step 6 and waits. -/
structure Step where
  /-- the request; 02 R58 -/
  pkt : Packet
  /-- composition : 8 bits; 02 R58 -/
  comp : Nat
  /-- EXTENT_ID : 32 bits; 02 R58 -/
  extent : Nat
  /-- the full 32-bit epoch recorded at step 4 (R292) -/
  epoch : Nat
  /-- why it waits; 02 R58, 08 R199, 09 R213, 14 R319, 01 R19 -/
  wait : WaitKind
  /-- tier accesses it still needs: 2 * leaf for the home copy, 2 * leaf + 1 for the mirror copy -/
  items : List Nat
  /-- an outcome other than ST_OK that is already decided and waits for its turn (R294) -/
  decided : Option Nat
  /-- a coherence grant whose snoops are answered and which still reads memory (R215) -/
  granted : Bool
  /-- the tier accesses it asked for have answered -/
  ready : Bool
  /-- CHCNT_DIR_WAITS or CHCNT_RECALLS has counted this request (R212) -/
  dirCounted : Bool
  /-- TIME_NS of the first stall; 02 R60 -/
  firstStall : Option Nat
  /-- stall causes counted; 02 R58 -/
  causes : List Nat
  /-- carries ST_RECLAIMED in place of ST_OK (R221) -/
  reclaimed : Bool
deriving DecidableEq, Repr

/-- A FENCE (R203, R204). -/
structure Fence where
  /-- the FENCE; 08 R203 -/
  pkt : Packet
  /-- composition : 8 bits; 08 R203 -/
  comp : Nat
  /-- what it waits for: source node and SRC_SEQ; 08 R203 -/
  marks : List (Nat × Nat)
  /-- TIME_NS : 64 bits; 08 R204 -/
  deadline : Nat
deriving DecidableEq, Repr

/-- A write track of a logical port: destination, composition, next SRC_SEQ sent, acknowledged watermark and the
acknowledged SRC_SEQs above it (chapter 08, FENCE). -/
structure Track where
  /-- logical port : 8 bits; 08 R203 -/
  lport : Nat
  /-- destination node : 12 bits; 08 R203 -/
  dst : Nat
  /-- composition : 16 bits; 08 R203 -/
  comp : Nat
  /-- next SRC_SEQ sent : 32 bits; 08 R203 -/
  next : Nat
  /-- acknowledged watermark : 32 bits; 08 R203 -/
  acked : Nat
  /-- acknowledged SRC_SEQs above it; 08 R203 -/
  above : List Nat
deriving DecidableEq, Repr

/-- A request the K9 itself has open (R188, R202). -/
structure Own where
  /-- the request; 08 R188 -/
  pkt : Packet
  /-- egress logical port : 8 bits; 08 R188 -/
  lport : Nat
  /-- re-sends : 2 bits; 08 R202; 0 -/
  tries : Nat
  /-- what it serves: 0 drill fetch, 1 replica fetch, 2 reduce partial, 3 snoop, 4 ledger copy; and its object -/
  purpose : Nat
  /-- the object it serves: the model's own -/
  object : Nat
deriving DecidableEq, Repr

/-- A packet held for lack of a route (R275). -/
structure Held where
  /-- the packet; 12 R275 -/
  pkt : Packet
  /-- TIME_NS at which it is discarded : 64 bits; 12 R275 -/
  untilNs : Nat
deriving DecidableEq, Repr

/-- The transaction layer. -/
structure Tx where
  /-- pair table, at most 65,536; 08 R197; reset empty -/
  pairs : List Pair
  /-- requests that wait, by the model's number; 02 R58; reset empty -/
  steps : NMap Step
  /-- next number: the model's own; reset 1 -/
  nextStep : Nat
  /-- open FENCEs, at most 16 a port; 08 R203; reset empty -/
  fences : List Fence
  /-- FENCEs that wait for one of the 16; 08 R203; reset empty -/
  fenceQ : List Packet
  /-- write tracks; 08 R203; reset empty -/
  tracks : List Track
  /-- requests of the K9 itself by TAG; 08 R188; reset empty -/
  own : NMap Own
  /-- next TAG : 16 bits; 08 R188; reset DESIGN CHOICE 0 (entry 14) -/
  nextTag : Nat
  /-- packets without a route; 12 R275; reset empty -/
  held : NMap Held
  /-- next number: the model's own; reset 1 -/
  nextHeld : Nat
deriving DecidableEq, Repr

/-! ### Coherence (chapter 09) -/

inductive DirState where
  | excl
  | shared
  | reclaimed
deriving DecidableEq, Repr

/-- A directory entry (Table CH-4). -/
structure DirEntry where
  /-- SHARERS : 16 bits; 09 Table CH-4 -/
  sharers : BitVec 16
  /-- OWNER : 4 bits; 09 Table CH-4 -/
  owner : Nat
  /-- EXCL, SHARED or RECLAIMED : 2 bits; 09 Table CH-4 -/
  state : DirState
  /-- FWD_OPEN : 5 bits; 09 Table CH-4 -/
  fwdOpen : Nat
  /-- GRANT_TICK : 16 bits; 09 Table CH-4 -/
  grantTick : BitVec 16
deriving DecidableEq, Repr

/-- The coherence requests of Table CH-5, plain accesses and recalls, as the reason a snoop was sent. -/
inductive SnoopFor where
  | readShared
  | readOwn
  | upgrade
  | plain (step : Nat)
  | recall
deriving DecidableEq, Repr

/-- A snoop that has no answer yet (R213, R219): 0 INVALIDATE, 1 SHARE, 2 OWN. -/
structure Snoop where
  /-- line address : 50 bits; 09 R213 -/
  line : Nat
  /-- agent 0 to 15 : 4 bits; 09 R213 -/
  agent : Nat
  /-- SNP opcode; 09 R213 -/
  kind : Nat
  /-- re-sends : 09 R219; 0 -/
  tries : Nat
  /-- the grant it serves -/
  grant : Nat
deriving DecidableEq, Repr

/-- A grant that waits for snoop answers, or for room in the directory, or for its turn (R212, R213). -/
structure Grant where
  /-- number: the model's own -/
  id : Nat
  /-- line address : 50 bits; 09 R213 -/
  line : Nat
  /-- requesting agent : 4 bits; 09 R213 -/
  agent : Nat
  /-- what was requested; 09 Table CH-5 -/
  why : SnoopFor
  /-- the request packet (none for a recall); 09 R213 -/
  pkt : Option Packet
  /-- data its owner answered with; 09 R214 -/
  data : List Byte
  /-- snoop answers still owed; 09 R213 -/
  waiting : Nat
  /-- answered with ST_RECLAIMED : 1 bit; 09 R220 -/
  reclaimed : Bool
  /-- the line was EXCL before the request: memory is behind its owner (R214, R220) -/
  fromExcl : Bool
deriving DecidableEq, Repr

/-- A caching agent (R208). -/
structure Agent where
  /-- node : 12 bits; 09 R208 -/
  node : Nat
  /-- logical port : 8 bits; 09 R208 -/
  lport : Nat
  /-- HOPS : 4 bits; 09 R208 -/
  hops : Nat
  /-- unresponsive : 1 bit; 09 R219; 0 -/
  unresponsive : Bool
deriving DecidableEq, Repr

/-- A coherence domain. -/
structure Domain where
  /-- composition : 8 bits; 09 R206 -/
  comp : Nat
  /-- agents 0 to 15; 09 R208; empty -/
  agents : NMap Agent
  /-- attached extents; 09 R207; empty -/
  extents : List Nat
  /-- on-chip entries allotted : 22 bits; 09 R212 -/
  onchip : Nat
  /-- overflow entries allotted : 28 bits; 09 R212 -/
  overflow : Nat
  /-- directory by line; 09 R211; empty -/
  dir : NMap DirEntry
  /-- snoops without an answer; 09 R219; empty -/
  snoops : List Snoop
  /-- requests that wait; 09 R213; empty -/
  grants : List Grant
  /-- next number: the model's own; 1 -/
  nextGrant : Nat
  /-- counters of Table CH-7 by CSR address : 32 bits each; 09 R223; 0 -/
  cnt : NMap Nat
  /-- the recalling command: session, seq, opcode, extent or agent named, lines recalled (R208) -/
  recaller : Option (Nat × Nat × Nat × Nat × Nat)
deriving DecidableEq, Repr

/-! ### Links and switching (chapters 10, 11) -/

/-- LK_PORT_STATE.STATE. -/
inductive LkState where
  | disabled
  | detect
  | laneLock
  | align
  | equalize
  | linkInit
  | up
  | fallow
  | failed
deriving DecidableEq, Repr

/-- Roles of Table LK-2. -/
inductive Role where
  | accel
  | peer
  | tray
  | analysis
deriving DecidableEq, Repr

/-- An egress queue (R234 to R238): packets, deficit, QUANTUM, shaper, burst, bucket, staged shaper write, histograms. -/
structure Queue where
  /-- packets with their entry times; 10 R234; reset empty -/
  packets : List (Packet × Nat)
  /-- bytes spilled; 10 R231; reset 0 -/
  spilled : Nat
  /-- deficit in bytes; 10 R235; reset 0 -/
  deficit : Nat
  /-- SW_Q_QUANTUM : 17 bits; 10 Table SW-5; reset 4,128 -/
  quantum : Nat
  /-- SW_Q_SHAPER.ON : 1 bit; 10 R237; reset 0 -/
  shapeOn : Bool
  /-- SW_Q_SHAPER.RATE; 10 R236; reset 0 -/
  rate : Nat
  /-- SW_Q_SHAPER_BURST; 10 R236; reset 65,536 -/
  burst : Nat
  /-- the bucket in force is on : 1 bit; 10 R237; reset 0 -/
  bucketOn : Bool
  /-- tokens in the bucket; 10 R236; reset 0 -/
  tokens : Nat
  /-- greatest depth seen, bytes; 10 R238; reset 0 -/
  depthMax : Nat
  /-- depth histogram, 16 bins : 32 bits each; 10 R238; reset 0 -/
  depthHist : NMap Nat
  /-- delay histogram, 16 bins : 32 bits each; 10 R238; reset 0 -/
  delayHist : NMap Nat
deriving DecidableEq, Repr

/-- One logical port: its link and its egress. -/
structure LPort where
  /-- width in lanes, from the SPLIT of its FP: 8, 4, 2 or 1 -/
  width : Nat
  /-- LK_PORT_CFG.ENABLE : 1 bit; 11 R247; reset 0 -/
  enable : Bool
  /-- ROLE : 2 bits; 11 Table LK-2; reset ACCEL -/
  role : Role
  /-- FEC_LOW request : 1 bit; 11 R253; reset 0 -/
  fecLow : Bool
  /-- CRYPT : 1 bit; 11 R262; reset 0 -/
  crypt : Bool
  /-- FALLOW_EN : 1 bit; 11 R265; reset 1 -/
  fallowEn : Bool
  /-- RATE reduced : 1 bit; 11 R248; reset 0 -/
  reduced : Bool
  /-- TRAY_INDEX : 5 bits; 11 R246; reset 0 -/
  trayIndex : Nat
  /-- LK_PORT_STATE.STATE : 4 bits; 11 Table LK-7; reset 0 DISABLED -/
  st : LkState
  /-- REVERSED : 1 bit; 11 R249; reset 0 -/
  reversed : Bool
  /-- FEC in force : 1 bit; 11 R253; reset 0 -/
  fecOn : Bool
  /-- encryption in force : 1 bit; 11 R262; reset 0 -/
  cryptOn : Bool
  /-- trained from a stored preset : 1 bit; 11 R252; reset 0 -/
  fast : Bool
  /-- lane polarity inversions : 8 bits; 11 R249; reset 0 -/
  polInv : BitVec 8
  /-- equalizer preset : 4 bits; 11 R251; reset 0 -/
  preset : Nat
  /-- far end's LINK_ID : 64 bits; 11 R250; reset 0 -/
  farId : Word64
  /-- far end's logical port : 8 bits; 11 R250; reset 0 -/
  farPort : Nat
  /-- far end's role : 2 bits; 11 R250; reset 0 -/
  farRole : Nat
  /-- the far end can go FALLOW : 1 bit; 11 R265; reset 0 -/
  farFallow : Bool
  /-- next SEQ to send, the oldest SEQ not acknowledged, and the packets not acknowledged (last SEQ, packet), oldest
  first (R258) -/
  txSeq : Nat
  txAcked : Nat
  unacked : List (Nat × Packet)
  /-- SEQ of the next flit expected : 12 bits; 11 R258; reset 0 -/
  rxSeq : Nat
  /-- a NAK has been sent for the present gap : 1 bit; 11 R259; reset 0 -/
  nakSent : Bool
  /-- replays since the last acknowledged flit; 11 R259; reset 0 -/
  replays : Nat
  /-- a replay is in progress : 1 bit; 11 R259; reset 0 -/
  replaying : Bool
  /-- TIME_NS of the retrains counted towards FAILED; 11 R261; reset empty -/
  retrainNs : List Nat
  /-- credits held for VC 0 to 7, and the last credit total taken -/
  credits : NMap Int
  lastTotal : NMap Nat
  /-- cells freed and not yet announced, and the credit total announced, per VC (R228, R260) -/
  owed : NMap Nat
  retTotal : NMap Nat
  /-- TIME_NS of the last tag failure; 11 R264; reset none -/
  tagFailNs : Option Nat
  /-- a FALLOW_REQ waits for its ACK : 1 bit; 11 R265; reset 0 -/
  fallowReq : Bool
  /-- a wake is in progress : 1 bit; 11 R265; reset 0 -/
  waking : Bool
  /-- the transmitter is held off : 1 bit; 15 Table FT-7; reset 0 -/
  holdOff : Bool
  /-- packets received and not served yet; 10 R228; reset empty -/
  ingress : List Packet
  /-- the priority queue: packet, entry time, on an escape channel -/
  prio : List (Packet × Nat × Bool)
  /-- packets of the 16 queues still owed before the priority queue may take another (R234) -/
  prioRun : Nat
  /-- deficit round robin is inside a visit to queue `next` (R235) -/
  inVisit : Bool
  /-- signal is present on the lanes (R250) -/
  signal : Bool
  /-- key generation in use for sending, those for receiving by key class, and a re-key in progress (R264) -/
  keyGenTx : Nat
  keyGenRx : NMap Nat
  rekeying : Bool
  /-- the 16 egress queues (one not listed is at reset); 10 R234; reset empty -/
  queues : NMap Queue
  /-- queue that deficit round robin visits next : 4 bits; 10 R235; reset 0 -/
  next : Nat
  /-- counters of Tables LK-8, SW-5 and TX by CSR address : 32 or 64 bits; 11 R266; reset 0 -/
  cnt : NMap Nat
  /-- counters at the end of the last scored second, its penalties in Table FT-5's order, and the scores of the
  last WINDOWS seconds, newest first (R352) -/
  lastCnt : NMap Nat
  /-- penalties of the last scored second; 15 R352; reset empty -/
  penalties : List Nat
  scores : List Nat
deriving DecidableEq, Repr

/-- A stored preset (R252), newest use first in the list. -/
structure Preset where
  /-- far LINK_ID : 64 bits; 11 R252 -/
  linkId : Word64
  /-- far logical port : 8 bits; 11 R252 -/
  farPort : Nat
  /-- logical port : 8 bits; 11 R252 -/
  lport : Nat
  /-- preset : 4 bits; 11 R252 -/
  preset : Nat
deriving DecidableEq, Repr

/-- A mirror session's counters (registers are in State.csr). -/
structure Mirror where
  /-- SEQ of the next record : 32 bits; 10 R240; reset 0 -/
  seq : Nat
  /-- packets skipped since the last sample; 10 R239; reset 0 -/
  skip : Nat
  /-- records waiting; 10 R241; reset 0 -/
  queued : Nat
deriving DecidableEq, Repr

/-- Switch-wide state. -/
structure Switch where
  /-- furrow slot in force (0 to 63); 10 R242; reset 0 -/
  slot : Nat
  /-- owners in force for this frame: slot to handle; 10 R242; reset none -/
  furrow : NMap Nat
  /-- mirror sessions 0 to 3; 10 R239; reset empty -/
  mirrors : NMap Mirror
  /-- overflow-full episode open on each die; 10 R233; reset 0 -/
  ovfFull0 : Bool
  /-- the same for die 1 : 1 bit; 10 R233; reset 0 -/
  ovfFull1 : Bool
  /-- compositions whose credits are withheld for spill; 10 R232; reset empty -/
  ovfHeld : List Nat
  /-- stored presets, at most 1,024, newest use first; 11 R252; reset DESIGN CHOICE empty (entry 3) -/
  presets : List Preset
deriving DecidableEq, Repr

/-! ### Topology (chapter 12) -/

inductive NbrState where
  | none
  | live
  | lost
  | new
  | conflict
deriving DecidableEq, Repr

/-- A neighbour on a PEER logical port (Table TP-2). -/
structure Nbr where
  /-- TP_NBR_STATE.STATE : 3 bits; 12 R270; reset NONE -/
  state : NbrState
  /-- LINK_ID : 64 bits; 12 R270; reset 0 -/
  linkId : Word64
  /-- node ID : 12 bits; 12 R270; reset 0 -/
  node : Nat
  /-- member index : 4 bits; 12 R270; reset 0 -/
  member : Nat
  /-- ASSIGNED flag : 1 bit; 12 Table TP-1; reset 0 -/
  assigned : Bool
  /-- round-trip time, ns : 32 bits; 12 R270; reset 0 -/
  rtt : Nat
  /-- PROBEs missed in a row; 12 R270; reset 0 -/
  missed : Nat
  /-- the last PROBE has been answered : 1 bit; 12 R270; reset 0 -/
  answered : Bool
  /-- LINK_ID and node of the last LIVE neighbour; 12 R270; reset none -/
  liveId : Option (Word64 × Nat)
  /-- capability bits; 12 Table TP-1; reset 0 -/
  caps : Nat
  /-- unanswered PROBEs of the present second, and NEIGHBOUR_SCORE (R352) -/
  unanswered : Nat
  /-- NEIGHBOUR_SCORE : 8 bits; 15 R352; reset 0 -/
  score : Nat
deriving DecidableEq, Repr

/-- A routing-table entry (Table TP-3). -/
structure Route where
  /-- VALID : 1 bit; 12 Table TP-3; reset 0 -/
  valid : Bool
  /-- LOCAL : 1 bit; 12 Table TP-3; reset 0 -/
  isLocal : Bool
  /-- ESC : 4 bits; 12 Table TP-3; reset 0 -/
  esc : Nat
  /-- member ports, at most 16; 12 Table TP-3; reset empty -/
  members : List Nat
  /-- members withdrawn : 16 bits; 12 R274; reset 0 -/
  withdrawn : BitVec 16
  /-- member used last: the model's own -/
  last : Nat
  /-- a WITHDRAW has been sent for it : 1 bit; 12 R274; reset 0 -/
  announced : Bool
deriving DecidableEq, Repr

/-- Topology. -/
structure Topo where
  /-- a node ID is assigned : 1 bit; 12 R268; reset 0 -/
  assigned : Bool
  /-- NODE_ID : 12 bits; 12 R268; reset 0 -/
  node : Nat
  /-- ROUTE_EPOCH : 32 bits; 12 R274; reset 0 -/
  epoch : Nat
  /-- routing table of 4,096 entries; 12 R271; reset empty -/
  routes : NMap Route
  /-- neighbours by logical port; 12 R270; reset empty -/
  nbrs : NMap Nbr
  /-- PROBE_SEQ of the next PROBE : 32 bits; 12 R270; reset 0 -/
  probeSeq : Nat
  /-- node ID tried under LAB_MODE : 12 bits; 12 R269; reset none -/
  candidate : Option Nat
deriving DecidableEq, Repr

/-! ### Security (chapter 14) -/

inductive DebugState where
  | sealed
  | diag
  | opened
  | returning
deriving DecidableEq, Repr

/-- Identity, rollback-protected values and debug. -/
structure Sec where
  /-- SE_STATUS.IDENTITY : 1 bit; 14 R332; reset 0 -/
  identityValid : Bool
  /-- a debug state has been entered since power-on : 1 bit; 14 R309; reset 0 -/
  debugSincePower : Bool
  /-- SE_DEBUG_STATE.STATE : 2 bits; 14 R326; reset SEALED -/
  debugSt : DebugState
  /-- identity generation : 14 R305, R329; reset DESIGN CHOICE 0 (entry 3) -/
  identityGen : Nat
  /-- binding SVN, SE_SVN.SVN -/
  svn : Nat
  /-- the binding chain key is held -/
  chainKey : Bool
  /-- rollback counter of the DEEP_STANDBY seal -/
  sealCounter : Nat
deriving DecidableEq, Repr

/-! ### Reliability (chapter 15) -/

/-- An expel-list entry. -/
structure ExpelEntry where
  /-- node ID : 12 bits; 15 R354 -/
  node : Nat
  /-- LINK_ID : 64 bits; 15 R354 -/
  linkId : Word64
  /-- the entry is a quarantine : 1 bit; 15 R355 -/
  quarantine : Bool
  /-- TIME_NS of the expulsion : 64 bits; 15 R354 -/
  timeNs : Nat
deriving DecidableEq, Repr

/-- A scheduled rehearsal injection (R356). -/
structure Inject where
  /-- fault class; 15 Table FT-7 -/
  cls : Nat
  /-- UNIT; 15 Table FT-7 -/
  unit : Nat
  /-- leaf; 15 Table FT-7 -/
  leaf : Nat
  /-- TIME_NS of the next injection : 64 bits; 15 R356 -/
  nextNs : Nat
  /-- injections left; 15 R356 -/
  left : Nat
  /-- interval : 32 bits; 15 R356 -/
  intervalUs : Nat
deriving DecidableEq, Repr

/-- Fault management. -/
structure Ft where
  /-- manager digests, at most 7 : 256 bits each; 15 R353; reset empty -/
  managers : List Digest
  /-- QUORUM; 15 R353; reset 0 -/
  quorum : Nat
  /-- expel list, at most 64 entries; 15 R355; reset empty -/
  expelled : List ExpelEntry
  /-- expulsions applied: (target node, LINK_ID, TIME_NS) in the last 3,600 s -/
  recent : List (Nat × Word64 × Nat)
  /-- the last 64 signed messages applied: (action, request) -/
  applied : List (Nat × ExpelReq)
  /-- rehearsals by handle; 15 R356; reset empty -/
  injects : NMap Inject
  /-- next rehearsal handle; 15 R356; reset DESIGN CHOICE 1 (entry 14) -/
  nextInject : Nat
  /-- forced uncorrectable answers waiting: (extent, leaf) -/
  forcedUe : List (Nat × Nat)
  /-- TIME_NS when the present sweep period began : 15 R348; reset 0 -/
  periodNs : Nat
deriving DecidableEq, Repr

/-! ### Events (chapter 17) -/

/-- One event source. -/
structure Source where
  /-- EVC_SRC_CFG.ENABLE : 1 bit; 17 Table EV-3; reset 0 -/
  enable : Bool
  /-- WAKE : 1 bit; 17 Table EV-3; reset 0 -/
  wake : Bool
  /-- FALLBACK : 1 bit; 17 Table EV-3; reset 0 -/
  fallback : Bool
  /-- SENSE : 3 bits; 17 R380; reset 2 RISING -/
  sense : Nat
  /-- PRIORITY : 8 bits; 17 R383; reset 0x80 -/
  priority : Nat
  /-- EVC_SRC_TARGETS : 16 bits; 17 R385; reset 0x00FF -/
  targets : BitVec 16
  /-- PENDING : 1 bit; 17 R382; reset 0 -/
  pending : Bool
  /-- INPUT : 1 bit; 17 R380; reset 0 -/
  input : Bool
  /-- target holding it ACTIVE and the GROUP it was claimed with -/
  holder : Option (Nat × Nat)
deriving DecidableEq, Repr

/-- A subscriber (R388). -/
structure Subscriber where
  /-- session : 32 bits; 17 R388 -/
  session : Nat
  /-- events of the mask; 17 R388 -/
  mask : List Nat
  /-- ADDRESS; 17 R388 -/
  address : Nat
  /-- PORT : 16 bits; 17 R388 -/
  port : Nat
  /-- SEQ of the next event packet : 32 bits; 17 R388; 0 -/
  seq : Nat
  /-- opened by an owner session : 1 bit; 17 R388 -/
  isOwner : Bool
deriving DecidableEq, Repr

/-- An event-log record (R381). -/
structure LogRec where
  /-- event number : 10 bits; 17 R381 -/
  ev : Nat
  /-- UNIT; 17 R381 -/
  unit : Nat
  /-- TIME_NS : 64 bits; 17 R381 -/
  timeNs : Nat
  /-- DETAIL; 17 R381 -/
  detail : Nat
deriving DecidableEq, Repr

/-- An outstanding offer (R386): the event, the targets offered to, those that timed out, when. -/
structure Offer where
  /-- event : 10 bits; 17 R386 -/
  ev : Nat
  /-- targets it was offered to; 17 R386 -/
  targets : List Nat
  /-- targets that let it time out; 17 R386 -/
  tried : List Nat
  /-- TIME_NS of the offer : 64 bits; 17 R386 -/
  timeNs : Nat
deriving DecidableEq, Repr

/-- The event controller. -/
structure Evc where
  /-- event sources by number (one not listed is at reset); 17 R379; reset empty -/
  sources : NMap Source
  /-- threshold of each target : 9 bits; 17 R385; reset empty -/
  thresholds : NMap Nat
  /-- subscribers; 17 R388; reset empty -/
  subs : NMap Subscriber
  /-- event log, newest first, 4,096 records; 17 R381; reset empty -/
  log : List LogRec
  /-- outstanding offers; 17 R386; reset empty -/
  offers : List Offer
  /-- targets that timed out, per event, until the others have been offered -/
  tried : NMap (List Nat)
  /-- how many records of each event its last offer had seen (R388) -/
  lastOffer : NMap Nat
  /-- the event controller is fallow : 1 bit; 17 R396; reset 0 -/
  fallow : Bool
deriving DecidableEq, Repr

/-! ### Event recorder (chapter 19) -/

/-- A record (Table ER-2). -/
structure Rec where
  /-- SINCE_SECONDS : 32 bits; 19 Table ER-2 -/
  sinceSec : Nat
  /-- SINCE_CYCLES : 32 bits; 19 Table ER-2 -/
  sinceCyc : Nat
  /-- SAMPLES : 64 bits; 19 Table ER-2; 0 -/
  samples : Nat
  /-- bins : 32 bits each; 19 Table ER-2; 0 -/
  bins : NMap Nat
  /-- highest value, with its time; 19 Table ER-2; none -/
  hi : Option (Int × Nat × Nat)
  /-- lowest value, with its time; 19 Table ER-2; none -/
  lo : Option (Int × Nat × Nat)
deriving DecidableEq, Repr

/-- A clear-log entry (Table ER-3). -/
structure ClearEntry where
  /-- OP_SECONDS : 32 bits; 19 Table ER-3 -/
  opSeconds : Nat
  /-- POWER_CYCLES : 32 bits; 19 Table ER-3 -/
  cycles : Nat
  /-- TIME_NS : 64 bits; 19 Table ER-3 -/
  timeNs : Nat
  /-- records cleared : 16 bits; 19 Table ER-3 -/
  count : Nat
  /-- signer digest : 256 bits; 19 Table ER-3 -/
  signer : Digest
  /-- digest of the records cleared : 256 bits; 19 Table ER-3 -/
  prior : Digest
deriving DecidableEq, Repr

/-- The recorder: records on chip, what the package flash holds, and the lifetime counts. -/
structure Recorder where
  /-- REC_OP_SECONDS : 32 bits; 19 R417; reset DESIGN CHOICE 0 (entry 3) -/
  opSeconds : Nat
  /-- REC_POWER_CYCLES : 32 bits; 19 R417; reset DESIGN CHOICE 0 (entry 3) -/
  cycles : Nat
  /-- records on chip; 19 R418; reset DESIGN CHOICE empty (entry 3) -/
  recs : NMap Rec
  /-- records in the package flash; 19 R419; reset DESIGN CHOICE empty (entry 3) -/
  flash : NMap Rec
  /-- clear log, at most 1,024 entries; 19 R422; reset DESIGN CHOICE empty (entry 3) -/
  clearLog : List ClearEntry
  /-- entry latched by REC_CLOG_SEL; 19 R423; reset none -/
  latch : Option ClearEntry
deriving DecidableEq, Repr

/-! ### The machine -/

/-- The save image and the sealed keys of DEEP_STANDBY (R393, Table SE-9), with the bank that entered it (R403). -/
structure SaveImage where
  /-- bank that entered DEEP_STANDBY : 1 bit; 18 R403 -/
  bank : Nat
  /-- composition records; 17 R393 -/
  comps : NMap Comp
  /-- extents, objects and pool bytes; 17 R393 -/
  pool : Pool
  /-- flash map; 17 R393 -/
  fmap : NMap MapEntry
  /-- reduce groups; 17 R393 -/
  groups : NMap Group
  /-- next group number: the model's own -/
  nextGroup : Nat
  /-- coherence domains; 17 R393 -/
  coh : NMap Domain
deriving DecidableEq, Repr

/-- The whole K9. -/
structure State where
  /-- the queue of waiting commands, first in, first out: the model's own; reset empty -/
  pending : List Instr
  /-- the AON clock; 01 R17 -/
  clk : Clock
  /-- pins, rails and sensors; 20 -/
  pins : Pins
  /-- device state machine; 16 R371 -/
  dev : Device
  /-- firmware, boot and update; 18 -/
  fw : Firmware
  /-- software-written registers by CSR address : 32 bits each; 00 R9, R10; one not listed reads as the reset value of its table -/
  csr : NMap Word
  /-- _HI halves latched by the read of their _LO register : 32 bits each; 16 R374; reset empty -/
  latch : NMap Word
  /-- device counters by CSR address : 32 or 64 bits each; 00 R9; reset 0 -/
  cnt : NMap Nat
  /-- the command protocol; 16 -/
  nirod : Nirod
  /-- compositions by handle 0 to 255; 13 R282; reset empty -/
  comps : NMap Comp
  /-- the pool; 02 -/
  pool : Pool
  /-- flash map by logical sheaf; 03 R68; reset empty -/
  fmap : NMap MapEntry
  /-- trays 0 to 23 (one not listed is ABSENT); 03 R65; reset empty -/
  trays : NMap Tray
  /-- PRESS_0 to PRESS_7; 04 R82; reset FALLOW -/
  presses : NMap Press
  /-- operations, seeds, groups and jobs; 04 to 06, 15 -/
  work : Work
  /-- the transaction layer; 08 -/
  tx : Tx
  /-- coherence domains 0 to 63; 09 R207; reset empty -/
  coh : NMap Domain
  /-- logical ports by number 0 to 255 that exist under the present splits; 11 R245; reset one port of eight lanes per FP -/
  links : NMap LPort
  /-- switch-wide state; 10, 11 -/
  sw : Switch
  /-- topology; 12 -/
  topo : Topo
  /-- security; 14 -/
  sec : Sec
  /-- fault management; 15 -/
  ft : Ft
  /-- the event controller; 17 -/
  ev : Evc
  /-- the event recorder; 19 -/
  rcd : Recorder
  /-- the DEEP_STANDBY save image; 17 R393; reset DESIGN CHOICE none (entry 3) -/
  image : Option SaveImage
  /-- what the block has sent, newest last: the model's own record of its outputs; reset empty -/
  out : List Emit
  /-- draws made from the free values and the random numbers: the MODEL's own field, not the spec's; reset DESIGN CHOICE 0 (entry 12) -/
  draws : Nat
deriving DecidableEq, Repr

/-! ### Reset -/

/-- An empty record of counters kept per queue; the registers' reset values of Table SW-5. -/
def Queue.reset : Queue where
  packets := []
  spilled := 0
  deficit := 0
  quantum := 4128
  shapeOn := false
  rate := 0
  burst := 65536
  bucketOn := false
  tokens := 0
  depthMax := 0
  depthHist := []
  delayHist := []

/-- A logical port of width `w` at the reset values of Table LK-7: DISABLED, FALLOW_EN set. -/
def LPort.reset (w : Nat) : LPort where
  width := w
  enable := false
  role := .accel
  fecLow := false
  crypt := false
  fallowEn := true
  reduced := false
  trayIndex := 0
  st := .disabled
  reversed := false
  fecOn := false
  cryptOn := false
  fast := false
  polInv := 0
  preset := 0
  farId := 0
  farPort := 0
  farRole := 0
  farFallow := false
  txSeq := 0
  txAcked := 0
  unacked := []
  rxSeq := 0
  nakSent := false
  replays := 0
  replaying := false
  retrainNs := []
  credits := []
  lastTotal := []
  owed := []
  retTotal := []
  tagFailNs := none
  fallowReq := false
  waking := false
  holdOff := false
  ingress := []
  prio := []
  prioRun := 0
  inVisit := false
  signal := false
  keyGenTx := 0
  keyGenRx := []
  rekeying := false
  queues := []
  next := 0
  cnt := []
  lastCnt := []
  penalties := []
  scores := []

/-- An event source at the reset values of Table EV-3: SENSE RISING, PRIORITY 0x80, targets 0 to 7. -/
def Source.reset : Source where
  enable := false
  wake := false
  fallback := false
  sense := 2
  priority := 0x80
  targets := 0x00FF
  pending := false
  input := false
  holder := none

/-- A press at reset: FALLOW, no context, nothing fenced, the pool sizes of SP_POOL_CFG and DRILL_CFG. -/
def Press.reset : Press where
  state := .fallow
  ctx := none
  fenced := 0
  chains := []
  expired := false
  quantumNs := 0
  drillSlots := 1024
  reduceSlots := 128
  lanes := 32
  ahead := 64
  retired := []
  store := []
  norms := none
  mustSweep := 0
  sweepDue := 0
  lastPass := []
  lastShadow := 0
  forceMismatch := false
  resetter := []
  cnt := []

/-- No geometry known. -/
def Geometry.none : Geometry where
  dies := 0
  pageKiB := 0
  pagesPerBlock := 0
  ratedCycles := 0
  goodSb := 0
  sparePerDie := 0
  factoryBad := 0

/-- A tray slot with no tray: ABSENT. -/
def Tray.reset : Tray where
  state := .absent
  lport := .none
  geom := Geometry.none
  freeSb := 0
  goodSb := 0
  reserve := 0
  sbs := []
  openWrite := .none
  openMove := .none
  writeSeq := 0
  sinceCkpt := 0
  ckptNs := 0
  ckptWhich := 0
  tempDeciC := 0
  urgent := false
  endurance := false
  ratedCycles := 0
  spares := []
  cnt := []
  ladder := []
  relocating := []
  programming := []

def Clock.reset : Clock where
  timeNs := 0
  ppsLast := none
  ppsFirst := true
  ppsError := 0
  slew := 0
  slewFrac := 0
  ppsLocked := false
  tick := 0
  opRemNs := 0

def Pins.reset : Pins where
  powered := true
  resetLow := false
  faultLow := false
  thermtripLow := false
  sleepLow := false
  railsPending := none
  evtIn := 0xFF
  railDetail := none
  railMv := []
  tjD0 := 0
  tjD1 := 0
  throttle := 0
  throttleAt := none
  tap := .idcode

/-- CM_STATE resets to BOOT, PRIOR_STATE 0, CORES_ON 0xFF, EVENT_NUM 1,023 (Tables CM-7, EV-4). -/
def Device.reset : Device where
  state := .boot
  prior := .poweredOff
  resume := .ready
  quiesce := none
  powerWaiting := []
  creditsWithheld := false
  coresOn := 0xFF
  restarting := 0
  restarts := []
  hbmSr := 0
  hbmWaking := 0
  wakeCause := (false, false, false, 1023)
  singleDie := false
  bridgeUp := true
  pausedAt := none
  ctrlListen := false

def Bank.reset : Bank where
  manifest := none
  images := []

def Firmware.reset : Firmware where
  step := 1
  stepOneNs := 0
  stepNs := 0
  romOnly := false
  fromDeep := false
  bootCount := 0
  journal := []
  alternate := 0
  skipped := 0
  persistent := 0
  clearPaths := false
  unconfirmedBoots := 0
  bank := 0
  other := false
  confirmed := true
  bank0 := Bank.reset
  bank1 := Bank.reset
  rollback := 0
  upd := .idle
  handle := 0
  staged := none
  confirmBy := none
  loading := false
  switching := []
  activator := none
  reverted := false
  jrnLatch := none
  storedPorts := []

def Nirod.reset : Nirod where
  recent := []
  deferred := []
  sessions := []
  asm := []
  nextSession := 1
  fmKeys := []
  nonce := none

def Pool.reset : Pool where
  mem := []
  extents := []
  nextExtent := 1
  nextStore := 0
  kv := []
  nextKv := 1
  moves := []
  background := []
  xlat := []
  ioRunning := []

def Work.reset : Work where
  ops := []
  nextOp := 1
  seeds := []
  nextSeed := 1
  groups := []
  nextGroup := 1
  jobs := []
  nextJob := 1
  order := 0
  early := []

def Tx.reset : Tx where
  pairs := []
  steps := []
  nextStep := 1
  fences := []
  fenceQ := []
  tracks := []
  own := []
  nextTag := 0
  held := []
  nextHeld := 1

def Switch.reset : Switch where
  slot := 0
  furrow := []
  mirrors := []
  ovfFull0 := false
  ovfFull1 := false
  ovfHeld := []
  presets := []

def Topo.reset : Topo where
  assigned := false
  node := 0
  epoch := 0
  routes := []
  nbrs := []
  probeSeq := 0
  candidate := none

def Sec.reset : Sec where
  identityValid := false
  debugSincePower := false
  debugSt := .sealed
  identityGen := 0
  svn := 0
  chainKey := false
  sealCounter := 0

def Ft.reset : Ft where
  managers := []
  quorum := 0
  expelled := []
  recent := []
  applied := []
  injects := []
  nextInject := 1
  forcedUe := []
  periodNs := 0

def Evc.reset : Evc where
  sources := []
  thresholds := []
  subs := []
  log := []
  offers := []
  tried := []
  lastOffer := []
  fallow := false

def Recorder.reset : Recorder where
  opSeconds := 0
  cycles := 0
  recs := []
  flash := []
  clearLog := []
  latch := none

/-- The machine right after reset: every register at the reset value of its table (an address `csr` does not list
reads as that value), BOOT running step 1, one logical port of eight lanes per FP (SPLIT 0), nothing else in being.
The values the spec does not give are those of log entry 3. -/
def State.reset : State where
  pending := []
  clk := Clock.reset
  pins := Pins.reset
  dev := Device.reset
  fw := Firmware.reset
  csr := []
  latch := []
  cnt := []
  nirod := Nirod.reset
  comps := []
  pool := Pool.reset
  fmap := []
  trays := []
  presses := (List.range 8).map (fun n => (n, Press.reset))
  work := Work.reset
  tx := Tx.reset
  coh := []
  links := (List.range 32).map (fun n => (8 * n, LPort.reset 8))
  sw := Switch.reset
  topo := Topo.reset
  sec := Sec.reset
  ft := Ft.reset
  ev := Evc.reset
  rcd := Recorder.reset
  image := none
  out := []
  draws := 0

end Sys2Proof.Machine
end

