-- ==== Sys2Proof/Machine/Ops.lean ====
section
/-! DEFINITION. The named operations every command is built from: counters, register fields, access to the objects of
State, what leaves the block, the passing of time with the meters it feeds, and the bytes of the pool. -/

namespace Sys2Proof.Machine

/-- What a command answers. -/
abbrev Out := Host.Outcome State Fault Refusal

/-! ### Counters -/

/-- The largest value of the counter at `a`: 64 bits for a _LO/_HI pair, 32 bits otherwise (R378: they saturate). -/
def ctrMax (a : Nat) : Nat :=
  match regKind a with
  | some (.lo _) => 2 ^ 64 - 1
  | _ => 0xFFFFFFFF

/-- Add `n` to the counter at `a`, saturating. -/
def addCtr (m : NMap Nat) (a n : Nat) : NMap Nat := if n = 0 then m else m.put a (min (m.num a + n) (ctrMax a))

/-- Change a composition. -/
def State.modComp (h : Nat) (f : Comp → Comp) (s : State) : State := { s with comps := s.comps.change h f }

/-- Change a logical port. -/
def State.modPort (p : Nat) (f : LPort → LPort) (s : State) : State := { s with links := s.links.change p f }

/-- Change a press. -/
def State.modPress (n : Nat) (f : Press → Press) (s : State) : State := { s with presses := s.presses.change n f }

/-- Change a tray slot (every slot of 0 to 23 exists; one never attached is ABSENT). -/
def State.modTray (t : Nat) (f : Tray → Tray) (s : State) : State :=
  if t < 24 then { s with trays := s.trays.put t (f ((s.trays.look t).getD Tray.reset)) } else s

/-- The tray slot `t`. -/
def State.tray (s : State) (t : Nat) : Tray := (s.trays.look t).getD Tray.reset

/-- Change a coherence domain. -/
def State.modDom (d : Nat) (f : Domain → Domain) (s : State) : State := { s with coh := s.coh.change d f }

/-- Change the pool. -/
def State.modPool (f : Pool → Pool) (s : State) : State := { s with pool := f s.pool }

/-- The extent with an EXTENT_ID. -/
def State.extent (s : State) (e : Nat) : Option Extent := s.pool.extents.look e

/-- Change an extent. -/
def State.modExtent (e : Nat) (f : Extent → Extent) (s : State) : State :=
  { s with pool := { s.pool with extents := s.pool.extents.change e f } }

/-- Change the operations and seeds. -/
def State.modWork (f : Work → Work) (s : State) : State := { s with work := f s.work }

/-- Change an operation. -/
def State.modOp (o : Nat) (f : Op → Op) (s : State) : State :=
  { s with work := { s.work with ops := s.work.ops.change o f } }

/-- Change a seed. -/
def State.modSeed (i : Nat) (f : Seed → Seed) (s : State) : State :=
  { s with work := { s.work with seeds := s.work.seeds.change i f } }

/-- Change the transaction layer. -/
def State.modTx (f : Tx → Tx) (s : State) : State := { s with tx := f s.tx }

/-- Change the device. -/
def State.modDev (f : Device → Device) (s : State) : State := { s with dev := f s.dev }

/-- Change the firmware records. -/
def State.modFw (f : Firmware → Firmware) (s : State) : State := { s with fw := f s.fw }

/-- Change the switch. -/
def State.modSw (f : Switch → Switch) (s : State) : State := { s with sw := f s.sw }

/-- Change the event controller. -/
def State.modEv (f : Evc → Evc) (s : State) : State := { s with ev := f s.ev }

/-- Change the fault manager. -/
def State.modFt (f : Ft → Ft) (s : State) : State := { s with ft := f s.ft }

/-- Change the command protocol. -/
def State.modNirod (f : Nirod → Nirod) (s : State) : State := { s with nirod := f s.nirod }

/-- Change a session. -/
def State.modSession (i : Nat) (f : Session → Session) (s : State) : State :=
  { s with nirod := { s.nirod with sessions := s.nirod.sessions.change i f } }

/-- Add `n` to a device counter. -/
def State.bumpBy (a n : Nat) (s : State) : State := { s with cnt := addCtr s.cnt a n }

/-- Add one to a device counter. -/
def State.bump (a : Nat) (s : State) : State := s.bumpBy a 1

/-- Add `n` to a counter of a composition. -/
def State.bumpCompBy (h a n : Nat) (s : State) : State := s.modComp h fun c => { c with cnt := addCtr c.cnt a n }

/-- Add one to a counter of a composition. -/
def State.bumpComp (h a : Nat) (s : State) : State := s.bumpCompBy h a 1

/-- Add `n` to a counter of a tray. -/
def State.bumpTrayBy (t a n : Nat) (s : State) : State := s.modTray t fun r => { r with cnt := addCtr r.cnt a n }

/-- Add one to a counter of a tray. -/
def State.bumpTray (t a : Nat) (s : State) : State := s.bumpTrayBy t a 1

/-- Add `n` to a counter of a logical port. -/
def State.bumpPortBy (p a n : Nat) (s : State) : State := s.modPort p fun l => { l with cnt := addCtr l.cnt a n }

/-- Add one to a counter of a logical port. -/
def State.bumpPort (p a : Nat) (s : State) : State := s.bumpPortBy p a 1

/-- Add one to a counter of a coherence domain. -/
def State.bumpDom (d a : Nat) (s : State) : State := s.modDom d fun x => { x with cnt := addCtr x.cnt a 1 }

/-- Add one to a counter of a press (keyed by the address of press 0). -/
def State.bumpPress (n a : Nat) (s : State) : State := s.modPress n fun r => { r with cnt := addCtr r.cnt a 1 }

/-! ### Configuration registers -/

/-- The value of a register that software writes whole. -/
def State.reg (s : State) (a : Nat) : Nat :=
  match s.csr.look a with
  | some w => w.toNat
  | none => regReset a

/-- Store a configuration register. -/
def State.setReg (a v : Nat) (s : State) : State := { s with csr := s.csr.put a (BitVec.ofNat 32 v) }

/-- A field of a configuration register. -/
def State.field (s : State) (a hi lo : Nat) : Nat := bits (s.reg a) hi lo

/-- Is the block's LOCK set (R9)? -/
def State.locked (s : State) (a : Nat) : Bool := bit (s.reg (lockOf a)) 0

/-! ### What leaves the block -/

/-- Send something outside the fabric's queues. -/
def State.emit (e : Emit) (s : State) : State := { s with out := s.out ++ [e] }

/-- A fresh random number (Config.random). -/
def State.random (s : State) : Nat := Config.random s.draws

/-- A fresh value that the spec leaves open (Config.freeValue). -/
def State.free (s : State) : Nat := Config.freeValue s.draws

/-- Move past a drawn number. -/
def State.drawn (s : State) : State := { s with draws := s.draws + 1 }

/-! ### Time and meters -/

/-- T0 leaf frames an extent holds. -/
def Extent.t0Frames (x : Extent) : Nat := sumOf x.chunks.vals fun c => c.t0.length

/-- Is the extent's home tier T2? -/
def TierPolicy.isT2 : TierPolicy → Bool
  | .t1Home | .t1NoCache => false
  | .t2Home | .t2T1Only => true

/-- T1 chunks an extent holds: its homes, both copies of a MIRRORED one, or its caches (Table CP-5). -/
def Extent.t1Chunks (x : Extent) : Nat :=
  if x.tier.isT2 then countIf x.chunks.vals fun c => c.inT1
  else sumOf x.chunks.vals fun c => if c.mirror.isSome then 2 else 1

/-- Logical sheaves an extent holds: two for each chunk with a T2 home, twice when MIRRORED. -/
def Extent.t2Sheaves (x : Extent) : Nat :=
  if x.tier.isT2 then sumOf x.chunks.vals fun c => if c.mirror.isSome then 4 else 2 else 0

/-- The extents of a composition. -/
def State.extentsOf (s : State) (h : Nat) : NMap Extent := s.pool.extents.keep fun _ x => x.comp == h

/-- Accrue the meters of composition `h` over `d` nanoseconds (R303). -/
def Comp.accrue (s : State) (h d : Nat) (c : Comp) : Comp :=
  let xs := (s.extentsOf h).vals
  { c with meters := { c.meters with
      resident := c.meters.resident + (if c.state = .active ∧ s.dev.state ≠ .standby then d else 0)
      press := c.meters.press + d * countIf s.presses.vals fun p => decide (p.state ≠ .fallow) && (p.ctx == some h)
      lane := c.meters.lane + d * sumOf c.members fun m => ((s.links.look m.lport).map LPort.width).getD 0
      t0Frame := c.meters.t0Frame + d * (sumOf xs Extent.t0Frames + 2 * countIf c.codebooks.vals Codebook.registered)
      t1Chunk := c.meters.t1Chunk + d * sumOf xs Extent.t1Chunks
      t2Sheaf := c.meters.t2Sheaf + d * sumOf xs Extent.t2Sheaves
      furrow := c.meters.furrow + d * countIf (List.range 64) fun n =>
        s.reg (Reg.FURROW_SLOT + 4 * n) == 0x80000000 + h } }

/-- ARITH cycles run out of every four at a throttle level (Table EL-10). -/
def arithQuarters (level : Nat) : Nat := 4 - min level 3

/-- PRESS_LIT_CYCLES counts ARITH cycles outside FALLOW; it is held in sixteenths of a cycle, so that every
nanosecond adds a whole number (1.25 GHz, Table EL-10). -/
def Press.accrue (level d : Nat) (p : Press) : Press :=
  if p.state = .fallow then p
  else { p with cnt := p.cnt.put Reg.PRESS_LIT_CYCLES_LO (p.cnt.num Reg.PRESS_LIT_CYCLES_LO + 5 * arithQuarters level * d) }

/-- TIME_NS becomes `t`, with every meter, the lit cycles, the throttle intervals (R325) and OP_SECONDS (R417) carried
along; nothing happens when `t` is not ahead. -/
def State.advanceTo (t : Nat) (s : State) : State :=
  let now := s.clk.timeNs
  if t ≤ now then s else
  let d := t - now
  let marks := (t + 99999) / 100000 - (now + 99999) / 100000
  let ns := s.clk.opRemNs + d
  { s with
    comps := s.comps.each fun h c =>
      let c := c.accrue s h d
      if s.pins.throttle = 0 ∨ c.pressMask = 0 then c
      else { c with cnt := addCtr c.cnt Reg.SECNT_THROTTLE_100US marks }
    presses := s.presses.each fun _ p => p.accrue s.pins.throttle d
    rcd := { s.rcd with opSeconds := min (s.rcd.opSeconds + ns / 1000000000) 0xFFFFFFFF }
    clk := { s.clk with timeNs := t, opRemNs := ns % 1000000000 } }

/-- One AON cycle (R17): TIME_NS advances by 40. While PPS slews it, 1/125 ns is put in or left out each cycle, which is
200 ppm (R428), and TIME_NS takes it up a whole nanosecond at a time. -/
def State.tickAon (s : State) : State :=
  if !s.pins.powered then s else
  let dir : Int := if s.clk.slew > 0 then 1 else if s.clk.slew < 0 then -1 else 0
  let frac := s.clk.slewFrac + dir
  let whole : Int := if frac = 125 then 1 else if frac = -125 then -1 else 0
  let s := { s with clk := { s.clk with slew := s.clk.slew - dir, slewFrac := frac - 125 * whole } }
  s.advanceTo ((s.clk.timeNs : Int) + 40 + whole).toNat

/-! ### Access to records -/

/-- The composition a handle names. -/
def State.comp (s : State) (h : Nat) : Option Comp := s.comps.look h

/-- The handle of the composition that holds a COMP_ID. -/
def State.handleOf (s : State) (compId : Nat) : Option Nat := s.comps.findKey fun _ c => c.compId == compId

/-- The composition (handle, member) bound to a logical port (R193). -/
def State.boundTo (s : State) (p : Nat) : Option (Nat × Member) :=
  s.comps.findSome? fun q => (q.2.members.find? fun m => m.lport == p).map fun m => (q.1, m)

/-- This device's LINK_ID: bytes 0 to 7 of its identity digest (R250, R305). -/
def State.linkId (s : State) : Word64 := BitVec.ofNat 64 (Config.identity s.sec.identityGen).toNat

/-- The extent of a composition that holds bytes `a` to `a + n - 1`, and the offset of `a` in it (R29, R35). -/
def State.findExtent (s : State) (h a n : Nat) : Option (Nat × Nat) :=
  (s.pool.extents.findKey fun _ x => x.comp == h && decide (x.base ≤ a ∧ a + n ≤ x.base + x.size)).bind fun e =>
    (s.extent e).map fun x => (e, a - x.base)

/-! ### Bytes of the pool -/

/-- The byte at `a` of a sparse memory; an unlisted byte reads as 0 (R32). -/
def cellRead : List Host.Cell → Nat → Byte
  | [], _ => 0
  | (k, v) :: m, a => if k = a then v else if a < k then 0 else cellRead m a

/-- The canonical form of a memory from address `lo` up. -/
def cellsFrom : Nat → List Host.Cell → Bool
  | _, [] => true
  | lo, (k, v) :: m => decide (lo ≤ k) && decide (v ≠ 0) && cellsFrom (k + 1) m

/-- The canonical form of a memory: addresses strictly rising, no listed byte zero. -/
def Memory.wf (m : List Host.Cell) : Bool := cellsFrom 0 m

/-- `n` bytes from `a` of a memory with nothing below `a`. -/
def cellsRun : List Host.Cell → Nat → Nat → List Byte
  | _, _, 0 => []
  | [], a, n + 1 => 0 :: cellsRun [] (a + 1) n
  | (k, v) :: m, a, n + 1 => if k = a then v :: cellsRun m (a + 1) n else 0 :: cellsRun ((k, v) :: m) (a + 1) n

/-- `n` bytes from `a`. -/
def cellReads (m : List Host.Cell) (a n : Nat) : List Byte := cellsRun (m.dropWhile fun c => decide (c.1 < a)) a n

/-- The cells of a list of bytes from `a`: zero bytes are not listed. -/
def byteCells : Nat → List Byte → List Host.Cell
  | _, [] => []
  | a, b :: t => if b = 0 then byteCells (a + 1) t else (a, b) :: byteCells (a + 1) t

/-- Write a list of bytes from `a`, keeping the canonical form: addresses strictly rising and no zero byte listed. -/
def cellWrites (m : List Host.Cell) (a : Nat) (b : List Byte) : List Host.Cell :=
  (m.takeWhile fun c => decide (c.1 < a)) ++ byteCells a b ++ m.dropWhile fun c => decide (c.1 < a + b.length)

/-- Where offset `off` of the extent with storage key `store` lies in the pool's memory. -/
def poolAddr (store off : Nat) : Nat := store * 2 ^ 57 + off

/-- Read `n` bytes at offset `off` of extent `e`. -/
def State.readPool (s : State) (e off n : Nat) : List Byte :=
  match s.extent e with
  | some x => cellReads s.pool.mem (poolAddr x.store off) n
  | none => []

/-- Write bytes at offset `off` of extent `e`. -/
def State.writePool (e off : Nat) (b : List Byte) (s : State) : State :=
  match s.extent e with
  | some x => { s with pool := { s.pool with mem := cellWrites s.pool.mem (poolAddr x.store off) b } }
  | none => s

/-- Drop the bytes of the extent with storage key `store`. -/
def State.wipeStore (store : Nat) (s : State) : State :=
  { s with pool := { s.pool with
      mem := s.pool.mem.filter fun c => decide (c.1 < poolAddr store 0 ∨ poolAddr (store + 1) 0 ≤ c.1) } }

end Sys2Proof.Machine
end

