-- ==== Sys2Proof/Machine/Events.lean ====
section
/-! DEFINITION. The event controller's shared operations (R379 to R389) and the exit from STANDBY that a wake source
starts (R392). -/

namespace Sys2Proof.Machine

/-! Event numbers of Table EV-1. -/

abbrev Ev.THERMAL_THROTTLE : Nat := 24
abbrev Ev.PPS_LOST : Nat := 25
abbrev Ev.LINK_UP : Nat := 32
abbrev Ev.LINK_DOWN : Nat := 33
abbrev Ev.LINK_FAILED : Nat := 34
abbrev Ev.LINK_TAG_FAIL : Nat := 35
abbrev Ev.TP_NODE_CONFLICT : Nat := 40
abbrev Ev.TP_NEIGHBOUR_LOST : Nat := 41
abbrev Ev.TP_NEIGHBOUR_NEW : Nat := 42
abbrev Ev.COMP_LEASE_EXPIRED : Nat := 48
abbrev Ev.COMP_MEMBER_EXPIRED : Nat := 49
abbrev Ev.CH_AGENT_UNRESPONSIVE : Nat := 52
abbrev Ev.FLASH_ENDURANCE : Nat := 56
abbrev Ev.FLASH_SPARE_LOW : Nat := 57
abbrev Ev.FLASH_WORN : Nat := 58
abbrev Ev.FLASH_MAP_FAULT : Nat := 59
abbrev Ev.SE_INTEGRITY_FAIL : Nat := 64
abbrev Ev.SE_MICROCODE_MISMATCH : Nat := 65
abbrev Ev.FT_ENGINE_FENCED : Nat := 72
abbrev Ev.FT_CHECKER_LOST : Nat := 73
abbrev Ev.FT_PRESS_OFFLINE : Nat := 74
abbrev Ev.FT_HEALTH_LOW : Nat := 75
abbrev Ev.FT_EXPEL_APPLIED : Nat := 76
abbrev Ev.FT_QUARANTINE_APPLIED : Nat := 77

/-- The numbers Table EV-1 assigns to a source. -/
def eventDefined (ev : Nat) : Bool :=
  decide (ev ≤ 25) || decide (32 ≤ ev ∧ ev ≤ 35) || decide (40 ≤ ev ∧ ev ≤ 42) || decide (48 ≤ ev ∧ ev ≤ 49)
    || decide (ev = 52) || decide (56 ≤ ev ∧ ev ≤ 59) || decide (64 ≤ ev ∧ ev ≤ 65) || decide (72 ≤ ev ∧ ev ≤ 77)

/-- An event source (every number has one; one never touched is at its reset value, a pin's showing the pin's level). -/
def State.source (s : State) (ev : Nat) : Source :=
  (s.ev.sources.look ev).getD
    { Source.reset with input := decide (16 ≤ ev ∧ ev < 24) && s.pins.evtIn.getLsbD (ev - 16) }

/-- Change an event source. -/
def State.modSource (ev : Nat) (f : Source → Source) (s : State) : State :=
  { s with ev := { s.ev with sources := s.ev.sources.put ev (f (s.source ev)) } }

/-- Append a record to the event log; at 4,096 the oldest is overwritten and EVC_CNT_LOG_LOST counts one (R381). -/
def State.logEvent (ev unit detail : Nat) (s : State) : State :=
  let r : LogRec := { ev := ev, unit := unit, timeNs := s.clk.timeNs, detail := detail }
  if s.ev.log.length < 4096 then s.modEv fun e => { e with log := e.log ++ [r] }
  else
    let old := (s.ev.log.head?.map LogRec.ev).getD 1023
    (s.modEv fun e => { e with log := e.log.drop 1 ++ [r], lastOffer := e.lastOffer.change old (· - 1) }).bump
      Reg.EVC_CNT_LOG_LOST

/-- Does the condition of a level source hold (R380)? -/
def Source.holds (x : Source) : Bool := (x.sense == 0 && x.input) || (x.sense == 1 && !x.input)

/-- Leases stood still while the device slept (R290): move every lease end by the time spent. -/
def State.resumeLeases (s : State) : State :=
  match s.dev.pausedAt with
  | none => s
  | some t0 =>
    let d := s.clk.timeNs - t0
    { s with
      dev := { s.dev with pausedAt := none }
      comps := s.comps.each fun _ c => { c with
        leaseEnd := c.leaseEnd + d
        members := c.members.map fun m => { m with leaseEnd := m.leaseEnd + d } }
      pool := { s.pool with kv := s.pool.kv.each fun _ k => { k with leaseEnd := k.leaseEnd + d } } }

/-- The state changes along Table CM-3 (R371). -/
def State.enter (d : DevState) (s : State) : State :=
  if s.dev.state = d then s else { s with dev := { s.dev with prior := s.dev.state, state := d } }

/-- Every enabled port trains from DETECT (R392, R265). -/
def State.trainAll (s : State) : State :=
  { s with links := s.links.each fun _ l => if l.enable then { l with st := .detect } else l }

/-- Leaving STANDBY (R392): clocks and cores start, the controller is restored, the stacks leave self-refresh, the
device returns to the state it left, and every enabled port trains. `cause` is WAKE_N, COMMAND, EVENT, EVENT_NUM. -/
def State.standbyExit (cause : Bool × Bool × Bool × Nat) (s : State) : State :=
  let s := s.resumeLeases
  let s := s.enter s.dev.resume
  let s := { s with
    dev := { s.dev with coresOn := 0xFF, hbmSr := 0, ctrlListen := false, creditsWithheld := false, wakeCause := cause }
    ev := { s.ev with fallow := false } }
  s.trainAll

/-- A source with ENABLE and WAKE set wakes the device from STANDBY, or as soon as an entry under way completes (R392);
a fallow controller wakes by EVC_WAKE (R389). -/
def State.wakeOn (ev : Nat) (s : State) : State :=
  let x := s.source ev
  if x.enable && x.wake then
    if s.dev.state = .standby then s.standbyExit (false, false, true, ev)
    else s.modDev fun d => { d with quiesce := d.quiesce.map fun q => { q with wake := some (q.wake.getD ev) } }
  else s

/-- One raise of a source (R381): PENDING is set, sources from 24 up are logged, and a wake source wakes. -/
def State.raise (ev unit detail : Nat) (s : State) : State :=
  let s := s.modSource ev fun x => { x with pending := true }
  let s := if 24 ≤ ev then s.logEvent ev unit detail else s
  s.wakeOn ev

/-- One occurrence at an internal source: its level is high for one AON cycle (R380), so BOTH sees two edges and every
other SENSE raises once. -/
def State.occur (ev unit detail : Nat) (s : State) : State :=
  if (s.source ev).sense = 4 then (s.raise ev unit detail).raise ev unit detail else s.raise ev unit detail

/-! ### Routing (R384 to R387) -/

/-- PRIGROUP. -/
def State.prigroup (s : State) : Nat := s.field Reg.EVC_CTRL 2 0

/-- The GROUP of a source (R384). -/
def State.groupOf (s : State) (ev : Nat) : Nat := (s.source ev).priority / 2 ^ s.prigroup

/-- Is target `k` present (R385)? -/
def State.targetPresent (s : State) (k : Nat) : Bool :=
  if k < 8 then s.dev.coresOn.getLsbD k && !s.dev.restarting.getLsbD k else s.ev.subs.has k

/-- The events target `k` holds ACTIVE, with the GROUP each was claimed with. -/
def State.heldBy (s : State) (k : Nat) : List (Nat × Nat) :=
  s.ev.sources.filterMap fun p =>
    match p.2.holder with
    | some (t, g) => if t = k then some (p.1, g) else none
    | none => none

/-- A target's current priority: the lowest GROUP it holds, 256 for IDLE (R384). -/
def State.currentOf (s : State) (k : Nat) : Nat := (s.heldBy k).foldl (fun m p => min m p.2) 256

/-- THRESHOLD of target `k`; 256 until written. -/
def State.threshold (s : State) (k : Nat) : Nat := (s.ev.thresholds.look k).getD 256

/-- TIME_NS of the newest log record of an event. -/
def State.lastRaise (s : State) (ev : Nat) : Nat :=
  ((s.ev.log.reverse.find? fun r => r.ev == ev).map LogRec.timeNs).getD 0

/-- Is target `k` eligible for event `ev` (R385)? An OWNER subscriber hears of throttling no earlier than 100 us after
the rounded time (R325). -/
def State.eligible (s : State) (ev k : Nat) : Bool :=
  s.targetPresent k && (s.source ev).targets.getLsbD k
    && decide (s.groupOf ev < s.currentOf k) && decide (s.groupOf ev < s.threshold k / 2 ^ s.prigroup)
    && (match s.ev.subs.look k with
        | some u => u.mask.contains ev
            && (!u.isOwner || decide (s.lastRaise ev / 100000 * 100000 + 100000 ≤ s.clk.timeNs))
        | none => decide (k < 8))

/-- Events that may be offered now: PENDING, enabled, not ACTIVE, not on offer (R382, R385), with an eligible target. -/
def State.offerable (s : State) : List Nat :=
  (s.ev.sources.filter fun p => p.2.pending && p.2.enable && p.2.holder.isNone
    && !(s.ev.offers.any fun o => o.ev == p.1) && (List.range 16).any fun k => s.eligible p.1 k).map Prod.fst

/-- The most urgent of a list of events: GROUP, then SUB, which is the order of PRIORITY, then the lower number. -/
def State.mostUrgent (s : State) (l : List Nat) : Option Nat :=
  l.foldl (fun best ev =>
    match best with
    | none => some ev
    | some b =>
      let pe := (s.source ev).priority
      let pb := (s.source b).priority
      if pe < pb ∨ (pe = pb ∧ ev < b) then some ev else some b) none

/-- The target of the main path (R386): lowest current priority, IDLE lowest, lower index on ties; a target that timed
out waits until every other eligible one has been offered the event. -/
def State.mainTarget (s : State) (ev : Nat) : Option Nat :=
  let all := (List.range 16).filter fun k => s.eligible ev k
  let fresh := all.filter fun k => !((s.ev.tried.look ev).getD []).contains k
  (if fresh.isEmpty then all else fresh).foldl (fun best k =>
    match best with
    | none => some k
    | some b => if s.currentOf b < s.currentOf k then some k else some b) none

/-- The event packet of an offer to subscriber `k` (R388), with the log records since the previous offer, at most 64. -/
def State.sendEventPacket (k ev : Nat) (s : State) : State :=
  match s.ev.subs.look k with
  | none => s
  | some u =>
    let rs := ((s.ev.log.filter fun r => r.ev == ev).drop (s.ev.lastOffer.num ev)).take 64
    let body := rs.flatMap fun r =>
      if u.isOwner then [r.detail % 4, r.timeNs / 100000 * 100000] else [r.unit, r.timeNs, r.detail]
    { s with ev := { s.ev with subs := s.ev.subs.put k { u with seq := u.seq + 1 } } }.emit
      (.eventPacket k (u.seq + 1) ev s.clk.timeNs body)

/-- Offer event `ev` to targets `ks`. -/
def State.makeOffer (ev : Nat) (ks : List Nat) (s : State) : State :=
  let s := ks.foldl (fun s k => s.sendEventPacket k ev) s
  s.modEv fun e => { e with
    offers := e.offers ++ [{ ev := ev, targets := ks, tried := [], timeNs := s.clk.timeNs }]
    lastOffer := e.lastOffer.put ev (countIf e.log fun r => r.ev == ev) }

/-- Offer the most urgent event that has an eligible target (R385, R386). A fallow controller offers nothing (R389). -/
def State.offerNext (s : State) : State :=
  if s.ev.fallow then s else
  match s.mostUrgent s.offerable with
  | none => s
  | some ev =>
    if (s.source ev).fallback then s.makeOffer ev ((List.range 16).filter fun k => s.eligible ev k)
    else match s.mainTarget ev with
      | some k =>
        let all := (List.range 16).filter fun k => s.eligible ev k
        let t := (s.ev.tried.look ev).getD []
        let s := if all.all (fun k => t.contains k) then s.modEv fun e => { e with tried := e.tried.del ev } else s
        s.makeOffer ev [k]
      | none => s

/-- The event on offer to target `k` that a claim takes: the named one, or the most urgent. -/
def State.onOffer (s : State) (k : Nat) (ev : Option Nat) : Option Nat :=
  match ev with
  | some e => if s.ev.offers.any fun o => o.ev == e && o.targets.contains k then some e else none
  | none => s.mostUrgent ((s.ev.offers.filter fun o => o.targets.contains k).map Offer.ev)

/-- A claim by target `k` (R386): the event it takes, or 1,023 with EVC_CNT_SPURIOUS. -/
def State.claim (k : Nat) (ev : Option Nat) (s : State) : Nat × State :=
  match s.onOffer k ev with
  | some e =>
    let g := s.groupOf e
    let s := s.modSource e fun x => { x with pending := false, holder := some (k, g) }
    (e, s.modEv fun v => { v with offers := v.offers.filter (fun o => o.ev != e), tried := v.tried.del e })
  | none => (1023, s.bump Reg.EVC_CNT_SPURIOUS)

/-- A complete by target `k` (R382, R387): nothing unless it holds the event; a level that still holds is PENDING again. -/
def State.complete (k ev : Nat) (s : State) : State :=
  match (s.source ev).holder with
  | some (t, _) =>
    if t = k then s.modSource ev fun x => { x with holder := none, pending := x.pending || x.holds } else s
  | none => s

/-- A target stops being present: the events it holds ACTIVE return to PENDING, and its offers are withdrawn (R387). -/
def State.targetGone (k : Nat) (s : State) : State :=
  s.modEv fun e => { e with
    sources := e.sources.each fun _ x =>
      match x.holder with
      | some (t, _) => if t = k then { x with holder := none, pending := true } else x
      | none => x
    offers := (e.offers.map fun o => { o with targets := o.targets.filter (· != k) }).filter
      fun o => !o.targets.isEmpty }

/-- Remove a subscriber (R388). -/
def State.unsubscribe (k : Nat) (s : State) : State :=
  if s.ev.subs.has k then
    (s.modEv fun e => { e with subs := e.subs.del k }).targetGone k
  else s

end Sys2Proof.Machine
end

