-- ==== Sys2Proof/Machine/Flags.lean ====
section
/-! DEFINITION. The codes the K9 reports: status codes (Table CM-6), device states (Table CM-3), composition states
(Table CP-6), and the device states in which each group of commands is legal (R373). The block has no arithmetic
flags. -/

namespace Sys2Proof.Machine

abbrev St.OK : Nat := 0x00
abbrev St.INVALID_PARAM : Nat := 0x01
abbrev St.UNKNOWN_OPCODE : Nat := 0x02
abbrev St.WRONG_STATE : Nat := 0x03
abbrev St.NOT_AUTHORISED : Nat := 0x04
abbrev St.SUPERSEDED : Nat := 0x05
abbrev St.NO_CAPACITY : Nat := 0x06
abbrev St.NOT_FOUND : Nat := 0x07
abbrev St.BAD_SESSION : Nat := 0x08
abbrev St.BAD_SEQUENCE : Nat := 0x09
abbrev St.IN_PROGRESS : Nat := 0x0A
abbrev St.BUSY : Nat := 0x0B
abbrev St.CSR_REFUSED : Nat := 0x0C
abbrev St.SESSION_REQUIRED : Nat := 0x0D
abbrev St.OUT_OF_EXTENT : Nat := 0x20
abbrev St.EXTENT_BUSY : Nat := 0x21
abbrev St.EXTENT_REVOKED : Nat := 0x22
abbrev St.READ_ONLY : Nat := 0x23
abbrev St.LAYOUT_MISMATCH : Nat := 0x24
abbrev St.PROTECTION_DOWNGRADE : Nat := 0x25
abbrev St.PROTECTED_NO_COMPRESS : Nat := 0x26
abbrev St.TIER_LOST : Nat := 0x27
abbrev St.KEY_EXISTS : Nat := 0x28
abbrev St.LENGTH_FAULT : Nat := 0x29
abbrev St.BLOCK_FORMAT : Nat := 0x2A
abbrev St.DESC_CRC : Nat := 0x40
abbrev St.GROUP_MISMATCH : Nat := 0x41
abbrev St.OP_TIMEOUT : Nat := 0x42
abbrev St.INDEX_RANGE : Nat := 0x43
abbrev St.PRESS_OFFLINE : Nat := 0x44
abbrev St.NOT_ELIGIBLE : Nat := 0x45
abbrev St.STALE_EPOCH : Nat := 0x60
abbrev St.NOT_BOUND : Nat := 0x61
abbrev St.MAP_BUSY : Nat := 0x62
abbrev St.FENCE_INCOMPLETE : Nat := 0x63
abbrev St.RETRY_EXPIRED : Nat := 0x64
abbrev St.NO_ROUTE : Nat := 0x65
abbrev St.RECLAIMED : Nat := 0x66
abbrev St.UPGRADE_LOST : Nat := 0x67
abbrev St.NO_IDENTITY : Nat := 0x80
abbrev St.BAD_SIGNATURE : Nat := 0x81
abbrev St.DECRYPT_FAIL : Nat := 0x82
abbrev St.BINDING_DEVICE : Nat := 0x83
abbrev St.BINDING_SVN : Nat := 0x84
abbrev St.DEBUG_STATE : Nat := 0x85
abbrev St.ROLLBACK : Nat := 0xA0
abbrev St.UPDATE_INCOMPLETE : Nat := 0xA1
abbrev St.DIGEST_MISMATCH : Nat := 0xA2

/-- Table CM-6: is a status code one the K9 sends in a GFP response or OP_RESULT, that is, not reserved? -/
def statusDefined (c : Nat) : Bool :=
  decide (c ≤ 0x0D) || decide (0x20 ≤ c ∧ c ≤ 0x2A) || decide (0x40 ≤ c ∧ c ≤ 0x45) || decide (0x60 ≤ c ∧ c ≤ 0x67)
    || decide (0x80 ≤ c ∧ c ≤ 0x85) || decide (0xA0 ≤ c ∧ c ≤ 0xA2)

/-- State codes of Table CM-3. -/
def DevState.code : DevState → Nat
  | .poweredOff => 0
  | .deepStandby => 1
  | .standby => 2
  | .boot => 3
  | .ready => 4
  | .serving => 5
  | .draining => 6
  | .activating => 7
  | .faulted => 8
  | .maintenance => 9

/-- COMP_STATE.STATE (Table CP-6). -/
def CompState.code : CompState → Nat
  | .active => 0
  | .expired => 1
  | .destroying => 2

/-- WINNER_CLASS (Table CM-2). -/
def Cls.code : Cls → Nat
  | .fabricManager => 0
  | .owner => 1
  | .observer => 2

/-! The Legal in groups of R373, bit n for state code n. -/

abbrev Legal.A : Nat := 0x3FC
abbrev Legal.R : Nat := 0x3F8
abbrev Legal.C : Nat := 0x378
abbrev Legal.L : Nat := 0x070
abbrev Legal.S : Nat := 0x020
/-- READY, SERVING. -/
abbrev Legal.RS : Nat := 0x030
/-- BOOT, READY. -/
abbrev Legal.BR : Nat := 0x018
/-- L and MAINTENANCE. -/
abbrev Legal.LM : Nat := 0x270
/-- C without BOOT. -/
abbrev Legal.CB : Nat := 0x370
/-- READY, SERVING, STANDBY. -/
abbrev Legal.P : Nat := 0x034

/-! ### Error detail items (Table CM-2) -/

abbrev Det.CURRENT_STATE : Nat := 0xF001
abbrev Det.LEGAL_STATES : Nat := 0xF002
abbrev Det.WINNER_CLASS : Nat := 0xF003
abbrev Det.REMAINING_US : Nat := 0xF004
abbrev Det.FAILED_ITEM : Nat := 0xF005
abbrev Det.DETAIL : Nat := 0xF006
abbrev Det.COMP_CURRENT_STATE : Nat := 0xF007
abbrev Det.COMP_LEGAL_STATES : Nat := 0xF008

end Sys2Proof.Machine
end

