-- ==== Sys2Proof/Machine/Nirod.lean ====
section
/-! DEFINITION. The Nirod command protocol's shared operations: replies, sessions, and the admission of a command
through steps 3 and 6 to 11 of R368. Every Nirod command of the table is `nirod` around its own body. -/

namespace Sys2Proof.Machine

/-- Where a command's execution stands: its new state, and its reply, or none while it waits. -/
abbrev Res := State × Option (Nat × List Item)

/-- The command succeeds with reply data. -/
def ok (items : List Item) (s : State) : Res := (s, some (St.OK, items))

/-- The command fails with a status; nothing else changes. -/
def fail (st : Nat) (s : State) : Res := (s, some (st, []))

/-- The command fails with ST_INVALID_PARAM, FAILED_ITEM naming the item of index `i` (Table CM-2). -/
def invalid (i : Nat) (s : State) : Res := (s, some (St.INVALID_PARAM, [.detail Det.FAILED_ITEM i]))

/-- The command fails with a status and a DETAIL value (Table CM-2). -/
def failDetail (st d : Nat) (s : State) : Res := (s, some (st, [.detail Det.DETAIL d]))

/-- The command is still running. -/
def wait (s : State) : Res := (s, none)

/-! ### Sessions -/

/-- Can the control port take a command (Table AR-6)? It is off without power, in reset and in DEEP_STANDBY. -/
def State.controlUp (s : State) : Bool :=
  s.pins.powered && !s.pins.resetLow && !s.pins.thermtripLow
    && decide (s.dev.state ≠ .poweredOff ∧ s.dev.state ≠ .deepStandby)

/-- End a session (R367): its cache, snapshots and subscribers go; every other object stays. -/
def State.endSession (i : Nat) (s : State) : State :=
  let subs := (s.ev.subs.filter fun p => p.2.session == i).map Prod.fst
  let s := subs.foldl (fun s k => s.unsubscribe k) s
  s.modNirod fun n => { n with
    sessions := n.sessions.del i
    asm := n.asm.filter fun a => a.session != i
    recent := n.recent.filter fun r => r.session != i }

/-- An uncached reply (R362): the session's NONCE_EXT count moves on, and the session ends before it would pass
16,777,215. -/
def State.uncached (i seq op st : Nat) (s : State) : State :=
  match s.nirod.sessions.look i with
  | none => s
  | some x =>
    if 16777215 ≤ x.nonceExt then s.endSession i
    else (s.modSession i fun x => { x with nonceExt := x.nonceExt + 1 }).emit (.reply i seq op st [])

/-- Send the reply of a command. Session 0 keeps none; another session caches it, keeping the last 256 (R366), and the
command no longer runs. A session that has ended gets no reply. -/
def State.reply (c : Ctx) (op st : Nat) (items : List Item) (s : State) : State :=
  if c.session = 0 then s.emit (.reply 0 c.seq op st items)
  else match s.nirod.sessions.look c.session with
    | none => s
    | some x =>
      if 2 ^ 32 ≤ x.txMsgs then s.endSession c.session
      else (s.modSession c.session fun x => { x with
        cache := ({ seq := c.seq, opcode := op, status := st, items := items } :: x.cache).take 256
        running := x.running.filter (fun r => r.seq != c.seq)
        txMsgs := x.txMsgs + 1 }).emit (.reply c.session c.seq op st items)

/-- Reply, unless the command waits. -/
def State.finish (c : Ctx) (op : Nat) (r : Res) : State :=
  match r.2 with
  | some (st, items) => r.1.reply c op st items
  | none => r.1

/-! ### SEQ (R366) -/

/-- How a SEQ stands in its session. -/
inductive SeqCase where
  | fresh
  | cached
  | running
  | bad
deriving DecidableEq, Repr

/-- R366's table; comparisons are modulo 2^32. `fresh` covers its first two rows. -/
def Session.classify (x : Session) (seq : Nat) : SeqCase :=
  let up := (seq + 2 ^ 32 - x.high) % 2 ^ 32
  let down := (x.high + 2 ^ 32 - seq) % 2 ^ 32
  if 1 ≤ up ∧ up ≤ 4096 then .fresh
  else if down ≤ 255 then
    if x.recorded.contains seq then
      if x.running.any fun r => r.seq == seq then .running else .cached
    else if down = 0 then .bad
    else .fresh
  else .bad

/-- Record a new SEQ as running (R366): H moves up to it when it is ahead, and SEQs below H − 255 are forgotten. -/
def Session.record (x : Session) (seq op mtime idle now : Nat) : Session :=
  let up := (seq + 2 ^ 32 - x.high) % 2 ^ 32
  let h := if 1 ≤ up ∧ up ≤ 4096 then seq else x.high
  { x with
    high := h
    recorded := (seq :: x.recorded).filter fun q => decide ((h + 2 ^ 32 - q) % 2 ^ 32 ≤ 255)
    running := x.running ++ [{ seq := seq, opcode := op, mtime := mtime, started := false }]
    lastCmdNs := now
    idleS := idle
    rxMsgs := x.rxMsgs + 1 }

/-- The message time TIME_NS lies in (R369). -/
def State.messageTime (s : State) : Nat := s.clk.timeNs / 10000

/-- No target. -/
def Target.none : Target where
  comp := .none
  extent := .none
  member := .none

/-- Step 6 of R368 for a command with opcode `op`: record it, or answer it here. `true` when it goes on. -/
def State.stepSix (i seq op : Nat) (tg : Target) (s : State) : Bool × State :=
  match s.nirod.sessions.look i with
  | none => (false, (s.bump Reg.CM_CNT_BAD_SESSION).emit (.reply i seq op St.BAD_SESSION []))
  | some x =>
    match x.classify seq with
    | .fresh =>
      if 32 ≤ x.running.length then (false, s.uncached i seq op St.BUSY)
      else if 2 ^ 32 ≤ x.rxMsgs then (false, s.endSession i)
      else
        let s := s.modSession i fun x => x.record seq op s.messageTime (s.field Reg.CM_SESSION_CFG 15 0) s.clk.timeNs
        let s := match x.cls with
          | some k => s.modNirod fun n => { n with
              recent := n.recent.filter (fun r => r.mtime == s.messageTime)
                ++ [{ mtime := s.messageTime, session := i, seq := seq, cls := k, opcode := op, target := tg }] }
          | none => s
        (true, s)
    | .cached =>
      let s := s.bump Reg.CM_CNT_DUP_REPLIES
      (false, match x.cache.find? fun e => e.seq == seq with
        | some e => s.emit (.reply i seq e.opcode e.status e.items)
        | none => s)
    | .running => (false, s.uncached i seq op St.IN_PROGRESS)
    | .bad => (false, (s.bump Reg.CM_CNT_BAD_SEQUENCE).uncached i seq op St.BAD_SEQUENCE)

/-! ### Admission (R368) -/

/-- A row of Table CM-4: opcode, the classes that may issue it, whether session 0 may (a dash), and where it is legal. -/
structure Cmd where
  op : Nat
  fm : Bool
  owner : Bool
  observer : Bool
  open_ : Bool
  legal : Nat
  /-- composition states that accept it, bit n for COMP_STATE.STATE n, from a fabric manager and from others -/
  compFm : Nat
  compOther : Nat

/-- A command of the fabric manager. -/
def Cmd.f (op legal : Nat) : Cmd := ⟨op, true, false, false, false, legal, 1, 1⟩

/-- A command of the fabric manager and the owner. -/
def Cmd.fo (op legal : Nat) : Cmd := ⟨op, true, true, false, false, legal, 1, 1⟩

/-- A command of every class. -/
def Cmd.fob (op legal : Nat) : Cmd := ⟨op, true, true, true, false, legal, 1, 1⟩

/-- A command marked with a dash: any session, and session 0. -/
def Cmd.any (op legal : Nat) : Cmd := ⟨op, true, true, true, true, legal, 1, 1⟩

/-- Does the class of a session permit the command (R300)? -/
def Cmd.permits (k : Cmd) : Option Cls → Bool
  | some .fabricManager => k.fm
  | some .owner => k.owner
  | some .observer => k.observer
  | none => k.open_

/-- Does a command remove, revoke, destroy or adopt (R301)? COMP_DESTROY, COMP_MEMBER_REMOVE, COH_DOMAIN_DESTROY,
COH_AGENT_REMOVE, EXTENT_DESTROY, EXTENT_REVOKE, EXTENT_ADOPT, KV_DESTROY. -/
def removes (op : Nat) : Bool := [0x1002, 0x1004, 0x1102, 0x1104, 0x2002, 0x2005, 0x2007, 0x2108].contains op

/-- Do two commands act on the same composition, member or extent (R301)? A command that names only a composition
acts on all of it. -/
def Target.meets (a b : Target) : Bool :=
  a.comp.isSome && a.comp == b.comp
    && (a.extent.isNone || b.extent.isNone || a.extent == b.extent)
    && (a.member.isNone || b.member.isNone || a.member == b.member)

/-- The class of a contradicting command of a higher class in the same message time (R301). -/
def State.superseder (s : State) (c : Ctx) (k : Cls) (op : Nat) (tg : Target) : Option Cls :=
  let mt := match s.nirod.recent.find? fun r => r.session == c.session && r.seq == c.seq with
    | some r => r.mtime
    | none => s.messageTime
  (s.nirod.recent.find? fun r => r.mtime == mt && decide (r.cls.code < k.code) && (removes r.opcode || removes op)
    && r.target.meets tg).map Recent.cls

/-- The core a session's commands run on (R370). -/
def State.coreFor (s : State) (i : Nat) : Nat :=
  if s.dev.state = .standby then 0
  else if s.dev.coresOn.getLsbD (i % 8) && !s.dev.restarting.getLsbD (i % 8) then i % 8 else 0

/-- Steps 8 and 9 for a named composition `h`: authority over it, and its state (R299). -/
def checkComp (k : Cmd) (cls : Option Cls) (own : Nat) (h : Nat) (s : State) : Option Res :=
  match s.comp h with
  | none =>
    if (cls == some .owner || cls == some .observer) && own != h then some (fail St.NOT_AUTHORISED s) else none
  | some x =>
    if (cls == some .owner || cls == some .observer) && own != h then some (fail St.NOT_AUTHORISED s)
    else
      let m := if cls == some .fabricManager then k.compFm else k.compOther
      if bit m x.state.code then none
      else some (s.bump Reg.CM_CNT_WRONG_STATE, some (St.WRONG_STATE, [.detail Det.COMP_CURRENT_STATE x.state.code, .detail Det.COMP_LEGAL_STATES m]))

/-- Steps 7 to 11 of R368 for a command that has passed step 6. Session 0 has no authority class: a command it does not
carry is outside its class (R300), or outside the secure session of a CONFIDENTIAL composition (R311). -/
def admitted (c : Ctx) (k : Cmd) (tg : Target) (legalNow : State → Nat) (body : State → Res) (s : State) : Res :=
  let sess := s.nirod.sessions.look c.session
  let cls := sess.bind Session.cls
  let own := (sess.map Session.comp).getD 256
  if !k.open_ && c.session == 0 then
    fail (if (tg.comp.bind s.comp).any Comp.confidential then St.SESSION_REQUIRED else St.NOT_AUTHORISED) s
  else if !k.open_ && !k.permits cls then fail St.NOT_AUTHORISED s
  else
    let legal := legalNow s
    let st : Option Res := if bit legal s.dev.state.code then none
      else some (s.bump Reg.CM_CNT_WRONG_STATE, some (St.WRONG_STATE, [.detail Det.CURRENT_STATE s.dev.state.code, .detail Det.LEGAL_STATES legal]))
    -- step 8 precedes step 9: authority over the composition is checked before the device's state
    let comp := tg.comp.bind fun h => checkComp k cls own h s
    match comp with
    | some (_, some (0x04, _)) => fail St.NOT_AUTHORISED s
    | _ =>
      match st with
      | some r => r
      | none =>
        match comp with
        | some r => r
        | none =>
          match cls.bind fun x => s.superseder c x k.op tg with
          | some w =>
            let s := match tg.comp with
              | some h => s.bumpComp h Reg.CPCNT_SUPERSEDED
              | none => s
            (s, some (St.SUPERSEDED, [.detail Det.WINNER_CLASS w.code]))
          | none =>
            match c.badItem with
            | some i => invalid i s
            | none => body s

/-- Mark a command as started. -/
def State.start (c : Ctx) (s : State) : State :=
  s.modSession c.session fun x => { x with
    running := x.running.map fun r => if r.seq = c.seq then { r with started := true } else r }

/-- Has this command passed step 6 without having started (NIROD_PART_RECEIVE recorded it)? -/
def State.waits (c : Ctx) (s : State) : Bool :=
  match s.nirod.sessions.look c.session with
  | some x => x.running.any fun r => r.seq == c.seq && !r.started
  | none => false

/-- A whole Nirod command (R368). A command whose parts NIROD_PART_RECEIVE has recorded starts here; one whose row
comes alone passes steps 3 and 6 here first. It waits for a core that restarts (R21, R370). After a
boot that failed at step 1, 3 or 4 the boot ROM answers only NOP and DEVICE_INFO (R406). -/
def nirodFull (i : Instr) (c : Ctx) (k : Cmd) (tg : Target) (legalNow : State → Nat) (body : State → Res)
    (s : State) : State :=
  if !s.controlUp then s
  else if s.fw.romOnly ∧ !(c.session = 0 ∧ (k.op = 0x0003 ∨ k.op = 0x0004)) then
    (s.bump Reg.CM_CNT_WRONG_STATE).emit (.reply c.session c.seq k.op St.WRONG_STATE [.detail Det.CURRENT_STATE s.dev.state.code, .detail Det.LEGAL_STATES 0])
  else if c.session = 0 then
    if c.seq ≠ 0 then s.emit (.reply 0 c.seq k.op St.INVALID_PARAM [.detail Det.FAILED_ITEM 0xFFFF])
    else State.finish c k.op (admitted c k tg legalNow body s)
  else
    let r := if s.waits c then (true, s) else s.stepSix c.session c.seq k.op tg
    if !r.1 then r.2
    else if r.2.dev.restarting.getLsbD (r.2.coreFor c.session) then
      r.2.modNirod fun n => { n with deferred := n.deferred ++ [(c.session, i)] }
    else State.finish c k.op (admitted c k tg legalNow body (r.2.start c))

/-- The first command that waited for a core which has come back (R21). -/
def State.nextDeferred (s : State) : Option (Nat × Instr) :=
  s.nirod.deferred.find? fun q => !s.dev.restarting.getLsbD (s.coreFor q.1)

/-- Take a command off the list of those that wait for a core. -/
def State.dropDeferred (q : Nat × Instr) (s : State) : State :=
  s.modNirod fun n => { n with deferred := n.deferred.erase q }

/-- A Nirod command whose legal states are those of its row. -/
def nirod (i : Instr) (c : Ctx) (k : Cmd) (tg : Target) (body : State → Res) (s : State) : State :=
  nirodFull i c k tg (fun _ => k.legal) body s

/-- Target: a composition. -/
def Target.ofComp (h : Nat) : Target := { Target.none with comp := some h }

/-- Target: an extent and its composition. -/
def State.targetExtent (s : State) (e : Nat) : Target :=
  { Target.none with comp := (s.extent e).map Extent.comp, extent := some e }

/-- The class of a command's session. -/
def State.classOf (s : State) (c : Ctx) : Option Cls := (s.nirod.sessions.look c.session).bind Session.cls

end Sys2Proof.Machine
end

