-- ==== Sys2Proof/Machine/Egress.lean ====
section
/-! DEFINITION. How a packet leaves the K9: the routing choice of R272 and R273, the queues of R234 with their spill
(R231), the FENCE watermark (R203), and the responses of R183. -/

namespace Sys2Proof.Machine

/-! ### Queues -/

/-- The die of a logical port (Table AR-1). -/
def portDie (p : Nat) : Nat := if p < 128 then 0 else 1

/-- Cells of a list of packets. -/
def cellsOf (l : List (Packet × Nat)) : Nat := sumOf l fun q => q.1.cells

/-- On-chip cells of a queue: those of its packets that are not spilled. -/
def Queue.onChip (q : Queue) : Nat := cellsOf (q.packets.take (q.packets.length - q.spilled))

/-- Spilled bytes of a queue, in the 32 KiB blocks of R231. -/
def Queue.spillBytes (q : Queue) : Nat :=
  ceilDiv (256 * cellsOf (q.packets.drop (q.packets.length - q.spilled))) 32768 * 32768

/-- Bytes queued, spill included (R238). -/
def Queue.depth (q : Queue) : Nat := sumOf q.packets fun x => x.1.size

/-- The egress queue of a port; one never used is at its reset value. -/
def LPort.queue (l : LPort) (q : Nat) : Queue := (l.queues.look q).getD Queue.reset

/-- Change an egress queue. -/
def LPort.modQueue (q : Nat) (f : Queue → Queue) (l : LPort) : LPort := { l with queues := l.queues.put q (f (l.queue q)) }

/-- On-chip cells a port uses: its queues, its ingress and the packets not yet acknowledged (R230). -/
def LPort.cellsUsed (l : LPort) : Nat :=
  sumOf l.queues.vals Queue.onChip + sumOf l.prio (fun x => x.1.cells) + sumOf l.ingress Packet.cells + sumOf l.unacked (fun u => u.2.cells)

/-- On-chip cells in use on a die (SW_BUF_USED_D0, SW_BUF_USED_D1). -/
def State.bufUsed (s : State) (die : Nat) : Nat :=
  sumOf (s.links.filter fun p => portDie p.1 == die) fun p => p.2.cellsUsed

/-- Queue spill held on a die, bytes. -/
def State.spillOn (s : State) (die : Nat) : Nat :=
  sumOf (s.links.filter fun p => portDie p.1 == die) fun p => sumOf p.2.queues.vals Queue.spillBytes

/-- Queue spill of a composition, bytes: the spilled packets that carry its COMP_ID. -/
def State.spillOfComp (s : State) (compId : Nat) : Nat :=
  sumOf s.links.vals fun l => sumOf l.queues.vals fun q =>
    256 * cellsOf ((q.packets.drop (q.packets.length - q.spilled)).filter fun x => x.1.hdr.compId == compId)

/-- SWCNT_OVF_HELD: an episode starts when a composition reaches SW_OVF_COMP_LIMIT, and ends below it (R232). -/
def State.checkSpillLimit (compId : Nat) (s : State) : State :=
  match s.handleOf compId with
  | none => s
  | some h =>
    let ovr := decide (s.field Reg.SW_OVF_COMP_LIMIT 15 0 * 1048576 ≤ s.spillOfComp compId)
    if ovr then
      if s.sw.ovfHeld.contains h then s
      else (s.modSw fun w => { w with ovfHeld := w.ovfHeld ++ [h] }).bumpComp h Reg.SWCNT_OVF_HELD
    else s.modSw fun w => { w with ovfHeld := w.ovfHeld.filter (· != h) }

/-- SW_CNT_OVF_FULL: an episode starts when a die's overflow region is full (R233). -/
def State.setOvfFull (die : Nat) (full : Bool) (s : State) : State :=
  let was := if die = 0 then s.sw.ovfFull0 else s.sw.ovfFull1
  let s := s.modSw fun w => if die = 0 then { w with ovfFull0 := full } else { w with ovfFull1 := full }
  if full && !was then s.bump Reg.SW_CNT_OVF_FULL else s

/-- The egress queue a packet takes (R234): 2 × TC for REQ, 2 × TC + 1 for RSP, the priority queue for the rest. -/
def queueOf (p : Packet) : Option Nat :=
  let vc := vcOf p.opcode
  if vc = 0 then some (2 * (p.hdr.tc % 8)) else if vc = 1 then some (2 * (p.hdr.tc % 8) + 1) else none

/-- A packet joins the egress of a logical port: it wakes a FALLOW port (R265), and it spills when its die is above
OVF_START percent and its queue already holds more than 128 cells (R231), unless the region is full (R233). -/
def State.enqueue (lp : Nat) (p : Packet) (s : State) : State :=
  match s.links.look lp with
  | none => s
  | some l =>
    let now := s.clk.timeNs
    let s := if l.st = .fallow && !l.waking then
        (s.modPort lp fun l => { l with waking := true }).emit (.linkCtl lp 5 0) else s
    match queueOf p with
    | none => s.modPort lp fun l => { l with prio := l.prio ++ [(p, now, false)] }
    | some q =>
      let die := portDie lp
      let hot := decide (s.field Reg.SW_OVF_CFG 6 0 * 393216 < 100 * s.bufUsed die) && decide (128 < cellsOf (l.queue q).packets)
      let wants := hot || decide (0 < (l.queue q).spilled)
      let full := wants && decide (16 * 2 ^ 30 ≤ s.spillOn die)
      let s := if wants then s.setOvfFull die full else s
      let s := s.modPort lp fun l => l.modQueue q fun x => { x with
        packets := x.packets ++ [(p, now)]
        spilled := if wants && !full then x.spilled + 1 else x.spilled }
      if wants then s.checkSpillLimit p.hdr.compId else s

/-! ### Routing -/

/-- Is the neighbour on a PEER port LIVE (Table TP-2)? -/
def State.nbrLive (s : State) (lp : Nat) : Bool :=
  match s.topo.nbrs.look lp with
  | some n => decide (n.state = .live)
  | none => false

/-- MEMBER of the neighbour on a port, 0 where none is known. -/
def State.nbrMember (s : State) (lp : Nat) : Nat := ((s.topo.nbrs.look lp).map Nbr.member).getD 0

/-- Does a packet belong to a CONFIDENTIAL composition (R285)? -/
def State.confidentialPacket (s : State) (p : Packet) : Bool :=
  ((s.handleOf p.hdr.compId).bind s.comp).any Comp.confidential

/-- The classes R277 keeps off older members. An OP_RESULT counts when it answers an ATTEND or ENCODE open here. -/
def State.nineOnly (s : State) (p : Packet) : Bool :=
  decide (0x40 ≤ p.opcode ∧ p.opcode ≤ 0x52) || decide (0xC0 ≤ p.opcode ∧ p.opcode ≤ 0xD2)
    || (p.opcode == 0x30 && (leAt p.data 0 1 == 0x40 || leAt p.data 0 1 == 0x41))
    || (p.opcode == 0xB0 && s.work.ops.vals.any fun o =>
        (decide (o.kind = .attend) || decide (o.kind = .encode)) && o.hdr.src == p.hdr.dst
          && leAt o.desc 4 4 == leAt p.data 0 4)

/-- The entry of the expel list that names a port's far end (R355): the LINK_ID found at ALIGN. -/
def State.expelEntry (s : State) (lp : Nat) : Option ExpelEntry :=
  (s.links.look lp).bind fun l => s.ft.expelled.find? fun e => decide (l.role = .peer) && e.linkId == l.farId

/-- Is the far end of a port in quarantine: only packets on VC 3 may choose it (Table FT-6)? -/
def State.quarantined (s : State) (lp : Nat) : Bool := (s.expelEntry lp).any ExpelEntry.quarantine

/-- Can a member carry a packet (R272, Table FT-6), the member rule of R277 apart? -/
def State.memberUsable (s : State) (p : Packet) (r : Route) (i lp : Nat) : Bool :=
  match s.links.look lp with
  | none => false
  | some l =>
    (decide (l.st = .up) || decide (l.st = .fallow))
      && (decide (l.role ≠ .peer) || s.nbrLive lp)
      && !r.withdrawn.getLsbD i
      && (!s.quarantined lp || vcOf p.opcode == 3)
      && (!s.confidentialPacket p || l.cryptOn)

/-- The member rule of R277. -/
def State.memberNine (s : State) (p : Packet) (lp : Nat) : Bool :=
  !s.nineOnly p || (match s.links.look lp with
    | some l => decide (l.role ≠ .peer) || s.nbrMember lp == 9
    | none => false)

/-- The eligible members of an entry for a packet, in member order, leaving out `excl` (R272, R202). -/
def State.eligibleMembers (s : State) (p : Packet) (r : Route) (excl : Option Nat) : List Nat :=
  (r.members.zipIdx.filter fun x => s.memberUsable p r x.2 x.1 && s.memberNine p x.1 && !(excl == some x.1)).map Prod.fst

/-- Does the choice leave out an eligible older member (R277)? -/
def State.skipsMember (s : State) (p : Packet) (r : Route) : Bool :=
  r.members.zipIdx.any fun x => s.memberUsable p r x.2 x.1 && !s.memberNine p x.1

/-- H of R273. -/
def pinHash (h : Hdr) : Nat := (crc32 (leBytes 2 h.src ++ leBytes 2 h.dst ++ leBytes 2 h.compId)).toNat

/-- Bytes waiting in the egress queue a packet would join. -/
def State.queuedBytes (s : State) (p : Packet) (lp : Nat) : Nat :=
  match s.links.look lp with
  | none => 0
  | some l => match queueOf p with
    | some q => (l.queue q).depth
    | none => sumOf l.prio fun x => x.1.size

/-- The first of the emptiest members, starting after the one last chosen (R273). -/
def pickSpray (cost : Nat → Nat) (last : Nat) (l : List Nat) : Option Nat :=
  let turned := (l.dropWhile (· != last)).drop 1 ++ l.takeWhile (· != last) ++ (l.filter (· == last))
  turned.foldl (fun best x =>
    match best with
    | none => some x
    | some b => if cost x < cost b then some x else some b) none

/-- Is a packet pinned (R273)? Snoops and management packets are, and every packet of a LANE_ORDER composition. -/
def State.pinned (s : State) (p : Packet) : Bool :=
  vcOf p.opcode == 2 || vcOf p.opcode == 3
    || !(((s.handleOf p.hdr.compId).bind s.comp).any Comp.releaseFlag)

/-- The VALID entry for a destination (Table TP-3). -/
def State.routeFor (s : State) (dst : Nat) : Option Route := (s.topo.routes.look dst).filter Route.valid

/-- The member a packet leaves by, or none (R273). -/
def State.chooseMember (s : State) (p : Packet) (excl : Option Nat) : Option Nat :=
  match s.routeFor p.hdr.dst with
  | none => none
  | some r =>
    let l := s.eligibleMembers p r excl
    if l.isEmpty then none
    else if s.pinned p then l[pinHash p.hdr % l.length]?
    else pickSpray (s.queuedBytes p) r.last l

/-- A new FENCE record for a write track. -/
def Track.ack (t : Track) (seq : Nat) : Track :=
  let d := (seq + 2 ^ 32 - t.acked) % 2 ^ 32
  if 2 ^ 31 ≤ d then t
  else
    let above := if t.above.contains seq then t.above else t.above ++ [seq]
    -- the watermark passes every SRC_SEQ that is acknowledged without a gap
    let w := (List.range above.length).foldl (fun w _ => if above.contains w then (w + 1) % 2 ^ 32 else w) t.acked
    { t with acked := w, above := above.filter fun q => decide ((q + 2 ^ 32 - w) % 2 ^ 32 < 2 ^ 31) }

/-- Responses that acknowledge a write for FENCE: those of write-class requests whose write counts as applied (R294). -/
def acknowledges (p : Packet) : Bool :=
  (p.opcode == 0x82 || decide (0x90 ≤ p.opcode ∧ p.opcode ≤ 0x99))
    && !([St.INVALID_PARAM, St.NO_CAPACITY, St.NOT_BOUND, St.NO_ROUTE].contains p.hdr.status)

/-- A response passes back to its source at a port: the acknowledged watermark may move (chapter 08, FENCE). -/
def State.ackTrack (lp : Nat) (p : Packet) (s : State) : State :=
  if !acknowledges p then s else
  match s.handleOf p.hdr.compId with
  | none => s
  | some h => s.modTx fun x => { x with tracks := x.tracks.map fun t =>
      if t.lport = lp ∧ t.dst = p.hdr.src ∧ t.comp = h then t.ack p.hdr.seq else t }

/-- Send a packet to a chosen member, remembering the choice. -/
def State.sendBy (lp : Nat) (p : Packet) (s : State) : State :=
  let s := { s with topo := { s.topo with routes := s.topo.routes.change p.hdr.dst fun r => { r with last := lp } } }
  let s := match s.links.look lp with
    | some l => if l.role = Role.accel ∧ 0x80 ≤ p.opcode then s.ackTrack lp p else s
    | none => s
  s.enqueue lp p

/-- Hold a packet that has no eligible member, for up to NO_ROUTE_WAIT_US (R275). -/
def State.holdPacket (p : Packet) (s : State) : State :=
  s.modTx fun x => { x with
    held := x.held.put x.nextHeld { pkt := p, untilNs := s.clk.timeNs + 1000 * s.field Reg.TP_NOROUTE_CFG 15 0 }
    nextHeld := x.nextHeld + 1 }

/-- Send a packet by its routing-table entry (R272 to R275), leaving out a failed member. -/
def State.route (p : Packet) (excl : Option Nat) (s : State) : State :=
  let s := match s.routeFor p.hdr.dst with
    | some r => if s.skipsMember p r then s.bump Reg.TP_CNT_MEMBER_SKIP else s
    | none => s
  match s.chooseMember p excl with
  | some lp => s.sendBy lp p
  | none => s.holdPacket p

/-! ### Responses (R183, R189) -/

/-- The low 8 bits of the current map epoch of the composition with a COMP_ID, 0 where none is held. -/
def State.epochByte (s : State) (compId : Nat) : Nat := (((s.handleOf compId).bind s.comp).map fun c => c.epoch % 256).getD 0

/-- The response packet to request `h` with opcode `op` (R183). -/
def State.response (s : State) (op : Nat) (h : Hdr) (st : Nat) (data : List Byte) : Packet :=
  let r := { Hdr.zero with
    lport := h.lport
    tc := h.tc
    tag := h.tag
    src := s.topo.node
    dst := h.src
    compId := h.compId
    epoch := s.epochByte h.compId
    status := st
    length := data.length
    addr := h.addr
    seq := h.seq }
  { opcode := op + 0x80, hdr := r.sealed (op + 0x80), data := data }

/-- Answer a request through the routing table. -/
def State.respond (op : Nat) (h : Hdr) (st : Nat) (data : List Byte) (s : State) : State :=
  s.route (s.response op h st data) none

/-- Answer a request with ST_NOT_BOUND or ST_NO_ROUTE (R287, R275): by the ingress port when that is an ACCEL port,
otherwise routed. ST_NOT_BOUND carries EPOCH 0. -/
def State.respondBack (op : Nat) (h : Hdr) (st : Nat) (s : State) : State :=
  let p := s.response op h st []
  let p := if st = St.NOT_BOUND then { p with hdr := ({ p.hdr with epoch := 0 }).sealed p.opcode } else p
  match s.links.look h.lport with
  | some l => if l.role = .accel then s.enqueue h.lport p else s.route p none
  | none => s.route p none

/-- A packet the K9 sends of its own accord to node `dst` of composition `compId`. -/
def State.ownPacket (s : State) (op dst compId tag epoch seq lines addr : Nat) (data : List Byte) : Packet :=
  let h := { Hdr.zero with
    tag := tag
    src := s.topo.node
    dst := dst
    compId := compId
    epoch := epoch
    length := data.length
    lines := lines
    addr := addr
    seq := seq }
  { opcode := op, hdr := h.sealed op, data := data }

/-- Open a request of the K9's own (R188): it takes a free tag and waits for its response. `purpose`: 0 drill fetch,
1 replica fetch, 2 reduce partial, 3 snoop, 4 ledger copy, 5 seal copy. -/
def State.openOwn (purpose object : Nat) (mk : Nat → Packet) (s : State) : State :=
  let from_ := s.tx.nextTag % 65536
  let tag := ((s.tx.own.lowestFree from_ (65536 - from_)).orElse fun _ => s.tx.own.lowestFree 0 from_).getD 0
  let p := mk tag
  let s := s.route p none
  let lp := (s.topo.routes.look p.hdr.dst).map Route.last
  s.modTx fun x => { x with
    own := x.own.put tag { pkt := p, lport := lp.getD 0, tries := 0, purpose := purpose, object := object }
    nextTag := (tag + 1) % 65536 }

/-! ### Reachability (R274) and a port leaving UP (R261) -/

/-- Does an entry have an eligible member, whatever the packet (R272)? -/
def State.reachable (s : State) (r : Route) : Bool :=
  r.valid && r.members.zipIdx.any fun x =>
    !r.withdrawn.getLsbD x.2 && !s.quarantined x.1 && (match s.links.look x.1 with
      | none => false
      | some l => (decide (l.st = .up) || decide (l.st = .fallow)) && (decide (l.role ≠ .peer) || s.nbrLive x.1))

/-- The payload of a ROUTE_UPDATE (Table TP-4). -/
def routeUpdateBytes (epoch action : Nat) (nodes : List Nat) : List Byte :=
  leBytes 4 epoch ++ leBytes 2 nodes.length ++ leBytes 1 action ++ leBytes 1 0 ++ nodes.flatMap (leBytes 2)

/-- The LIVE PEER ports. -/
def State.livePeers (s : State) : List Nat :=
  (s.links.filter fun p => decide (p.2.role = .peer) && s.nbrLive p.1).map Prod.fst

/-- Send a ROUTE_UPDATE on every LIVE PEER port; TP_CNT_WITHDRAW_TX counts the WITHDRAW entries sent (R274). -/
def State.sendRouteUpdate (action : Nat) (nodes : List Nat) (s : State) : State :=
  if nodes.isEmpty then s else
  s.livePeers.foldl (fun s lp =>
    let node := ((s.topo.nbrs.look lp).map Nbr.node).getD 0
    let s := s.enqueue lp (s.ownPacket 0x61 node 0 0 0 0 0 0 (routeUpdateBytes s.topo.epoch action (nodes.take 2044)))
    if action = 0 then s.bumpBy Reg.TP_CNT_WITHDRAW_TX (nodes.take 2044).length else s) s

/-- Announce the entries that have lost their last eligible member, and those that have one again (R274). -/
def State.announceRoutes (s : State) : State :=
  let gone := (s.topo.routes.filter fun p => p.2.valid && !p.2.members.isEmpty && !p.2.announced && !s.reachable p.2).map Prod.fst
  let back := (s.topo.routes.filter fun p => p.2.announced && s.reachable p.2).map Prod.fst
  let mark (k : Nat) (r : Route) : Route :=
    if gone.contains k then { r with announced := true } else if back.contains k then { r with announced := false } else r
  let s := { s with topo := { s.topo with routes := s.topo.routes.each mark } }
  (s.sendRouteUpdate 0 gone).sendRouteUpdate 1 back

/-- Re-send a packet that a port lost before it was acknowledged over another member of its route; where there is none
it is discarded and counted (R202, R261). Link-local packets have no other member. -/
def State.resend (lp : Nat) (p : Packet) (s : State) : State :=
  let again := vcOf p.opcode != 3 && (s.chooseMember p (some lp)).isSome
  if again then
    let s := match s.handleOf p.hdr.compId with
      | some h => s.bumpComp h Reg.TX_CNT_RESENT
      | none => s
    s.route p (some lp)
  else s.bumpPort lp Reg.LK_CNT_LOST_PKTS

/-- A port leaves UP or FALLOW (R261): its sequence state, credits and keys are discarded, its neighbour is NONE, its
unacknowledged packets are re-sent or lost, LINK_DOWN is raised, and routes that lost their last member are announced. -/
def State.leaveUp (lp : Nat) (st : LkState) (s : State) : State :=
  match s.links.look lp with
  | none => s
  | some l =>
    let wasUp := decide (l.st = .up) || decide (l.st = .fallow)
    let lost := l.unacked.map Prod.snd
    let s := s.modPort lp fun l => { l with
      st := st
      txSeq := 0
      txAcked := 0
      rxSeq := 0
      nakSent := false
      replays := 0
      replaying := false
      unacked := []
      credits := []
      lastTotal := []
      owed := []
      retTotal := []
      rekeying := false
      keyGenTx := 0
      keyGenRx := []
      cryptOn := false
      fallowReq := false
      waking := false }
    let s := { s with topo := { s.topo with nbrs := s.topo.nbrs.change lp fun n => { n with state := .none, answered := false } } }
    if wasUp then
      let s := lost.foldl (fun s p => s.resend lp p) s
      (s.occur Ev.LINK_DOWN lp 0).announceRoutes
    else s

end Sys2Proof.Machine
end

