-- ==== Sys2Proof/Machine/Csr.lean ====
section
/-! DEFINITION. Register access (R9, R10, R374, R438): what a read of each register returns and does, and what a write
of each does or why it is refused. -/

namespace Sys2Proof.Machine

/-! ### The selected object (R438) -/

/-- The selector register of the block an address lies in. -/
def selectorOf (a : Nat) : Nat := a / 0x40000 * 0x40000 + 0x20

/-- The composition handle the block of `a` selects. -/
def State.selComp (s : State) (a : Nat) : Nat := s.reg (selectorOf a) % 256

/-- The logical port SW_Q_SEL selects, and its queue. -/
def State.selQueue (s : State) : Nat × Nat := (s.field Reg.SW_Q_SEL 11 4, s.field Reg.SW_Q_SEL 3 0)

/-- Registers that apply to a selected composition, but hold a rule of their own. -/
def perComp (a : Nat) : Bool :=
  a == Reg.POOL_COMP_DEADLINE || a == Reg.POOL_COMP_PIN_QUOTA || a == Reg.VQ_CB_MASK_LO || a == Reg.VQ_CB_MASK_HI
    || a == Reg.SWCNT_OVF_MIB || decide (Reg.COMP_STATE ≤ a ∧ a ≤ Reg.COMP_LEASE_LEFT_MS)

/-- Registers that apply to the queue SW_Q_SEL selects. -/
def perQueue (a : Nat) : Bool :=
  decide (Reg.SW_Q_QUANTUM ≤ a ∧ a ≤ Reg.SW_HIST_CTL) || decide (0x400100 ≤ a ∧ a ≤ 0x40017C)

/-- Registers that apply to the logical port LK_PORT_SEL selects. -/
def perPort (a : Nat) : Bool := decide (0x440024 ≤ a ∧ a ≤ 0x44007C)

/-- Registers that apply to the PEER neighbour TP_NBR_SEL selects. -/
def perNbr (a : Nat) : Bool := decide (0x480024 ≤ a ∧ a ≤ 0x480030)

/-- Registers that apply to the tray FLASH_TRAY_SEL selects. -/
def perTray (a : Nat) : Bool := decide (0x240024 ≤ a ∧ a ≤ 0x240068)

/-- Registers that apply to the domain COH_DOM_SEL selects. -/
def perDom (a : Nat) : Bool := decide (0x2C0024 ≤ a ∧ a ≤ 0x2C005C)

/-- Does the object that the register at `a` applies to exist (R438)? -/
def State.selected (s : State) (a : Nat) : Bool :=
  if perQueue a then s.links.has s.selQueue.1
  else if perPort a then s.links.has (s.reg Reg.LK_PORT_SEL % 256)
  else if perNbr a then ((s.links.look (s.reg Reg.TP_NBR_SEL % 256)).map fun l => decide (l.role = .peer)).getD false
  else if perTray a then decide (s.reg Reg.FLASH_TRAY_SEL % 32 < 24)
  else if perDom a then s.coh.has (s.reg Reg.COH_DOM_SEL % 64)
  else if perComp a || regKind a == some (.ctr .comp) || regKind a == some (.lo .comp) || regKind a == some (.hi .comp)
    then s.comps.has (s.selComp a)
  else true

/-! ### Counters -/

/-- Leaves of a composition that are poisoned now (POOL_CNT_LOST_LEAVES); a VQ extent counts its poisoned slots. -/
def State.lostLeaves (s : State) (h : Nat) : Nat := sumOf (s.extentsOf h).vals fun x => x.poison.length

/-- The counter map a counter register shows, and the key in it. -/
def State.ctrValue (s : State) (sc : CtrScope) (a : Nat) : Nat :=
  match sc with
  | .dev => s.cnt.num a
  | .comp =>
    if a = Reg.POOL_CNT_LOST_LEAVES then s.lostLeaves (s.selComp a)
    else ((s.comp (s.selComp a)).map fun c => c.cnt.num a).getD 0
  | .tray => (s.tray (s.reg Reg.FLASH_TRAY_SEL % 32)).cnt.num a
  | .lport => ((s.links.look (s.reg Reg.LK_PORT_SEL % 256)).map fun l => l.cnt.num a).getD 0
  | .dom => ((s.coh.look (s.reg Reg.COH_DOM_SEL % 64)).map fun d => d.cnt.num a).getD 0
  | .press =>
    let v := ((s.presses.look ((a - 0x310000) / 0x1000)).map fun p => p.cnt.num (0x310000 + a % 0x1000)).getD 0
    if a % 0x1000 = 0x10 then v / 16 else v

/-! ### Field encodings of read-only registers -/

/-- PRESS_STATE.STATE (Table PS-12). -/
def PressState.code : PressState → Nat
  | .fallow => 0
  | .waking => 1
  | .lit => 2
  | .switching => 3
  | .scrubbing => 4
  | .resetting => 5
  | .offline => 6

/-- FLASH_TRAY_STATE.STATE. -/
def TrayState.code : TrayState → Nat
  | .absent => 0
  | .normal => 1
  | .spareLow => 2
  | .worn => 3
  | .rejected => 4

/-- LK_PORT_STATE.STATE (Table LK-7). -/
def LkState.code : LkState → Nat
  | .disabled => 0
  | .detect => 1
  | .laneLock => 2
  | .align => 3
  | .equalize => 4
  | .linkInit => 5
  | .up => 6
  | .fallow => 7
  | .failed => 8

/-- ROLE of Table LK-2. -/
def Role.code : Role → Nat
  | .accel => 0
  | .peer => 1
  | .tray => 2
  | .analysis => 3

/-- The role a code names. -/
def Role.ofCode (n : Nat) : Role :=
  if n = 0 then .accel else if n = 1 then .peer else if n = 2 then .tray else .analysis

/-- SPLIT of a width (Table LK-1). -/
def splitOfWidth (w : Nat) : Nat := if w = 8 then 0 else if w = 4 then 1 else if w = 2 then 2 else 3

/-- The width of a SPLIT value. -/
def widthOfSplit (n : Nat) : Nat := if n = 0 then 8 else if n = 1 then 4 else if n = 2 then 2 else 1

/-- TP_NBR_STATE.STATE. -/
def NbrState.code : NbrState → Nat
  | .none => 0
  | .live => 1
  | .lost => 2
  | .new => 3
  | .conflict => 4

/-- FW_UPDATE_STATE.STATE (Table FW-5 order). -/
def UpdState.code : UpdState → Nat
  | .idle => 0
  | .receiving => 1
  | .verified => 2
  | .activating => 3
  | .pendingConfirm => 4
  | .reverting => 5

/-- SE_DEBUG_STATE.STATE (Table SE-7). -/
def DebugState.code : DebugState → Nat
  | .sealed => 0
  | .diag => 1
  | .opened => 2
  | .returning => 3

/-- LK_PORT_CFG of a port; SPLIT shows on sub-port 0 only. -/
def LPort.cfgWord (p : Nat) (l : LPort) : Nat :=
  b2n l.enable * 2 ^ 31 + l.role.code * 2 ^ 29 + (if p % 8 = 0 then splitOfWidth l.width else 0) * 2 ^ 27
    + b2n l.fecLow * 2 ^ 26 + b2n l.crypt * 2 ^ 25 + b2n l.fallowEn * 2 ^ 24 + b2n l.reduced * 2 ^ 23
    + l.trayIndex % 32 * 2 ^ 18

/-- LK_PORT_STATE of a port. -/
def LPort.stateWord (l : LPort) : Nat :=
  l.st.code * 2 ^ 28 + b2n l.reversed * 2 ^ 27 + b2n l.fecOn * 2 ^ 26 + b2n l.cryptOn * 2 ^ 25 + b2n l.fast * 2 ^ 24
    + l.polInv.toNat * 2 ^ 16 + l.preset % 16 * 2 ^ 12

/-- PRESS_STATE of a press. -/
def Press.stateWord (p : Press) : Nat :=
  b2n p.ctx.isSome * 2 ^ 31 + p.ctx.getD 0 % 256 * 2 ^ 16 + p.fenced.toNat * 2 ^ 8 + p.state.code

/-- COMP_STATE of a composition (Table CP-6). -/
def Comp.stateWord (c : Comp) : Nat :=
  2 ^ 31 + c.state.code * 2 ^ 28 + b2n c.slice * 2 ^ 27 + b2n c.releaseFlag * 2 ^ 26 + b2n c.furrow * 2 ^ 25
    + b2n c.confidential * 2 ^ 24 + c.compId % 65536

/-- COMP_RESOURCES of a composition. -/
def Comp.resourceWord (c : Comp) : Nat := c.pressMask.toNat * 2 ^ 24 + c.stackMask.toNat * 2 ^ 16 + c.members.length % 65536

/-- COMP_LEASE_LEFT_MS. -/
def State.leaseLeftMs (s : State) (c : Comp) : Nat :=
  if c.state = .active then min ((c.leaseEnd - s.dev.pausedAt.getD s.clk.timeNs) / 1000000) 0xFFFFFFFF else 0

/-- EVC_SRC_CFG of a source. -/
def Source.cfgWord (x : Source) : Nat :=
  b2n x.enable * 2 ^ 31 + b2n x.wake * 2 ^ 30 + b2n x.fallback * 2 ^ 29 + x.sense % 8 * 2 ^ 26 + x.priority % 256

/-- EVC_SRC_STATUS of a source. -/
def Source.statusWord (x : Source) : Nat :=
  b2n x.pending * 2 ^ 31 + b2n x.holder.isSome * 2 ^ 30 + b2n x.input * 2 ^ 29 + b2n x.holder.isSome * 2 ^ 4
    + (x.holder.map Prod.fst).getD 0 % 16

/-- The 16 bytes of a journal entry (Table FW-4). -/
def JEntry.bytes (j : JEntry) : List Byte :=
  leBytes 4 j.bootCount ++ leBytes 1 j.step ++ leBytes 1 (j.path % 16 * 16 + j.outcome % 16) ++ leBytes 1 (j.bank % 2)
    ++ leBytes 1 j.unit ++ leBytes 4 j.elapsedUs ++ leBytes 4 j.detail

/-- The 88 bytes of a clear-log entry (Table ER-3). -/
def ClearEntry.bytes (e : ClearEntry) : List Byte :=
  leBytes 4 e.opSeconds ++ leBytes 4 e.cycles ++ leBytes 8 e.timeNs ++ leBytes 2 e.count ++ leBytes 6 0
    ++ digestBytes e.signer ++ digestBytes e.prior

/-- Frames of the tree nodes above `n` nodes or counter blocks (R318): 128-byte nodes of sixteen counters, each level in
whole 32 KiB frames, up to the one node whose counter the root store keeps. `fuel` bounds the levels. -/
def treeFrames : Nat → Nat → Nat
  | 0, _ => 0
  | fuel + 1, n => if n ≤ 1 then 0 else ceilDiv (ceilDiv n 16) 256 + treeFrames fuel (ceilDiv n 16)

/-- Tree-node frames of an extent of a size: its counter blocks cover 16 KiB each. -/
def Extent.tree (x : Extent) : Nat := if x.isProtected then treeFrames 16 (x.size / 16384) else 0

/-- Integrity roots in use: one for each PROTECTED extent (R316). -/
def State.rootsUsed (s : State) : Nat := countIf s.pool.extents.vals Extent.isProtected

/-- Every T0 leaf frame (POOL_T0_FRAMES). -/
def State.t0Frames (s : State) : Nat := if s.dev.singleDie then 5165056 else 10330112

/-- Frames that hold no leaf (POOL_T0_FREE): neither a leaf nor a codebook or tree node. -/
def State.t0Free (s : State) : Nat :=
  s.t0Frames - sumOf s.pool.extents.vals (fun x => x.t0Frames + x.tree)
    - 2 * sumOf s.comps.vals fun c => countIf c.codebooks.vals Codebook.registered

/-- Frames an extent's PIN_HOT chunks count for, whole ranges (R44): 64 leaves a chunk. -/
def Extent.pinned (x : Extent) : Nat := 64 * countIf x.chunks.vals fun c => decide (c.hint = .pinHot)

/-- Pinned frames of a composition (R44), those of its codebooks among them (R165). -/
def State.pinnedOf (s : State) (h : Nat) : Nat :=
  sumOf (s.extentsOf h).vals Extent.pinned
    + 2 * ((s.comp h).map fun c => countIf c.codebooks.vals Codebook.registered).getD 0

/-- Requests in flight at this destination (TX_MEM_INFLIGHT, R188): those that wait at a tier, for order or for a
snoop, and the coherence requests that wait. -/
def State.memInflight (s : State) : Nat :=
  s.tx.steps.length + sumOf s.coh.vals fun d => countIf d.grants fun g => g.pkt.isSome

/-- Handles' worth of queue spill, MiB. -/
def mibUp (n : Nat) : Nat := ceilDiv n 1048576

/-- Distinct peers expelled in the last 3,600 s (FT_EXPEL_USED, R355). -/
def State.expelUsed (s : State) : Nat :=
  ((s.ft.recent.filter fun r => decide (s.clk.timeNs < r.2.2 + 3600000000000)).map fun r => (r.1, r.2.1)).eraseDups.length

/-- The event target registers (R395). -/
def State.targetReg (s : State) (k o : Nat) : Nat :=
  if o = 0 then
    if s.targetPresent k then
      2 ^ 31 + (((s.mostUrgent ((s.heldBy k).map Prod.fst)).getD 1023) % 1024) * 2 ^ 16 + s.currentOf k % 512
    else 1023 * 2 ^ 16 + 256
  else if o = 4 then if s.targetPresent k then s.threshold k else 256
  else if o = 8 then 1023
  else 0

/-- The active bank (R397): the one the pointer record names, or in this boot the other (R405). -/
def State.activeBank (s : State) : Nat := if s.fw.other then 1 - s.fw.bank else s.fw.bank

/-- An image bank. -/
def State.bankOf (s : State) (n : Nat) : Bank := if n = 0 then s.fw.bank0 else s.fw.bank1

/-- What a register with a rule of its own reads as, while the object it applies to exists. -/
def State.readOwn (s : State) (a : Nat) : Nat :=
  let blk := a / 0x40000
  if blk = 0x8 then -- pool
    let c := s.comp (s.selComp a)
    if a = Reg.POOL_T0_FRAMES then s.t0Frames
    else if a = Reg.POOL_T0_FREE then s.t0Free
    else if a = Reg.POOL_T0_PINNED then
      sumOf s.pool.extents.vals (fun x => (if x.state = .held then 0 else x.pinned) + x.tree) + 2 * sumOf s.comps.vals fun c => countIf c.codebooks.vals Codebook.registered
    else if a = Reg.POOL_COMP_DEADLINE then (c.map Comp.deadlineUs).getD 0
    else if a = Reg.POOL_COMP_PIN_QUOTA then (c.map Comp.pinQuota).getD 0
    else 0
  else if blk = 0x9 then -- flash
    let t := s.tray (s.reg Reg.FLASH_TRAY_SEL % 32)
    let es := t.sbs.vals.map Superblock.erases
    if a = Reg.FLASH_TRAY_STATE then t.state.code
    else if a = Reg.FLASH_TRAY_GOOD_SB then t.goodSb
    else if a = Reg.FLASH_TRAY_RESERVE_SB then t.reserve
    else if a = Reg.FLASH_TRAY_FREE_SB then t.freeSb
    else if a = Reg.FLASH_TRAY_ERASE then
      (es.foldl max 0 % 65536) * 65536 + (match es with | [] => 0 | e :: r => r.foldl min e) % 65536
    else 0
  else if blk = 0xA then -- transactions
    if a = Reg.TX_MEM_INFLIGHT then min s.memInflight 65536
    else if a = Reg.TX_REQ_OPEN then s.tx.own.length
    else if a = Reg.TX_PAIRS_USED then s.tx.pairs.length
    else 0
  else if blk = 0xB then -- coherence
    let d := s.coh.look (s.reg Reg.COH_DOM_SEL % 64)
    if a = Reg.COH_ONCHIP_FREE then 2097152 - sumOf s.coh.vals Domain.onchip
    else if a = Reg.COH_OVERFLOW_FREE then 134217728 - sumOf s.coh.vals Domain.overflow
    else if a = Reg.COH_DOMAINS then s.coh.length
    else match d with
      | none => 0
      | some d =>
        if a = Reg.COH_DOM_STATE then
          2 ^ 31 + d.comp % 256 * 2 ^ 16 + sumOf d.agents.keys fun k => 2 ^ k
        else if a = Reg.COH_DOM_UNRESPONSIVE then sumOf d.agents fun p => if p.2.unresponsive then 2 ^ p.1 else 0
        else if a = Reg.COH_DOM_ENTRIES then d.dir.length
        else if a = Reg.COH_DOM_RECLAIMED then countIf d.dir.vals fun e => decide (e.state = .reclaimed)
        else 0
  else if blk = 0xC then -- presses
    if a = Reg.SEED_RESIDENT then s.work.seeds.length
    else match s.presses.look ((a - 0x310000) / 0x1000) with
      | none => 0
      | some p =>
        let mine := s.work.seeds.vals.filter fun x => x.press == (a - 0x310000) / 0x1000
        if a % 0x1000 = 0 then p.stateWord
        else if a % 0x1000 = 4 then countIf mine fun x => decide (x.state = .active)
        else if a % 0x1000 = 8 then countIf mine fun x => decide (x.state = .waiting) || decide (x.state = .parked)
        else 0
  else if blk = 0xD then -- collectives
    if a = Reg.COLL_GROUPS then s.work.groups.length
    else if a = Reg.COLL_SPILL_USED then mibUp (sumOf s.work.ops.vals Op.spilled)
    else 0
  else if blk = 0xE then -- attention
    if a = Reg.ATTN_OPS_OPEN then countIf s.work.ops.vals fun o => decide (o.kind = .attend) else 0
  else if blk = 0xF then -- codebooks
    let all := sumOf s.comps.vals fun c => countIf c.codebooks.vals Codebook.registered
    let mask := ((s.comp (s.selComp a)).map fun c =>
      sumOf c.codebooks fun p => if p.2.registered then 2 ^ p.1 else 0).getD 0
    if a = Reg.VQ_CB_REGISTERED then all
    else if a = Reg.VQ_CB_FRAMES then 2 * all
    else if a = Reg.VQ_CB_MASK_LO then mask % 2 ^ 32
    else if a = Reg.VQ_CB_MASK_HI then mask / 2 ^ 32
    else 0
  else if blk = 0x10 then -- switch
    if a = Reg.SW_BUF_USED_D0 then min (s.bufUsed 0) 0x7FFFF
    else if a = Reg.SW_BUF_USED_D1 then min (s.bufUsed 1) 0x7FFFF
    else if a = Reg.SW_OVF_USED then mibUp (s.spillOn 0 + s.spillOn 1)
    else if a = Reg.SWCNT_OVF_MIB then mibUp (((s.comp (s.selComp a)).map fun c => s.spillOfComp c.compId).getD 0)
    else match s.links.look s.selQueue.1 with
      | none => 0
      | some l =>
        let q := l.queue s.selQueue.2
        if a = Reg.SW_Q_QUANTUM then q.quantum
        else if a = Reg.SW_Q_SHAPER then b2n q.shapeOn * 2 ^ 31 + q.rate
        else if a = Reg.SW_Q_BURST then q.burst
        else if a = Reg.SW_Q_TOKENS then q.tokens
        else if a = Reg.SW_Q_DEPTH then min q.depth 0xFFFFFFF
        else if a = Reg.SW_Q_DEPTH_MAX then min q.depthMax 0xFFFFFFF
        else if 0x400100 ≤ a ∧ a < 0x400140 then q.depthHist.num ((a - 0x400100) / 4)
        else if 0x400140 ≤ a ∧ a < 0x400180 then q.delayHist.num ((a - 0x400140) / 4)
        else 0
  else if blk = 0x11 then -- links
    if a = Reg.LK_PRESETS_STORED then s.sw.presets.length
    else
      let p := s.reg Reg.LK_PORT_SEL % 256
      match s.links.look p with
      | none => 0
      | some l =>
        if a = Reg.LK_PORT_CFG then l.cfgWord p
        else if a = Reg.LK_PORT_STATE then l.stateWord
        else if a = Reg.LK_FAR_ID_LO then l.farId.toNat % 2 ^ 32
        else if a = Reg.LK_FAR_ID_HI then l.farId.toNat / 2 ^ 32
        else if a = Reg.LK_FAR_PORT then l.farRole % 4 * 256 + l.farPort % 256
        else 0
  else if blk = 0x12 then -- topology
    if a = Reg.TP_NODE then b2n s.topo.assigned * 2 ^ 31 + s.topo.node % 4096
    else if a = Reg.TP_ROUTE_EPOCH then s.topo.epoch
    else if a = Reg.TP_ROUTES_VALID then countIf s.topo.routes.vals Route.valid
    else match s.topo.nbrs.look (s.reg Reg.TP_NBR_SEL % 256) with
      | none => 0
      | some n =>
        if a = Reg.TP_NBR_STATE then n.state.code * 2 ^ 29 + n.member % 256 * 2 ^ 16 + n.node % 4096
        else if a = Reg.TP_NBR_LINK_ID_LO then n.linkId.toNat % 2 ^ 32
        else if a = Reg.TP_NBR_LINK_ID_HI then n.linkId.toNat / 2 ^ 32
        else if a = Reg.TP_NBR_RTT_NS then min n.rtt 0xFFFFFFFF
        else 0
  else if blk = 0x13 then -- compositions
    if a = Reg.COMP_ACTIVE then s.comps.length
    else match s.comp (s.selComp a) with
      | none => 0
      | some c =>
        if a = Reg.COMP_STATE then c.stateWord
        else if a = Reg.COMP_EPOCH then c.epoch % 2 ^ 32
        else if a = Reg.COMP_RESOURCES then c.resourceWord
        else if a = Reg.COMP_FP_MASK then c.fpMask.toNat
        else if a = Reg.COMP_DRAIN then c.drainUs
        else if a = Reg.COMP_MEMBER_LEASE then c.memberLeaseMs
        else if a = Reg.COMP_LEASE_LEFT_MS then s.leaseLeftMs c
        else 0
  else if blk = 0x14 then -- security
    if a = Reg.SE_DEBUG_STATE then
      b2n s.sec.identityValid * 16 + b2n s.sec.debugSincePower * 8 + s.sec.debugSt.code
    else if a = Reg.SE_SVN then s.sec.identityGen % 256 * 256 + s.sec.svn % 256
    else if a = Reg.SE_ROOTS then s.rootsUsed
    else if a = Reg.SE_SESSIONS then s.nirod.sessions.length
    else 0
  else if blk = 0x15 then -- reliability
    if a = Reg.FT_QUORUM then s.ft.managers.length % 16 * 16 + s.ft.quorum % 16
    else if a = Reg.FT_EXPEL_USED then min s.expelUsed 255
    else if a = Reg.FT_EXPEL_ENTRIES then s.ft.expelled.length
    else 0
  else if blk = 0x16 then -- commands
    if a = Reg.CM_STATE then s.dev.prior.code * 256 + s.dev.state.code
    else if a = Reg.CM_SESSIONS then countIf s.nirod.sessions.vals fun x => x.cls.isSome
    else if Reg.CM_FM_KEY ≤ a ∧ a < Reg.CM_FM_KEY + 0x80 then
      let o := a - Reg.CM_FM_KEY
      (((s.nirod.fmKeys.look (o / 0x20)).getD 0).toNat / 2 ^ (32 * (o % 0x20 / 4))) % 2 ^ 32
    else 0
  else if blk = 0x17 then -- events
    let ev := s.reg Reg.EVC_SRC_SEL % 1024
    if a = Reg.EVC_SRC_CFG then (s.source ev).cfgWord
    else if a = Reg.EVC_SRC_TARGETS then (s.source ev).targets.toNat
    else if a = Reg.EVC_SRC_STATUS then (s.source ev).statusWord
    else if Reg.EVC_TGT_STATE ≤ a then s.targetReg ((a - Reg.EVC_TGT_STATE) / 16) ((a - Reg.EVC_TGT_STATE) % 16)
    else 0
  else if blk = 0x18 then -- power
    if a = Reg.PWR_STATE then
      s.dev.hbmSr.toNat * 2 ^ 24
        + sumOf s.presses (fun p => if p.2.state = .fallow then 2 ^ p.1 else 0) * 2 ^ 16
        + s.dev.coresOn.toNat * 2 ^ 8 + (if s.dev.state = .standby then 1 else 0)
    else if a = Reg.PWR_WAKE_CAUSE then
      let w := s.dev.wakeCause
      b2n w.1 * 2 ^ 15 + b2n w.2.1 * 2 ^ 14 + b2n w.2.2.1 * 2 ^ 13 + w.2.2.2 % 1024
    else 0
  else if blk = 0x19 then -- firmware
    if a = Reg.FW_UPDATE_STATE then s.activeBank % 2 * 256 + s.fw.upd.code
    else if a = Reg.FW_CONFIRM_LEFT_S then min (((s.fw.confirmBy.map (· - s.clk.timeNs)).getD 0) / 1000000000) 65535
    else if a = Reg.FW_ROLLBACK then
      ((s.bankOf s.activeBank).manifest.map Manifest.svn).getD 0 % 256 * 256 + s.fw.rollback % 256
    else if a = Reg.FW_BOOT_COUNT then s.fw.bootCount % 2 ^ 32
    else if a = Reg.FW_BOOT_PATH then s.fw.skipped.toNat * 65536 + s.fw.alternate.toNat
    else if Reg.JRN_ENTRY ≤ a ∧ a < Reg.JRN_ENTRY + 16 then
      leAt ((s.fw.jrnLatch.map JEntry.bytes).getD []) (a - Reg.JRN_ENTRY) 4
    else 0
  else if blk = 0x1A then -- recorder
    if a = Reg.REC_OP_SECONDS then s.rcd.opSeconds
    else if a = Reg.REC_POWER_CYCLES then s.rcd.cycles
    else if a = Reg.REC_RECORDS then 137
    else if a = Reg.REC_CLEAR_USED then s.rcd.clearLog.length
    else if Reg.REC_CLOG_ENTRY ≤ a ∧ a < Reg.REC_CLOG_ENTRY + 88 then
      leAt ((s.rcd.latch.map ClearEntry.bytes).getD []) (a - Reg.REC_CLOG_ENTRY) 4
    else 0
  else if blk = 0x1B then -- electrical
    if a = Reg.EL_THROTTLE then s.pins.throttle
    else if a = Reg.EL_TJ_D0 then s.pins.tjD0 % 65536
    else if a = Reg.EL_TJ_D1 then s.pins.tjD1 % 65536
    else if a = Reg.EL_RAIL_MV then s.pins.railMv.num (s.reg Reg.EL_RAIL_SEL % 16) % 65536
    else if a = Reg.EL_PPS_STATUS then b2n s.clk.ppsLocked
    else if a = Reg.EL_PPS_ERROR_NS then (s.clk.ppsError % 2 ^ 32).toNat
    else 0
  else 0

/-- What a register reads as, before the effects of the read. -/
def State.readValue (s : State) (a : Nat) : Nat :=
  if !s.selected a then 0 else
  match regKind a with
  | none => 0
  | some (.cfg _ _ _) => s.reg a
  | some .lock => b2n (s.locked a)
  | some (.ctr sc) => s.ctrValue sc a
  | some (.lo sc) => s.ctrValue sc a % 2 ^ 32
  | some (.hi sc) => match s.latch.look a with
    | some w => w.toNat
    | none => s.ctrValue sc (a - 4) / 2 ^ 32
  | some .own => s.readOwn a

/-- A CSR_READ of one register (R374): a _LO read latches its _HI register, which a read of it releases. -/
def State.csrRead (a : Nat) (s : State) : Nat × State :=
  let v := s.readValue a
  match regKind a with
  | some (.lo sc) =>
    if s.selected a then (v, { s with latch := s.latch.put (a + 4) (BitVec.ofNat 32 (s.ctrValue sc a / 2 ^ 32)) }) else (v, s)
  | some (.hi _) => (v, { s with latch := s.latch.del a })
  | _ => (v, s)

/-- Read a list of registers in order (R374). -/
def State.csrReads : List Nat → State → List Item × State
  | [], s => ([], s)
  | a :: t, s =>
    let r := s.csrRead a
    let q := State.csrReads t r.2
    (.num r.1 :: q.1, q.2)

/-! ### Writes -/

/-- The result codes of R374. -/
abbrev Wr.WRITTEN : Nat := 0
abbrev Wr.RANGE : Nat := 1
abbrev Wr.LOCKED : Nat := 2
abbrev Wr.CONFLICT : Nat := 3
abbrev Wr.NO_REGISTER : Nat := 4
abbrev Wr.IGNORED : Nat := 5
abbrev Wr.REFUSED : Nat := 6

/-- Are the fields of a value within their stated ranges? -/
def cfgInRange (a v : Nat) : Bool :=
  let within (hi lo mn mx : Nat) := decide (mn ≤ bits v hi lo ∧ bits v hi lo ≤ mx)
  if a = Reg.POOL_CFG then within 7 0 0 100
  else if a = Reg.POOL_T1_LATE_US then within 15 0 1 65535
  else if a = Reg.POOL_T2_LATE_US then within 23 0 100 16777215
  else if a = Reg.POOL_PIN_LIMIT then within 7 0 0 100
  else if a = Reg.FLASH_GC_CFG then within 31 16 16 65535 && within 15 0 8 65534
  else if a = Reg.FLASH_WEAR_CFG then within 15 0 50 10000
  else if a = Reg.FLASH_REFRESH_CFG then within 19 16 1 9 && within 15 0 1 3650
  else if a = Reg.FLASH_PATROL_CFG then within 15 0 1 8760
  else if a = Reg.FLASH_DISTURB_CFG then within 31 0 1000 0xFFFFFFFF
  else if a = Reg.PRESS_CTX_CFG then within 15 0 10 65535
  else if a = Reg.SP_POOL_CFG then within 26 16 256 1280 && within 10 0 0 512
  else if a = Reg.DRILL_CFG then within 13 8 1 32 && within 6 0 1 64
  else if a = Reg.SEED_COMP_QUOTA then within 21 0 1024 2097152
  else if a = Reg.COLL_TIMEOUT_US then within 23 0 1000 16777215
  else if a = Reg.COLL_SPILL_LIMIT then within 15 0 0 32768
  else if a = Reg.TX_RESP_TIMEOUT_US then within 23 0 10 16777215
  else if a = Reg.TX_ATOMIC_HOLD_US then within 23 0 100 16777215
  else if a = Reg.TX_FENCE_DEADLINE_US then within 23 0 10 16777215
  else if a = Reg.COH_SNOOP_TIMEOUT_US then within 23 0 10 16777215
  else if a = Reg.SW_ESCAPE_CFG then within 15 0 256 65535
  else if a = Reg.SW_OVF_CFG then within 6 0 50 95
  else if a = Reg.SW_OVF_COMP_LIMIT then within 15 0 0 32768
  else if 0x400200 ≤ a ∧ a < 0x400280 ∧ a % 0x20 = 0 then within 30 29 0 2
  else if 0x400200 ≤ a ∧ a < 0x400280 ∧ a % 0x20 = 0x10 then
    (bits v 31 16 == 0 || (within 31 16 32 4128 && bits v 31 16 % 32 == 0)) && within 15 0 64 65535
  else if a = Reg.LK_FALLOW_CFG then within 15 0 200 65535
  else if a = Reg.LK_REPLAY_CFG then within 15 8 1 255 && within 7 0 1 255
  else if a = Reg.LK_REKEY_CFG then within 15 0 1 8760
  else if a = Reg.TP_CFG then within 15 8 1 255
  else if a = Reg.TP_PROBE_CFG then within 15 0 1 10000
  else if a = Reg.FT_SAMPLE_CFG then within 12 0 1 4096
  else if a = Reg.FT_SWEEP_CFG then within 15 0 60 65535
  else if a = Reg.FT_HEALTH_CFG then within 25 16 0 1000 && within 7 0 1 255
  else if a = Reg.CM_NET_CFG then within 15 0 1024 65535
  else if a = Reg.CM_IPV4_PREFIX then bits v 5 0 == 0 || within 5 0 8 30
  else if a = Reg.CM_SESSION_CFG then within 15 0 10 65535
  else if a = Reg.EVC_TIMING then within 31 16 10 65535 && within 15 0 1 65535
  else if a = Reg.EVC_SRC_SEL then within 9 0 0 1022
  else if a = Reg.PWR_PRESS_IDLE then within 15 0 2 65535
  else if a = Reg.PWR_HBM_IDLE then within 15 0 100 65535
  else if a = Reg.PWR_QUIESCE then within 15 0 1 60000
  else if a = Reg.FW_CONFIRM_CFG then within 15 0 60 65535
  else if a = Reg.REC_CFG then within 15 0 60 3600
  else true

/-- The refusals of a configuration register's own rule: R81, R109, R239, R242, R269, R332. -/
def State.cfgRefused (s : State) (a v : Nat) : Bool :=
  if a = Reg.FLASH_GC_CFG then decide (bits v 31 16 ≤ bits v 15 0)
  else if a = Reg.SP_POOL_CFG then decide (1536 < bits v 26 16 + bits v 10 0 + 256)
  else if 0x400200 ≤ a ∧ a < 0x400280 ∧ a % 0x20 = 0 then
    let src := s.links.look (bits v 23 16)
    let dst := s.links.look (bits v 15 8)
    bit v 31 && (!(dst.any fun l => decide (l.role = .analysis))
      || (decide (bits v 30 29 ≤ 1) && src.any fun l => decide (l.role = .tray)))
  else if Reg.FURROW_SLOT ≤ a ∧ a < Reg.FURROW_SLOT + 0x100 then
    bit v 31 && !((s.comp (v % 256)).any Comp.furrow)
  else if a = Reg.TP_CFG then !s.comps.isEmpty && bit v 16 != bit (s.reg a) 16
  else if Reg.SE_DEBUG_AUTH ≤ a ∧ a < Reg.SE_DEBUG_AUTH + 0x80 then
    decide (s.sec.debugSt = .opened) || decide (s.sec.debugSt = .returning)
  else false

/-- What a write to a configuration register does beside changing it: JRN_SEL and REC_CLOG_SEL latch (R416, R423). -/
def State.cfgEffect (a v : Nat) (s : State) : State :=
  if a = Reg.JRN_SEL then s.modFw fun f => { f with jrnLatch := f.journal[v % 4096]? }
  else if a = Reg.REC_CLOG_SEL then { s with rcd := { s.rcd with latch := s.rcd.clearLog[v % 1024]? } }
  else s

/-- The logical ports an FP has under a SPLIT value. -/
def splitPorts (fp n : Nat) : List Nat :=
  let w := widthOfSplit n
  (List.range (8 / w)).map fun i => 8 * fp + i * w

/-- Start or stop a port on a change of ENABLE (R250): 1 trains it from DETECT, 0 takes it to DISABLED from any
state, FAILED included. -/
def State.setEnable (p : Nat) (e : Bool) (s : State) : State :=
  match s.links.look p with
  | none => s
  | some l =>
    if e == l.enable then s
    else if e then s.modPort p fun l => { l with enable := true, st := .detect }
    else (s.leaveUp p .disabled).modPort p fun l => { l with enable := false, st := .disabled }

/-- Replace the logical ports of an FP (R247): the old ones cease to exist, and the new ones are at reset. -/
def State.setSplit (fp n : Nat) (s : State) : State :=
  let kept := s.links.keep fun p _ => p / 8 != fp
  { s with
    links := (splitPorts fp n).foldl (fun m p => NMap.put m p (LPort.reset (widthOfSplit n))) kept
    topo := { s.topo with nbrs := s.topo.nbrs.keep fun p _ => p / 8 != fp } }

/-- Does the current split define logical port `p`? -/
def State.portDefined (s : State) (p : Nat) : Bool := s.links.has p

/-- The package flash takes the LK_PORT_CFG value of every logical port (R401). -/
def State.storePorts (s : State) : State :=
  s.modFw fun f => { f with storedPorts := s.links.each fun p l => BitVec.ofNat 32 (l.cfgWord p) }

/-- Write LK_PORT_CFG of the selected port (R247). A SPLIT that differs acts on the whole FP, before the other fields. -/
def State.writePortCfg (v : Nat) (s : State) : State × Nat :=
  let p := s.reg Reg.LK_PORT_SEL % 256
  match s.links.look p with
  | none => (s, if bit v 31 then Wr.REFUSED else Wr.IGNORED)
  | some l =>
    let fp := p / 8
    let split := bits v 28 27
    let oldSplit := splitOfWidth l.width
    let changesSplit := if p % 8 = 0 then split != oldSplit else split != 0
    let allOff := (s.links.filter fun q => q.1 / 8 == fp).all fun q => decide (q.2.st = .disabled)
    let w := if p % 8 = 0 then widthOfSplit split else l.width
    let role := Role.ofCode (bits v 30 29)
    let tray := bits v 22 18
    let changes := (role != l.role) || (tray != l.trayIndex) || (bit v 26 != l.fecLow) || (bit v 25 != l.crypt)
      || (bit v 23 != l.reduced)
    let trayTaken := s.links.any fun q => q.1 != p && decide (q.2.role = .tray) && q.2.trayIndex == tray
    if 24 ≤ tray then (s, Wr.RANGE)
    else if changesSplit && (p % 8 != 0 || !allOff) then (s, Wr.REFUSED)
    else if changes && decide (l.st ≠ .disabled) then (s, Wr.REFUSED)
    else if decide (role = .tray) && (w != 4 || trayTaken) then (s, Wr.REFUSED)
    else
      let s := if changesSplit then s.setSplit fp split else s
      ((s.modPort p fun l => { l with
        role := role
        trayIndex := tray
        fecLow := bit v 26
        crypt := bit v 25
        fallowEn := bit v 24
        reduced := bit v 23 }).setEnable p (bit v 31) |>.storePorts, Wr.WRITTEN)

/-- Clear the histograms of the selected queue (R238). -/
def Queue.clearHist (q : Queue) : Queue := { q with depthHist := [], delayHist := [], depthMax := 0 }

/-- Change the queue SW_Q_SEL selects. -/
def State.modSelQueue (f : Queue → Queue) (s : State) : State := s.modPort s.selQueue.1 fun l => l.modQueue s.selQueue.2 f

/-- Write a per-queue register. -/
def State.writeQueueReg (a v : Nat) (s : State) : State × Nat :=
  if a = Reg.SW_Q_QUANTUM then
    let n := bits v 19 0
    if n < 256 then (s, Wr.RANGE) else (s.modSelQueue fun q => { q with quantum := n }, Wr.WRITTEN)
  else if a = Reg.SW_Q_SHAPER then
    let r := bits v 18 0
    if 262144 < r then (s, Wr.RANGE)
    else
      let b : Nat := ((s.links.look s.selQueue.1).map fun l => (l.queue s.selQueue.2).burst).getD 0
      if bit v 31 && decide (b < 4128) then (s, Wr.REFUSED)
      else (s.modSelQueue fun q => { q with shapeOn := bit v 31, rate := r }, Wr.WRITTEN)
  else if a = Reg.SW_Q_BURST then
    let b := bits v 23 0
    if b < 4128 then (s, Wr.RANGE) else (s.modSelQueue fun q => { q with burst := b }, Wr.WRITTEN)
  else if a = Reg.SW_HIST_CTL then
    (if bit v 0 then s.modSelQueue Queue.clearHist else s, Wr.WRITTEN)
  else (s, Wr.IGNORED)

/-- Write EVC_SRC_CFG (R379, R380, R395): a level that the new SENSE finds holding raises the event. -/
def State.writeSrcCfg (v : Nat) (s : State) : State × Nat :=
  let ev := s.reg Reg.EVC_SRC_SEL % 1024
  if 4 < bits v 28 26 then (s, Wr.RANGE)
  else if bit v 31 && !eventDefined ev then (s, Wr.REFUSED)
  else
    let old := s.source ev
    let s := s.modSource ev fun x => { x with
      enable := bit v 31
      wake := bit v 30
      fallback := bit v 29
      sense := bits v 28 26
      priority := bits v 7 0 }
    let new := s.source ev
    (if decide (16 ≤ ev) && new.holds && !old.holds then s.raise ev 0 0 else s, Wr.WRITTEN)

/-- Write 1 to PENDING (R382, R383): set-dominant against a level that holds or a set in the same cycle. -/
def State.clearPending (v : Nat) (sameCycle : Bool) (s : State) : State × Nat :=
  let ev := s.reg Reg.EVC_SRC_SEL % 1024
  if bit v 31 then
    let x := s.source ev
    if x.pending then
      if sameCycle || (decide (16 ≤ ev) && x.holds) then (s.bump Reg.EVC_CNT_RESET_SEEN, Wr.WRITTEN)
      else (s.modSource ev fun x => { x with pending := false }, Wr.WRITTEN)
    else (s, Wr.WRITTEN)
  else (s, Wr.WRITTEN)

/-- The sum of every composition's pin quota, leaving out `h`. -/
def State.otherQuotas (s : State) (h : Nat) : Nat := sumOf s.comps fun p => if p.1 = h then 0 else p.2.pinQuota

/-- Write a register with a rule of its own. -/
def State.writeOwn (a v : Nat) (s : State) : State × Nat :=
  let h := s.selComp a
  if a = Reg.LK_PORT_CFG then s.writePortCfg v
  else if !s.selected a then (s, Wr.IGNORED)
  else if a = Reg.POOL_COMP_DEADLINE then
    let n := bits v 23 0
    if n < 100 ∨ 10000000 < n then (s, Wr.RANGE) else (s.modComp h fun c => { c with deadlineUs := n }, Wr.WRITTEN)
  else if a = Reg.POOL_COMP_PIN_QUOTA then
    let n := bits v 23 0
    let nstacks := ((s.comp h).map fun c => if c.slice then countIf (List.range 8) (fun i => c.stackMask.getLsbD i) else 8).getD 8
    let isSlice := ((s.comp h).map Comp.slice).getD false
    if s.field Reg.POOL_PIN_LIMIT 7 0 * s.t0Frames < 100 * (n + s.otherQuotas h) then (s, Wr.REFUSED)
    else if isSlice && decide (1291264 * nstacks < n) then (s, Wr.REFUSED)
    else (s.modComp h fun c => { c with pinQuota := n }, Wr.WRITTEN)
  else if a = Reg.COMP_DRAIN then
    let n := bits v 15 0
    if n < 10 ∨ 10000 < n then (s, Wr.RANGE) else (s.modComp h fun c => { c with drainUs := n }, Wr.WRITTEN)
  else if a = Reg.COMP_MEMBER_LEASE then
    let n := bits v 15 0
    if n < 10 ∨ 60000 < n then (s, Wr.RANGE) else (s.modComp h fun c => { c with memberLeaseMs := n }, Wr.WRITTEN)
  else if perQueue a then s.writeQueueReg a v
  else if a = Reg.EVC_SRC_CFG then s.writeSrcCfg v
  else if a = Reg.EVC_SRC_TARGETS then
    (s.modSource (s.reg Reg.EVC_SRC_SEL % 1024) fun x => { x with targets := BitVec.ofNat 16 v }, Wr.WRITTEN)
  else if a = Reg.EVC_SRC_STATUS then s.clearPending v false
  else if a = Reg.EVC_SOFT_SET then
    let ev := bits v 9 0
    if 15 < ev then (s, Wr.RANGE) else (s.raise ev 0 0, Wr.WRITTEN)
  else if Reg.EVC_TGT_STATE ≤ a ∧ a < Reg.EVC_TGT_STATE + 0x100 then
    let k := (a - Reg.EVC_TGT_STATE) / 16
    let o := (a - Reg.EVC_TGT_STATE) % 16
    if o = 4 then
      if 256 < bits v 8 0 then (s, Wr.RANGE)
      else if !s.targetPresent k then (s, Wr.IGNORED)
      else (s.modEv fun e => { e with thresholds := e.thresholds.put k (bits v 8 0) }, Wr.WRITTEN)
    else if o = 12 then (s.complete k (bits v 9 0), Wr.WRITTEN)
    else (s, Wr.IGNORED)
  else if a = Reg.JRN_CTL then
    (if bit v 0 then s.modFw fun f => { f with clearPaths := true } else s, Wr.WRITTEN)
  else (s, Wr.IGNORED)

/-- One entry of a CSR_WRITE (R9, R10, R374): the new state and the result code. -/
def State.csrWrite (a v : Nat) (s : State) : State × Nat :=
  match regKind a with
  | none => (s, Wr.NO_REGISTER)
  | some .lock => (if bit v 0 then s.setReg a 1 else s, Wr.WRITTEN)
  | some (.cfg mask rwl _) =>
    let v := v &&& mask
    if rwl && s.locked a then (s, Wr.LOCKED)
    else if !cfgInRange a v then (s, Wr.RANGE)
    else if s.cfgRefused a v then (s, Wr.REFUSED)
    else ((s.setReg a v).cfgEffect a v, Wr.WRITTEN)
  | some (.ctr _) | some (.lo _) | some (.hi _) => (s, Wr.IGNORED)
  | some .own => s.writeOwn a v

/-- Write a list of registers in order (R374). -/
def State.csrWrites : List (Nat × Word) → State → List Nat × State
  | [], s => ([], s)
  | (a, v) :: t, s =>
    let r := s.csrWrite a v.toNat
    let q := State.csrWrites t r.1
    (r.2 :: q.1, q.2)

end Sys2Proof.Machine
end

