-- ==== Sys2Proof/Machine/PoolOps.lean ====
section
/-! DEFINITION. The pool's shared operations: where a leaf is (R28, R35), frames and their eviction (R38, R43), tray
capacity and placement (R39, R64), accesses to the tiers, leaf moves (R26), poison and lost quires (R57, R174), and the
writing of bytes. -/

namespace Sys2Proof.Machine

/-! ### Where a leaf is -/

/-- The chunk record of chunk `c`. -/
def Extent.chunk (x : Extent) (c : Nat) : Option Chunk := x.chunks.look c

/-- The chunk record of leaf `l`. -/
def Extent.chunkOf (x : Extent) (l : Nat) : Option Chunk := x.chunks.look (l / 64)

/-- Change the chunk record of chunk `c` of extent `e`. -/
def State.modChunk (e c : Nat) (f : Chunk → Chunk) (s : State) : State :=
  s.modExtent e fun x => { x with chunks := x.chunks.change c f }

/-- Is leaf `l` held in T0? -/
def Extent.inT0 (x : Extent) (l : Nat) : Bool := (x.chunkOf l).any fun c => c.t0.has (l % 64)

/-- Is leaf `l` held dirty in T0? -/
def Extent.dirtyT0 (x : Extent) (l : Nat) : Bool := (x.chunkOf l).any fun c => (c.t0.look (l % 64)).any T0Leaf.dirty

/-- Can leaf `l` be read from T1: its home is there, or its chunk has landed there (R23)? -/
def Extent.inT1 (x : Extent) (l : Nat) : Bool :=
  !x.tier.isT2 || (x.chunkOf l).any fun c => c.inT1 && !c.arriving.contains (l % 64)

/-- Does the tier policy cache leaves in T0 (Table MT-2)? -/
def TierPolicy.caches : TierPolicy → Bool
  | .t1Home | .t2Home => true
  | .t1NoCache | .t2T1Only => false

/-- Leaves of an extent. -/
def Extent.leaves (x : Extent) : Nat := x.size / 32768

/-- Chunks of an extent. -/
def Extent.chunkCount (x : Extent) : Nat := x.size / 2097152

/-- The leaves that `n` bytes from offset `off` touch. -/
def leavesOf (off n : Nat) : List Nat :=
  if n = 0 then [] else List.range' (off / 32768) ((off + n - 1) / 32768 + 1 - off / 32768)

/-- Is a copy of the extent's leaves kept elsewhere: a mirror, or a sealed replica (R47)? -/
def Extent.hasCopy (x : Extent) : Bool :=
  decide (x.durability = .mirrored) || (decide (x.durability = .replicated) && decide (x.state = .sealed))

/-- Is a tray attached with its port up (R58: link-up)? -/
def State.trayUp (s : State) (t : Nat) : Bool :=
  decide ((s.tray t).state ≠ .absent) && ((s.tray t).lport.bind s.links.look).any fun l =>
    decide (l.st = .up) || decide (l.st = .fallow)

/-! ### Capacity (R29, R39, R64, R68) -/

/-- The weight of one chunk of an extent in 1/128 chunk: a PROTECTED one takes 9/128 more (R64). -/
def weightOf (isProtected : Bool) : Nat := if isProtected then 137 else 128

/-- Home chunks of an extent on tray `t`, mirrors included. -/
def Extent.homesOn (x : Extent) (t : Nat) : Nat :=
  sumOf x.chunks.vals fun c => b2n (c.tray == t) + b2n (c.mirror == some t)

/-- T2 chunks of an extent cached in the T1 of tray `t`. -/
def Extent.cachedOn (x : Extent) (t : Nat) : Nat := countIf x.chunks.vals fun c => c.inT1 && c.tray == t

/-- Does a slice other than composition `h` hold tray `t` (R284)? -/
def State.trayTaken (s : State) (h t : Nat) : Bool :=
  match (s.tray t).lport with
  | none => false
  | some p => s.comps.any fun q => q.1 != h && q.2.slice && q.2.fpMask.getLsbD (p / 8)

/-- Free T1 home capacity of tray `t` for composition `h`, in 1/128 chunk: 3 TiB a tray. -/
def State.t1Free (s : State) (h t : Nat) : Nat :=
  if (s.tray t).state = .absent ∨ s.trayTaken h t then 0
  else 1572864 * 128 - sumOf s.pool.extents.vals fun x =>
    if x.tier.isT2 then 0 else weightOf x.isProtected * x.homesOn t

/-- Free T2 capacity of tray `t` for composition `h`, in 1/128 chunk: 122,070,312 sheaves a tray, two to a chunk; none
on a tray that is REJECTED, SPARE_LOW or WORN (R65, Table FM-5). -/
def State.t2Free (s : State) (h t : Nat) : Nat :=
  if (s.tray t).state ≠ .normal ∨ s.trayTaken h t then 0
  else 61035156 * 128 - sumOf s.pool.extents.vals fun x =>
    if x.tier.isT2 then weightOf x.isProtected * x.homesOn t else 0

/-- The first tray of a rotation that has room for one chunk. -/
def firstWithRoom (free : NMap Nat) (w : Nat) (l : List Nat) : Option Nat := l.find? fun t => decide (w ≤ free.num t)

/-- Place `n` chunks from chunk `c` on (R39): the (c mod k)-th tray of `trays`, or the next with room; and the mirror on
the next after the primary, never on its tray. -/
def placeChunks (trays : List Nat) (w : Nat) (mirrored : Bool) : Nat → Nat → NMap Nat → Option (List (Nat × Option Nat))
  | 0, _, _ => some []
  | n + 1, c, free =>
    let i := c % trays.length
    match firstWithRoom free w (trays.drop i ++ trays.take i) with
    | none => none
    | some t =>
      let free := free.put t (free.num t - w)
      if mirrored then
        let after := (trays.dropWhile (· != t)).drop 1 ++ trays.takeWhile (· != t)
        match firstWithRoom free w after with
        | none => none
        | some m =>
          (placeChunks trays w mirrored n (c + 1) (free.put m (free.num m - w))).map fun r => (t, some m) :: r
      else (placeChunks trays w mirrored n (c + 1) free).map fun r => (t, none) :: r

/-- The lowest range of `n` logical sheaf numbers that is free in the map's 3,221,225,472 (R68). -/
def State.sheafRange (s : State) (n : Nat) : Option Nat :=
  let used := s.pool.extents.vals.filterMap fun x => x.sheafBase.map fun b =>
    (b, b + x.chunkCount * (if x.durability = .mirrored then 4 else 2))
  let starts := 0 :: used.map Prod.snd
  let fits (b : Nat) : Bool := decide (b + n ≤ 3221225472) && used.all fun u => decide (b + n ≤ u.1 ∨ u.2 ≤ b)
  (starts.filter fits).foldl (fun best b => match best with
    | none => some b
    | some a => some (min a b)) none

/-! ### T0 frames (R37, R38, R43) -/

/-- Is a stack held by a slice other than composition `h` (R284)? -/
def State.stackTaken (s : State) (h k : Nat) : Bool :=
  s.comps.any fun q => q.1 != h && q.2.slice && q.2.stackMask.getLsbD k

/-- Frames in use on a stack: leaves and the copies on their way there. -/
def State.stackUsed (s : State) (k : Nat) : Nat :=
  sumOf s.pool.extents.vals (fun x => sumOf x.chunks.vals fun c => countIf c.t0.vals fun f => f.stack == k)
    + countIf s.pool.moves fun m => decide (m.kind = .promote) && m.stack == k

/-- Stacks a leaf may go to, first choice first (R38, R284). -/
def State.stackOrder (s : State) (x : Extent) (l : Nat) : List Nat :=
  let c := s.comp x.comp
  let base :=
    if c.any Comp.slice then setBits ((c.map Comp.stackMask).getD 0).toNat 8
    else if x.affinity = 1 then [0, 1, 2, 3]
    else if x.affinity = 2 then [4, 5, 6, 7]
    else [0, 1, 2, 3, 4, 5, 6, 7]
  let i := l % base.length
  (base.drop i ++ base.take i).filter fun k => !s.stackTaken x.comp k && (!s.dev.singleDie || decide (k < 4))

/-- A stack with a free frame: 1,291,264 leaf frames each (R284). -/
def State.pickStack (s : State) (x : Extent) (l : Nat) : Option Nat :=
  if s.t0Free ≤ countIf s.pool.moves (fun m => decide (m.kind = .promote)) then none
  else (s.stackOrder x l).find? fun k => decide (s.stackUsed k < 1291264)

/-- The age of a stamp (the text before R42): the tick minus the stamp, modulo 65,536, at most 32,768. -/
def State.age (s : State) (stamp : BitVec 16) : Nat := min (s.clk.tick - stamp).toNat 32768

/-- The eviction rank of a hint class (Table MT-5); PIN_HOT is never evicted. -/
def Hint.rank : Hint → Nat
  | .cold => 1
  | .warm => 2
  | .pinHot => 3

/-- The chunk to evict among those that satisfy `f`: lowest rank, then greatest age, then the lower chunk-record
address, taken as the order of EXTENT_ID and chunk index (R43). -/
def State.victim (s : State) (f : Nat → Extent → Chunk → Bool) : Option (Nat × Nat) :=
  let all := s.pool.extents.flatMap fun p => (p.2.chunks.filter fun q => decide (q.2.hint ≠ .pinHot) && f p.1 p.2 q.2).map
    fun q => ((p.1, q.1), (q.2.hint.rank, s.age q.2.stamp))
  (all.foldl (fun (best : Option ((Nat × Nat) × (Nat × Nat))) v => match best with
    | none => some v
    | some b => if v.2.1 < b.2.1 ∨ (v.2.1 = b.2.1 ∧ b.2.2 < v.2.2) then some v else some b) none).map Prod.fst

/-- Is a leaf on the move? -/
def State.moving (s : State) (e l : Nat) : Bool := s.pool.moves.any fun m => m.extent == e && m.leaf == l

/-- Queue a background move (R46). -/
def State.queueMove (e l : Nat) (k : MoveKind) (tray : Nat) (s : State) : State :=
  s.modPool fun p => { p with background := p.background ++ [{ extent := e, leaf := l, kind := k, tray := tray }] }

/-- Take a chunk out of T0 (R43, R45): its clean leaves are dropped in one step, its dirty leaves queued for write-back. -/
def State.evictChunk (e c : Nat) (s : State) : State :=
  match (s.extent e).bind fun x => x.chunk c with
  | none => s
  | some k =>
    let dirty := (k.t0.filter fun q => q.2.dirty).map Prod.fst
    let s := s.modChunk e c fun k => { k with t0 := k.t0.keep fun _ f => f.dirty }
    dirty.foldl (fun s i => if s.moving e (64 * c + i) then s else s.queueMove e (64 * c + i) .evict k.tray) s

/-- Free frames for a leaf by one eviction pass; a dirty leaf of a tray that is down cannot be evicted (R59). -/
def State.makeRoom (x : Extent) (l : Nat) (s : State) : State :=
  let ks := s.stackOrder x l
  match s.victim fun _ _ c => c.t0.vals.any fun f => ks.contains f.stack && (!f.dirty || s.trayUp c.tray) with
  | none => s
  | some v => s.evictChunk v.1 v.2

/-- Start the promotion of a leaf into T0 (R42, R26); without a frame it does not happen and T0_FULL counts (R43). -/
def State.promote (e l : Nat) (s : State) : State :=
  match s.extent e with
  | none => s
  | some x =>
    if !x.tier.caches || x.inT0 l || s.moving e l then s
    else
      let s := if (s.pickStack x l).isSome then s else s.makeRoom x l
      match s.pickStack x l with
      | none => s.bumpComp x.comp Reg.POOL_CNT_T0_FULL
      | some k => s.modPool fun p => { p with moves := p.moves ++
          [{ extent := e, leaf := l, kind := .promote, stack := k, marked := [], recopies := 0 }] }

/-- Does an access to a leaf promote it (Table MT-5)? -/
def Extent.promotes (x : Extent) (l : Nat) : Bool := x.tier.caches && (x.chunkOf l).any fun c => decide (c.hint ≠ .cold)

/-- Every access sets the chunk's recency stamp to the tick. -/
def State.touch (e l : Nat) (s : State) : State := s.modChunk e (l / 64) fun c => { c with stamp := s.clk.tick }

/-! ### Accesses to T1 and T2 -/

/-- Logical sheaf `i` (0 or 1) of chunk `c`; mirrors follow the primaries in the extent's range. -/
def Extent.sheaf (x : Extent) (c i : Nat) (mirror : Bool) : Nat :=
  x.sheafBase.getD 0 + 2 * c + i + (if mirror then 2 * x.chunkCount else 0)

/-- The extent, chunk, half and copy a logical sheaf belongs to. -/
def State.ofSheaf (s : State) (n : Nat) : Option (Nat × Nat × Nat × Bool) :=
  s.pool.extents.findSome? fun p =>
    match p.2.sheafBase with
    | none => none
    | some b =>
      let k := p.2.chunkCount
      if b ≤ n ∧ n < b + 2 * k then some (p.1, (n - b) / 2, (n - b) % 2, false)
      else if p.2.durability = .mirrored ∧ b + 2 * k ≤ n ∧ n < b + 4 * k then
        some (p.1, (n - b - 2 * k) / 2, (n - b) % 2, true)
      else none

/-- The flash-map entry of a sheaf that was never written (Table FM-2). -/
def MapEntry.blank : MapEntry where
  valid := false
  cached := false
  poison := false
  tray := 0
  frame := 0
  sb := 0
  slot := 0

/-- The flash-map entry of a logical sheaf. -/
def State.mapEntry (s : State) (n : Nat) : MapEntry := (s.fmap.look n).getD MapEntry.blank

/-- Change a flash-map entry; an entry that says nothing is not listed. -/
def State.modMap (n : Nat) (f : MapEntry → MapEntry) (s : State) : State :=
  let m := f (s.mapEntry n)
  { s with fmap := if m = MapEntry.blank then s.fmap.del n else s.fmap.put n m }

/-- Write the dirty T1 copy of a T2 chunk back: both its sheaves, and its mirror's, are programmed (R66, R70). The slots
are chosen when the program result arrives. -/
def State.programChunk (e c : Nat) (s : State) : State :=
  match s.extent e, (s.extent e).bind fun x => x.chunk c with
  | some x, some k =>
    let one (t : Nat) (m : Bool) (s : State) : State :=
      [0, 1].foldl (fun s i =>
        let n := x.sheaf c i m
        if (s.tray t).programming.any fun q => q.1 == n then s
        else (s.modTray t fun r => { r with programming := r.programming ++ [(n, 0, 0)] }).emit (.bridge t 3 [n])) s
    let s := one k.tray false s
    match k.mirror with
    | some t => one t true s
    | none => s
  | _, _ => s

/-- Drop a clean T1 copy of a T2 chunk by clearing CACHED (the text under Table FM-2). -/
def State.dropT1 (e c : Nat) (s : State) : State :=
  match s.extent e with
  | none => s
  | some x =>
    let s := s.modChunk e c fun k => { k with inT1 := false, t1Dirty := false, arriving := [], dropT1 := false }
    [0, 1].foldl (fun s i => s.modMap (x.sheaf c i false) fun m => { m with cached := false }) s

/-- Make room in the T1 of tray `t`: a full tray evicts a cached chunk by the rule of R43. -/
def State.makeT1Room (t : Nat) (s : State) : State :=
  let used := sumOf s.pool.extents.vals fun x => (if x.tier.isT2 then x.cachedOn t else x.homesOn t) * weightOf x.isProtected
  if used + 137 ≤ 1572864 * 128 then s
  else match s.victim fun _ x c => x.tier.isT2 && c.inT1 && c.tray == t && c.t0.isEmpty with
    | none => s
    | some v =>
      let k := (s.extent v.1).bind fun x => x.chunk v.2
      if k.any Chunk.t1Dirty then (s.modChunk v.1 v.2 fun k => { k with dropT1 := true }).programChunk v.1 v.2
      else s.dropT1 v.1 v.2

/-- Bring a T2 chunk into T1 (R23, R42): both sheaves are read when they have ever been programmed; a sheaf with no
flash copy lands at once, as zeros. -/
def State.fetchChunk (e c : Nat) (s : State) : State :=
  match s.extent e, (s.extent e).bind fun x => x.chunk c with
  | some x, some k =>
    if !x.tier.isT2 || k.inT1 then s
    else
      let s := s.makeT1Room k.tray
      let valid (i : Nat) : Bool := (s.mapEntry (x.sheaf c i false)).valid
      let arriving := (List.range 64).filter fun i => valid (i / 32)
      let frame := s.free % 2 ^ 21
      let s := (s.modChunk e c fun k => { k with inT1 := true, arriving := arriving }).drawn
      let s := [0, 1].foldl (fun s i => s.modMap (x.sheaf c i false) fun m =>
        { m with cached := true, frame := frame, tray := k.tray }) s
      [0, 1].foldl (fun s i => if valid i then s.emit (.bridge k.tray 0 [x.sheaf c i false]) else s) s
  | _, _ => s

/-- Is the copy that tier access `i` names (home copy even, mirror odd) absent or stale (R47)? -/
def Extent.lacksCopy (x : Extent) (i : Nat) : Bool :=
  match x.chunkOf (i / 2) with
  | none => true
  | some c => if i % 2 = 1 then c.mirror.isNone || (c.stale.isSome && c.stale == c.mirror) else c.stale == some c.tray

/-- The tier accesses that a request needs for leaf `l` (R32, R47): none for a read of a never-written leaf, a poisoned
one or one in T0; a write to a MIRRORED leaf goes to both copies in T1. A stale copy is never used: the other one serves at once when the
stale copy's tray is up again, and after the late threshold while it is down (Table MT-6). -/
def State.itemsFor (s : State) (x : Extent) (l : Nat) (write : Bool) : List Nat :=
  match x.chunkOf l with
  | none => []
  | some c =>
    let skip (i t : Nat) : Bool := x.lacksCopy i && s.trayUp t
    let home := if skip (2 * l) c.tray then [] else [2 * l]
    let mir := match c.mirror with
      | none => []
      | some t => if skip (2 * l + 1) t then [] else [2 * l + 1]
    if !write && (!x.written.contains l || (!x.vq && x.poison.has l)) then []
    else if write && decide (x.durability = .mirrored) then home ++ mir
    else if x.inT0 l then []
    else if home.isEmpty then mir
    else home

/-- The tray a tier access goes to. -/
def Extent.itemTray (x : Extent) (i : Nat) : Option Nat :=
  (x.chunkOf (i / 2)).bind fun c => if i % 2 = 1 then c.mirror else some c.tray

/-- Issue a tier access (Table FM-1's neighbours: 7 DRAM read, 8 DRAM write); a leaf only in T2 is fetched
first, and its landing serves what waits for it; one that lands at once is accessed at once. -/
def State.issue (e i : Nat) (write : Bool) (s : State) : State :=
  match s.extent e with
  | none => s
  | some x =>
    match x.itemTray i with
    | none => s
    | some t =>
      if i % 2 = 1 ∧ x.tier.isT2 ∧ !write then s.emit (.bridge t 0 [x.sheaf (i / 128) (i / 64 % 2) true])
      else
        let s := if x.tier.isT2 ∧ !x.inT1 (i / 2) then s.fetchChunk e (i / 128) else s
        if x.tier.isT2 ∧ !((s.extent e).any fun y => y.inT1 (i / 2)) then s
        else s.emit (.bridge t (if write then 8 else 7) [e, i / 2])

/-- Does a tier access wait for a tray that is down (R58)? -/
def State.itemDown (s : State) (e i : Nat) : Bool :=
  ((s.extent e).bind fun x => x.itemTray i).any fun t => !s.trayUp t

/-! ### Poison (R57, R174) -/

/-- The poison units that leaf `l` overlaps: the leaf in a PLAIN extent, slots in a VQ extent. -/
def Extent.unitsOf (x : Extent) (l : Nat) : List Nat :=
  if x.vq then
    let w := x.slotLines * 128
    if w = 0 then []
    else (List.range' (l * 32768 / w) ((l * 32768 + 32767) / w + 1 - l * 32768 / w)).filter fun k => decide ((k + 1) * w ≤ x.size)
  else [l]

/-- The poison unit of byte offset `off`. -/
def Extent.unitAt (x : Extent) (off : Nat) : Nat := if x.vq ∧ x.slotLines ≠ 0 then off / (x.slotLines * 128) else off / 32768

/-- Lines of a poison unit. -/
def Extent.unitLines (x : Extent) : Nat := if x.vq then x.slotLines else 256

/-- Leaves of a quire (R54). -/
def Kv.perQuire (k : Kv) : Nat := if k.bf16 then k.dim / 32 else k.dim / 64

/-- Quires of an object. -/
def Kv.quires (k : Kv) : Nat := k.layers * k.heads * k.pages

/-- The first poison unit of an object (R54). -/
def Kv.firstUnit (k : Kv) (x : Extent) : Nat := x.unitAt k.objOffset

/-- The quire of an object that a poison unit belongs to. -/
def Kv.quireOf (k : Kv) (x : Extent) (u : Nat) : Option Nat :=
  let f := k.firstUnit x
  if f ≤ u ∧ u < f + k.quires * k.perQuire then some ((u - f) / k.perQuire) else none

/-- Insert into an ascending list without repeats. -/
def insertAsc (n : Nat) : List Nat → List Nat
  | [] => [n]
  | m :: t => if n < m then n :: m :: t else if n = m then m :: t else m :: insertAsc n t

/-- Every KV object that covers unit `u` of extent `e` lists its quire as lost (R57). -/
def State.loseQuire (e u : Nat) (x : Extent) (s : State) : State :=
  let f (_ : Nat) (k : Kv) : Kv :=
    if k.extent = e then
      match k.quireOf x u with
      | some q => { k with lost := insertAsc q k.lost }
      | none => k
    else k
  s.modPool fun p => { p with kv := p.kv.each f }

/-- Poison a unit with a mark; nothing changes when it is poisoned already. -/
def State.poisonUnit (e u : Nat) (mk : Mark) (s : State) : State :=
  match s.extent e with
  | none => s
  | some x =>
    if x.poison.has u then s
    else
      let s := s.modExtent e fun x => { x with
        poison := x.poison.put u []
        marks := if x.vq then x.marks.put u mk else x.marks }
      let s := if x.vq then s.bumpComp x.comp Reg.VCNT_SLOTS_POISONED else s
      s.loseQuire e u x

/-- Poison the units of leaf `l`; its sheaf's flash-map entry shows POISON (Table FM-2). -/
def State.poisonLeaf (e l : Nat) (s : State) : State :=
  match s.extent e with
  | none => s
  | some x =>
    let s := (x.unitsOf l).foldl (fun s u => s.poisonUnit e u .tierLost) s
    if x.tier.isT2 then s.modMap (x.sheaf (l / 64) (l % 64 / 32) false) fun m => { m with poison := true } else s

/-- Is any byte of a range poisoned? -/
def Extent.poisoned (x : Extent) (off n : Nat) : Bool :=
  n != 0 && (List.range' (x.unitAt off) (x.unitAt (off + n - 1) + 1 - x.unitAt off)).any fun u => x.poison.has u

/-- Is leaf `l` poisoned? -/
def Extent.leafPoisoned (x : Extent) (l : Nat) : Bool := (x.unitsOf l).any fun u => x.poison.has u

/-- Line `n` of the extent has been written: a poisoned unit whose lines have all been written again is whole, and a
quire whose units are all whole is lost no longer (R57, R174). -/
def State.lineWritten (e n : Nat) (s : State) : State :=
  match s.extent e with
  | none => s
  | some x =>
    let u := x.unitAt (n * 128)
    match x.poison.look u with
    | none => s
    | some got =>
      let got := insertAsc n got
      if got.length < x.unitLines then s.modExtent e fun x => { x with poison := x.poison.put u got }
      else
        let x' := { x with poison := x.poison.del u, marks := x.marks.del u }
        let s := s.modExtent e fun _ => x'
        let found (_ : Nat) (k : Kv) : Kv :=
          if k.extent = e then
            match k.quireOf x u with
            | none => k
            | some q =>
              let f := k.firstUnit x + q * k.perQuire
              if (List.range' f k.perQuire).any fun v => x'.poison.has v then k
              else { k with lost := k.lost.filter (· != q) }
          else k
        let s := s.modPool fun p => { p with kv := p.kv.each found }
        -- a sheaf none of whose leaves is poisoned loses POISON
        if x.tier.isT2 then
          let sh := n / 8192
          if (List.range' (sh * 32) 32).any fun l => x'.leafPoisoned l then s
          else s.modMap (x.sheaf (sh / 2) (sh % 2) false) fun m => { m with poison := false }
        else s

/-! ### Bytes -/

/-- A write of line `n` moves its version counter on (R317): past 127 its group of 128 lines is re-encrypted with a new
MAJOR (R319), and past 2^45 - 1 the extent's MAC is re-keyed. -/
def State.versionLine (e n : Nat) (s : State) : State :=
  match s.extent e with
  | none => s
  | some x =>
    if !x.isProtected then s
    else
      let g := (x.counters.look (n / 128)).getD { major := 0, minors := [] }
      let m := g.minors.num (n % 128) + 1
      let put (g : CtrGroup) (s : State) : State := s.modExtent e fun x => { x with counters := x.counters.put (n / 128) g }
      if m ≤ 127 then put { g with minors := g.minors.put (n % 128) m } s
      else
        let s := s.bumpComp x.comp Reg.SECNT_REENCRYPT
        if g.major + 1 < 2 ^ 45 then put { major := g.major + 1, minors := [] } s
        else s.modExtent e fun x => { x with rekeying := true }

/-- Write bytes at offset `off` of extent `e`: leaves come into being as zeros (R32), the tier copy that takes the bytes
becomes dirty (R28, R47), a leaf on the move marks the lines (R26), and poison clears line by line. -/
def State.writeBytes (e off : Nat) (b : List Byte) (s : State) : State :=
  match s.extent e with
  | none => s
  | some x =>
    let ls := leavesOf off b.length
    let lines := if b.length = 0 then [] else List.range' (off / 128) ((off + b.length - 1) / 128 + 1 - off / 128)
    let s := s.writePool e off b
    let s := s.modExtent e fun x => { x with written := ls.foldl (fun w l => insertAsc l w) x.written }
    let s := ls.foldl (fun s l =>
      let hot := x.inT0 l
      let s := s.modChunk e (l / 64) fun c =>
        let through := decide (x.durability = .mirrored)
        { c with
          t0 := if hot && !through then c.t0.change (l % 64) fun f => { f with dirty := true } else c.t0
          t1Dirty := c.t1Dirty || (x.tier.isT2 && (!hot || through))
          inT1 := c.inT1 || (x.tier.isT2 && !hot) }
      let s := s.modPool fun p => { p with moves := p.moves.map fun m =>
        if m.extent = e ∧ m.leaf = l then
          { m with marked := (lines.filter fun n => n / 256 == l).foldl (fun a n => insertAsc n a) m.marked }
        else m }
      s.touch e l) s
    lines.foldl (fun s n => (s.versionLine e n).lineWritten e n) s

/-- Read bytes at offset `off` of extent `e`, as an access: every leaf it touches is stamped. -/
def State.readBytes (e off n : Nat) (s : State) : List Byte × State :=
  (s.readPool e off n, (leavesOf off n).foldl (fun s l => s.touch e l) s)

/-! ### Stopping an extent's work -/

/-- Drop the T0 copies and moves of an extent, its dirty leaves first taken as written back. -/
def State.clearT0 (e : Nat) (s : State) : State :=
  let s := s.modExtent e fun x => { x with chunks := x.chunks.each fun _ c => { c with t0 := [] } }
  s.modPool fun p => { p with
    moves := p.moves.filter fun m => m.extent != e
    background := p.background.filter fun m => m.extent != e }

/-- Queue write-backs for an extent's dirty T0 leaves (R62, R297). -/
def State.writeBackExtent (e : Nat) (k : MoveKind) (s : State) : State :=
  match s.extent e with
  | none => s
  | some x => x.chunks.foldl (fun s q =>
      q.2.t0.foldl (fun s f =>
        if f.2.dirty && !s.moving e (64 * q.1 + f.1) then s.queueMove e (64 * q.1 + f.1) k q.2.tray else s) s) s

/-- Free everything an extent holds (R34): its frames, chunk records, logical sheaves, KV object records and bytes. -/
def State.freeExtent (e : Nat) (s : State) : State :=
  match s.extent e with
  | none => s
  | some x =>
    let n := x.chunkCount * (if x.durability = .mirrored then 4 else 2)
    let s := s.clearT0 e
    let s := s.wipeStore x.store
    let drop (k : Nat) : Bool := x.sheafBase.any fun b => decide (b ≤ k ∧ k < b + n)
    { s with
      fmap := s.fmap.keep fun k _ => !drop k
      trays := s.trays.each fun _ t => { t with
        sbs := t.sbs.each fun _ b => { b with valid := b.valid.filter fun k => !drop k }
        programming := t.programming.filter fun q => !drop q.1
        ladder := t.ladder.filter fun q => !drop q.sheaf }
      coh := s.coh.each fun _ d => { d with extents := d.extents.filter (· != e) }
      pool := { s.pool with
        extents := s.pool.extents.del e
        kv := s.pool.kv.keep fun _ k => k.extent != e } }

end Sys2Proof.Machine
end

