-- ==== Sys2Proof/Machine/Switching.lean ====
section
/-! DEFINITION. Switching, buffering and traffic scheduling (R224 to R242): the egress of a logical port, escape
channels, spill, shapers, queue samples, mirror copies and furrow slots. The crossbar's match and its latencies are
timing (log entry 6). -/

namespace Sys2Proof.Machine

/-! ### Mirroring (R239 to R241) -/

/-- The class bit of CLASS_MASK an opcode belongs to; a response belongs to the class of its request. -/
def mirrorClass (op : Nat) : Nat :=
  let q := if 0x80 ≤ op then op - 0x80 else op
  if op = 0xB0 then 5
  else if q = 0x01 then 0 else if q = 0x02 then 1 else if 0x10 ≤ q ∧ q ≤ 0x19 then 2 else if q = 0x20 then 3
  else if q = 0x30 then 4 else if 0x40 ≤ q ∧ q ≤ 0x52 then 6 else 7

/-- Does mirror session `i` take a packet seen at port `lp`, at egress or ingress (R239)? -/
def State.mirrorTakes (s : State) (i lp : Nat) (egress : Bool) (p : Packet) : Bool :=
  let cfg := s.reg (Reg.MIR_CFG + 0x20 * i)
  let mt := s.reg (Reg.MIR_MATCH + 0x20 * i)
  let mk := s.reg (Reg.MIR_MASK + 0x20 * i)
  bit cfg 31 && (match bits cfg 30 29 with
    | 0 => !egress && bits cfg 23 16 == lp
    | 1 => egress && bits cfg 23 16 == lp
    | 2 => !egress && bit (bits cfg 7 0) (mirrorClass p.opcode)
        && ((s.links.look lp).map fun l => decide (l.role = .accel) || decide (l.role = .peer)).getD false
        && (p.hdr.compId ^^^ bits mt 31 16) &&& bits mk 31 16 == 0
        && (p.hdr.src ^^^ bits mt 11 0) &&& bits mk 11 0 == 0
    | _ => false)

/-- One mirror session sees a matching packet: every Nth is copied, beginning with the first; a copy that does not fit
in QUEUE_KIB is dropped. Copies wait while the ANALYSIS port is not UP. -/
def State.mirrorCopy (i lp : Nat) (egress : Bool) (p : Packet) (s : State) : State :=
  if !s.mirrorTakes i lp egress p then s else
  let m := (s.sw.mirrors.look i).getD { seq := 0, skip := 0, queued := 0 }
  let put (m : Mirror) (s : State) := s.modSw fun w => { w with mirrors := w.mirrors.put i m }
  if 0 < m.skip then put { m with skip := m.skip - 1 } s
  else
    let cfg := s.reg (Reg.MIR_CFG + 0x20 * i)
    let lim := s.reg (Reg.MIR_LIMIT + 0x20 * i)
    let conf := s.confidentialPacket p
    let trunc := if bits lim 31 16 = 0 then p.size else min p.size (bits lim 31 16)
    let copied := if conf then 32 else trunc
    let n := bits (s.reg (Reg.MIR_SAMPLE + 0x20 * i)) 15 0
    let dest := bits cfg 15 8
    let up := ((s.links.look dest).map fun l => decide (l.st = .up)).getD false
    let held := if up then 0 else m.queued
    let m := { m with skip := n, seq := (m.seq + 1) % 2 ^ 32 }
    if bits lim 15 0 * 1024 < held + 32 + copied then
      (put { m with queued := held } s).bump (Reg.MIR_CNT_DROPS + 0x20 * i)
    else
      let flags := b2n egress * 8 + (if bits cfg 30 29 = 2 then 4 else 0) + b2n (decide (copied < p.size)) * 2 + b2n conf
      ((put { m with queued := if up then 0 else held + 32 + copied } s).bump (Reg.MIR_CNT_COPIED + 0x20 * i)).emit
        (.mirror i dest flags (m.seq - 1) p.size copied)

/-- The four mirror sessions see a packet. -/
def State.mirror (lp : Nat) (egress : Bool) (p : Packet) (s : State) : State :=
  (List.range 4).foldl (fun s i => s.mirrorCopy i lp egress p) s

/-! ### Egress (R228, R234, R235, R236, R242, R258) -/

/-- May a packet cross in the present furrow slot (R242)? Only PEER and TRAY egress is a shared resource. -/
def State.slotAllows (s : State) (l : LPort) (p : Packet) : Bool :=
  if l.role = .accel ∨ l.role = .analysis then true
  else match s.sw.furrow.look s.sw.slot with
    | some h => s.handleOf p.hdr.compId == some h
    | none => !(((s.handleOf p.hdr.compId).bind s.comp).any Comp.furrow)

/-- Credits held for a VC. -/
def LPort.credit (l : LPort) (vc : Nat) : Int := (l.credits.look vc).getD 0

/-- May a packet start on VC `vc`: a credit, its furrow slot, and link keys where the port is encrypted (R263)? -/
def State.maySend (s : State) (l : LPort) (vc : Nat) (p : Packet) : Bool :=
  decide (1 ≤ l.credit vc) && s.slotAllows l p && (!l.crypt || l.cryptOn || p.opcode == 0x60 || p.opcode == 0xE0)

/-- Is egress queue `q` eligible (R234): its head is on chip, has a downstream credit, and its shaper allows it? -/
def State.queueEligible (s : State) (l : LPort) (q : Nat) : Bool :=
  let x := l.queue q
  match x.packets with
  | [] => false
  | (p, _) :: _ =>
    decide (x.spilled < x.packets.length) && s.maySend l (q % 2) p && (!x.bucketOn || decide (p.size ≤ x.tokens))

/-- Deficit round robin (R235), from the pointer of the port: which queue sends next, with the port as the visits leave
it. `fuel` bounds the visits: 16 queues, and 17 rounds for the largest packet at the smallest QUANTUM. -/
def State.drr (s : State) : Nat → LPort → Option Nat × LPort
  | 0, l => (none, l)
  | fuel + 1, l =>
    let q := l.next
    let x := l.queue q
    let move (l : LPort) : LPort := { l with next := (q + 1) % 16, inVisit := false }
    if l.inVisit then
      match x.packets with
      | [] => s.drr fuel (move (l.modQueue q fun x => { x with deficit := 0 }))
      | (p, _) :: _ =>
        if s.queueEligible l q && decide (p.size ≤ x.deficit) then (some q, l) else s.drr fuel (move l)
    else if x.packets.isEmpty then
      s.drr fuel (move (if x.deficit = 0 then l else l.modQueue q fun x => { x with deficit := 0 }))
    else if !s.queueEligible l q then s.drr fuel (move l)
    else s.drr fuel { l.modQueue q fun x => { x with deficit := x.deficit + x.quantum } with inVisit := true }

/-- Unacknowledged DATA flits of a port (R258). -/
def LPort.flitsOut (l : LPort) : Nat := (l.txSeq + 4096 - l.txAcked) % 4096

/-- A packet leaves on the link: its credits are used, its flits numbered, and it is held until acknowledged (R202). -/
def State.launch (lp vc : Nat) (p : Packet) (s : State) : State :=
  let s := s.modPort lp fun l =>
    let last := (l.txSeq + p.flits - 1) % 4096
    { l with
      credits := l.credits.put vc (l.credit vc - p.cells)
      txSeq := (l.txSeq + p.flits) % 4096
      unacked := l.unacked ++ [(last, p)]
      replaying := false }
  (s.mirror lp true p).emit (.packet lp p)

/-- EGRESS_SEND (R235): the priority queue first, at most one packet in four of it while a queue is eligible; then
deficit round robin. A full window sends nothing and counts LK_CNT_WINDOW_STALL (R258); a port that has asked for fallow
finishes that first (R265). A new flit follows the whole replay (R259). -/
def execEgressSend (lport : Nat) (s : State) : Out :=
  .next <|
    match s.links.look lport with
    | none => s
    | some l =>
      if l.st ≠ .up ∨ l.holdOff ∨ l.fallowReq then s
      else
        let any16 := (List.range 16).any fun q => s.queueEligible l q
        let prio := l.prio.findIdx? fun x => s.maySend l (vcOf x.1.opcode + (if x.2.2 then 4 else 0)) x.1
        let usePrio := prio == some 0 && (decide (l.prioRun = 0) || !any16)
        if !usePrio && !any16 then s
        else if 256 * l.width ≤ l.flitsOut then s.bumpPort lport Reg.LK_CNT_WINDOW_STALL
        else if usePrio then
          match l.prio with
          | [] => s
          | (p, _, esc) :: t =>
            (s.modPort lport fun l => { l with prio := t, prioRun := 3 }).launch lport (vcOf p.opcode + (if esc then 4 else 0)) p
        else
          match s.drr 400 l with
          | (none, _) => s
          | (some q, l) =>
            match (l.queue q).packets with
            | [] => s
            | (p, _) :: t =>
              let l := l.modQueue q fun x => { x with
                packets := t
                deficit := if t.isEmpty then 0 else x.deficit - p.size
                tokens := if x.bucketOn then x.tokens - p.size else x.tokens }
              let s := s.modPort lport fun _ => { l with prioRun := l.prioRun - 1 }
              (s.launch lport (q % 2) p).checkSpillLimit p.hdr.compId

/-- ESCAPE_WAIT_EXPIRY: the head packet of a normal VC that has waited without a credit moves to its escape channel,
by the ESC_LPORT of its entry (R229, R276): it stays when that is 0xFF, and waits when that port is not UP. -/
def execEscapeWaitExpiry (lport vc : Nat) (s : State) : Out :=
  .next <|
    match s.links.look lport with
    | none => s
    | some l =>
      if 1 ≤ l.credit vc then s
      else
        let fromQueue : Option (Nat × Packet) := if vc < 2 then
            (List.range 8).findSome? fun i =>
              ((l.queue (2 * i + vc)).packets.head?).map fun x => (2 * i + vc, x.1)
          else none
        let fromPrio : Option Packet := if vc = 2 ∨ vc = 3 then
            (l.prio.find? fun x => vcOf x.1.opcode == vc && !x.2.2).map Prod.fst else none
        let pkt := (fromQueue.map Prod.snd).orElse fun _ => fromPrio
        match pkt with
        | none => s
        | some p =>
          match s.routeFor p.hdr.dst with
          | none => s
          | some r =>
            if r.esc = 0xFF then s
            else if !(((s.links.look r.esc).map fun x => decide (x.st = .up)).getD false) then s.bump Reg.TP_CNT_ESC_BLOCKED
            else
              let s := s.modPort lport fun l =>
                match fromQueue with
                | some (q, _) => l.modQueue q fun x => { x with packets := x.packets.drop 1, spilled := min x.spilled (x.packets.length - 1) }
                | none => { l with prio := l.prio.eraseIdx ((l.prio.findIdx? fun x => vcOf x.1.opcode == vc && !x.2.2).getD 0) }
              (s.modPort r.esc fun l => { l with prio := l.prio ++ [(p, s.clk.timeNs, true)] }).bump Reg.SW_CNT_ESCAPE

/-- How many packets the next 32 KiB block of spill holds. -/
def blockPackets : Nat → List (Packet × Nat) → Nat
  | _, [] => 0
  | used, (p, _) :: t => if 128 ≤ used then 0 else 1 + blockPackets (used + p.cells) t

/-- SPILL_FETCH_DONE: a spilled block is back on chip, in queue order (R231); episodes of R232 and R233 may end. -/
def execSpillFetchDone (lport queue : Nat) (s : State) : Out :=
  .next <|
    match s.links.look lport with
    | none => s
    | some l =>
      if 16 ≤ queue then s
      else
        let x := l.queue queue
        if x.spilled = 0 then s
        else
          let tail := x.packets.drop (x.packets.length - x.spilled)
          let n := blockPackets 0 tail
          let s := s.modPort lport fun l => l.modQueue queue fun x => { x with spilled := x.spilled - n }
          let die := portDie lport
          let s := s.setOvfFull die (decide (16 * 2 ^ 30 ≤ s.spillOn die))
          (tail.map fun q => q.1.hdr.compId).eraseDups.foldl (fun s c => s.checkSpillLimit c) s

/-! ### Shapers and samples (R236 to R238) -/

/-- One refill of a bucket: the register's last write reaches it, turning it on fills it, turning it off empties it. -/
def Queue.refill (q : Queue) : Queue :=
  { q with
    bucketOn := q.shapeOn
    tokens := if !q.shapeOn then 0 else if !q.bucketOn then q.burst else min (q.tokens + q.rate) q.burst }

/-- SHAPER_REFILL: every bucket of every port at the same FABRIC cycle. -/
def execShaperRefill (s : State) : Out :=
  .next { s with links := s.links.each fun _ l => { l with queues := l.queues.each fun _ q => q.refill } }

/-- The histogram bin of a value above zero, for the first bin's width `w` (Table SW-3). -/
def histBin (w v : Nat) : Nat := if v < 2 * w then 1 else min 15 (Nat.log2 (v / w) + 1)

/-- One sample of a queue (R238). -/
def Queue.sample (now : Nat) (q : Queue) : Queue :=
  match q.packets with
  | [] => { q with depthHist := addCtr q.depthHist 0 1, delayHist := addCtr q.delayHist 0 1 }
  | (_, t) :: _ =>
    { q with
      depthHist := addCtr q.depthHist (histBin 256 q.depth) 1
      delayHist := addCtr q.delayHist (histBin 32 ((now - t) * 7 / 4)) 1
      depthMax := max q.depthMax q.depth }

/-- QUEUE_SAMPLE: each of the 16 queues of every logical port. -/
def execQueueSample (s : State) : Out :=
  .next { s with links := s.links.each fun _ l =>
    (List.range 16).foldl (fun l q => l.modQueue q (Queue.sample s.clk.timeNs)) l }

/-- FURROW_SLOT_CHANGE: the next slot; at the frame boundary the written owners take effect (R242). -/
def execFurrowSlotChange (s : State) : Out :=
  .next <|
    let slot := (s.sw.slot + 1) % 64
    let owners := (List.range 64).filterMap fun n =>
      let v := s.reg (Reg.FURROW_SLOT + 4 * n)
      if bit v 31 && (s.comp (v % 256)).any Comp.furrow then some (n, v % 256) else none
    s.modSw fun w => { w with slot := slot, furrow := if slot = 0 then owners else w.furrow }

end Sys2Proof.Machine
end

