-- ==== Sys2Proof/Machine/Topology.lean ====
section
/-! DEFINITION. Multi-device fabrics (R267 to R278): node IDs, discovery, the routing table, and packets held for lack
of a route. -/

namespace Sys2Proof.Machine

/-! ### PROBE (R270, Table TP-1) -/

/-- The 64 payload bytes of a PROBE or of an answer, with this K9's record. -/
def State.probeBytes (s : State) (lp seq time : Nat) : List Byte :=
  leBytes 8 s.linkId.toNat ++ leBytes 2 (if s.topo.assigned then s.topo.node % 4096 else 0) ++ leBytes 1 9
    ++ leBytes 1 (b2n s.topo.assigned * 32 + b2n (bit (s.reg Reg.TP_CFG) 16) * 16 + 15)
    ++ leBytes 1 lp ++ leBytes 3 0 ++ leBytes 4 s.topo.epoch ++ leBytes 4 seq ++ leBytes 8 time ++ leBytes 32 0

/-- A management packet of a PEER link: link-local, DST_NODE 0x000 for PROBE. -/
def State.linkPacket (s : State) (op dst st : Nat) (data : List Byte) : Packet :=
  let h := { Hdr.zero with
    src := if s.topo.assigned then s.topo.node else 0
    dst := dst
    status := st
    length := data.length }
  { opcode := op, hdr := h.sealed op, data := data }

/-- Is a port UP or FALLOW? -/
def State.portRuns (s : State) (lp : Nat) : Bool :=
  ((s.links.look lp).map fun l => decide (l.st = .up) || decide (l.st = .fallow)).getD false

/-- Send a PROBE on one PEER port. -/
def State.sendProbe (lp : Nat) (s : State) : State :=
  let seq := (s.topo.probeSeq + 1) % 2 ^ 32
  let s := { s with topo := { s.topo with
    probeSeq := seq
    nbrs := s.topo.nbrs.change lp fun n => { n with answered := false } } }
  s.enqueue lp (s.linkPacket 0x60 0 0 (s.probeBytes lp seq s.clk.timeNs))

/-- The PEER ports that run. -/
def State.peerPorts (s : State) : List Nat :=
  (s.links.filter fun p => decide (p.2.role = .peer) && s.portRuns p.1).map Prod.fst

/-- PROBE on every PEER port: after a change of node ID or ROUTE_EPOCH (R270). -/
def State.probeAll (s : State) : State := s.peerPorts.foldl (fun s lp => s.sendProbe lp) s

/-- A neighbour of which nothing is known. -/
def Nbr.empty : Nbr where
  state := .none
  linkId := 0
  node := 0
  member := 0
  assigned := false
  rtt := 0
  missed := 0
  answered := true
  liveId := none
  caps := 0
  unanswered := 0
  score := 0

/-- Change the neighbour record of a port. -/
def State.modNbr (lp : Nat) (f : Nbr → Nbr) (s : State) : State :=
  { s with topo := { s.topo with nbrs := s.topo.nbrs.put lp (f ((s.topo.nbrs.look lp).getD Nbr.empty)) } }

/-- Does a record show this K9's own node ID with another LINK_ID (R268)? -/
def State.conflicts (s : State) (r : ProbeRec) : Bool :=
  s.topo.assigned && r.assigned && r.node == s.topo.node && r.linkId != s.linkId

/-- A conflicting neighbour leaves every port set, and TP_NODE_CONFLICT is raised at the entry (R268). -/
def State.enterConflict (lp : Nat) (s : State) : State :=
  let was := ((s.topo.nbrs.look lp).map fun n => decide (n.state = .conflict)).getD false
  let s := s.modNbr lp fun n => { n with state := .conflict }
  if was then s else (s.occur Ev.TP_NODE_CONFLICT lp 0).announceRoutes

/-- A record that is discarded: a reserved field, or an ACCEL port (R270). -/
def State.probeRefused (s : State) (lp : Nat) (r : ProbeRec) : Bool :=
  !r.resvZero || ((s.links.look lp).map fun l => decide (l.role = .accel)).getD false

/-- A PROBE from a PEER neighbour: answered with this K9's record, PROBE_SEQ and SEND_TIME echoed (R270). A GFP
request at a TRAY port is never taken (R193), and an ANALYSIS port takes nothing (Table LK-2). -/
def execProbe (lport : Nat) (r : ProbeRec) (s : State) : Out :=
  .next <|
    match s.links.look lport with
    | none => s
    | some l =>
      if !s.portRuns lport then s
      else if l.role = .tray then s.bump Reg.TX_CNT_BINDING
      else if l.role = .analysis then s.bumpPort lport Reg.LK_CNT_RX_DISCARD
      else if s.probeRefused lport r then s.bump Reg.TP_CNT_PROBE_BAD
      else
        let s := s.enqueue lport (s.linkPacket 0xE0 0 0 (s.probeBytes lport r.probeSeq r.sendTime))
        if s.conflicts r then
          (s.modNbr lport fun n => { n with linkId := r.linkId, node := r.node, member := r.member }).enterConflict lport
        else s

/-- A PROBE answer (R268, R270, Table TP-2): the round trip is kept, and the neighbour is LIVE when its identity is
the last LIVE one, else NEW. -/
def execProbeAnswer (lport : Nat) (r : ProbeRec) (s : State) : Out :=
  .next <|
    match s.links.look lport with
    | none => s
    | some l =>
      if !s.portRuns lport then s
      else if l.role = .tray then s.bump Reg.TX_CNT_BINDING
      else if l.role = .analysis then s.bumpPort lport Reg.LK_CNT_RX_DISCARD
      else if s.probeRefused lport r then s.bump Reg.TP_CNT_PROBE_BAD
      else
        let old := (s.topo.nbrs.look lport).getD Nbr.empty
        let s := s.modNbr lport fun n => { n with
          linkId := r.linkId
          node := r.node
          member := r.member
          assigned := r.assigned
          rtt := s.clk.timeNs - r.sendTime
          missed := 0
          answered := true
          caps := b2n r.crypt * 8 + b2n r.coherence * 4 + b2n r.vq * 2 + b2n r.attend }
        if s.conflicts r then s.enterConflict lport
        else if old.liveId == some (r.linkId, r.node) then
          (s.modNbr lport fun n => { n with state := .live }).announceRoutes
        else
          let again := decide (old.state = .new) && old.linkId == r.linkId && old.node == r.node
          let s := s.modNbr lport fun n => { n with state := .new }
          (if again then s else s.occur Ev.TP_NEIGHBOUR_NEW lport r.node).announceRoutes

/-- One PEER port at a probe interval: an unanswered PROBE counts, PROBE_MISS of them make the neighbour LOST, and the
next PROBE is sent (Table TP-2). -/
def State.probeTick (lp : Nat) (s : State) : State :=
  let n := (s.topo.nbrs.look lp).getD Nbr.empty
  let s := if n.answered then s
    else
      let s := (s.bump Reg.TP_CNT_PROBE_MISS).modNbr lp fun n => { n with missed := n.missed + 1, unanswered := n.unanswered + 1 }
      if s.field Reg.TP_CFG 15 8 ≤ n.missed + 1 ∧ n.state ≠ .lost then
        ((s.modNbr lp fun n => { n with state := .lost }).occur Ev.TP_NEIGHBOUR_LOST lp n.node).announceRoutes
      else s
  s.sendProbe lp

/-- PROBE_INTERVAL: every PEER port that runs (R270). -/
def execProbeInterval (s : State) : Out := .next <| s.peerPorts.foldl (fun s lp => s.probeTick lp) s

/-- LAB_NODE_CANDIDATE (R269): with LAB_MODE set, no composition and no node ID. The first run takes the candidate and
probes; a later one keeps it, or bumps it when a neighbour with a lower LINK_ID holds it. -/
def execLabNodeCandidate (s : State) : Out :=
  .next <|
    if !bit (s.reg Reg.TP_CFG) 16 || !s.comps.isEmpty || s.topo.assigned then s
    else match s.topo.candidate with
      | none =>
        ({ s with topo := { s.topo with candidate := some (0x800 + s.linkId.toNat % 1024) } }).probeAll
      | some c =>
        let beaten := s.topo.nbrs.vals.any fun n => n.assigned && n.node == c && decide (n.linkId.toNat < s.linkId.toNat)
        if beaten then ({ s with topo := { s.topo with candidate := some (0x800 + (c - 0x800 + 1) % 1024) } }).probeAll
        else ({ s with topo := { s.topo with assigned := true, node := c, candidate := none } }).probeAll

/-! ### Topology commands (Table TP-5) -/

/-- NODE_ID_SET (0x4001): legal in BOOT and READY; refused in lab mode (R268, R269). -/
def execNodeIdSet (c : Ctx) (node : Nat) (s : State) : Out :=
  .next <| nirod (.nodeIdSet c node) c (Cmd.f 0x4001 Legal.BR) Target.none (fun s =>
    if 0xFFF < node ∨ bit (s.reg Reg.TP_CFG) 16 then invalid 0 s
    else ok [] ({ s with topo := { s.topo with assigned := true, node := node } }).probeAll) s

/-- Is a port an enabled PEER or ACCEL logical port (R271)? -/
def State.routable (s : State) (lp : Nat) : Bool :=
  ((s.links.look lp).map fun l => l.enable && (decide (l.role = .peer) || decide (l.role = .accel))).getD false

/-- The checks of R271 on one entry written at index `i`. -/
def State.routeOk (s : State) (i : Nat) (r : RouteReq) : Bool :=
  r.resvZero && decide (r.count ≤ 16) && r.node == i && decide (r.count ≤ r.members.length ∧ r.members.length ≤ 16)
    && (r.members.drop r.count).all (· == 0) && (r.members.take r.count).all s.routable
    && (r.esc == 0xFF || s.routable r.esc) && (!r.isLocal || r.count == 0)

/-- ROUTE_SET (0x4002): the entries are written whole, their WITHDRAWN marks cleared, and ROUTE_EPOCH rises by one. -/
def execRouteSet (c : Ctx) (first : Nat) (entries : List RouteReq) (s : State) : Out :=
  .next <| nirod (.routeSet c first entries) c (Cmd.f 0x4002 Legal.C) Target.none (fun s =>
    if entries.isEmpty ∨ 128 < entries.length then invalid 1 s
    else if 4096 < first + entries.length then invalid 0 s
    else match entries.zipIdx.find? fun x => !s.routeOk (first + x.2) x.1 with
      | some x => invalid (2 + x.2) s
      | none =>
        let mk (r : RouteReq) : Route :=
          { valid := r.valid, isLocal := r.isLocal, esc := r.esc, members := r.members.take r.count, withdrawn := 0,
            last := 0, announced := false }
        let epoch := (s.topo.epoch + 1) % 2 ^ 32
        let s := { s with topo := { s.topo with
          routes := entries.foldl (fun (m : NMap Route) (r : RouteReq) => (m.put r.node (mk r))) s.topo.routes
          epoch := epoch } }
        ok [.num epoch] s.announceRoutes.probeAll) s

/-- The 32 bytes of a routing-table entry (Table TP-3). -/
def routeBytes (i : Nat) (r : Option Route) : List Byte :=
  match r with
  | none => leBytes 2 0 ++ leBytes 2 i ++ leBytes 28 0
  | some r =>
    leBytes 1 (b2n r.valid * 128 + b2n r.isLocal * 64 + r.members.length) ++ leBytes 1 r.esc ++ leBytes 2 i
      ++ leBytes 2 r.withdrawn.toNat ++ leBytes 2 0
      ++ r.members.flatMap (leBytes 1) ++ leBytes (16 - r.members.length) 0 ++ leBytes 8 0

/-- ROUTE_GET (0x4003). -/
def execRouteGet (c : Ctx) (first count : Nat) (s : State) : Out :=
  .next <| nirod (.routeGet c first count) c (Cmd.f 0x4003 Legal.R) Target.none (fun s =>
    if count = 0 ∨ 128 < count then invalid 1 s
    else if 4096 < first + count then invalid 0 s
    else ok ((List.range' first count).map (fun i => .bytes (routeBytes i (s.topo.routes.look i)))
      ++ [.num s.topo.epoch]) s) s

/-- NEIGHBOUR_LIST (0x4004): for each PEER logical port its state, LINK_ID, node ID, MEMBER, capabilities and RTT. -/
def execNeighbourList (c : Ctx) (s : State) : Out :=
  .next <| nirod (.neighbourList c) c (Cmd.f 0x4004 Legal.R) Target.none (fun s =>
    ok ((s.links.filter fun p => decide (p.2.role = .peer)).flatMap fun p =>
      let n := (s.topo.nbrs.look p.1).getD Nbr.empty
      [.num p.1, .num n.state.code, .num n.linkId.toNat, .num n.node, .num n.member, .num n.caps, .num n.rtt]) s) s

/-- NEIGHBOUR_ACCEPT (0x4005): only a NEW neighbour that has a node ID (R278). -/
def execNeighbourAccept (c : Ctx) (lport : Nat) (s : State) : Out :=
  .next <| nirod (.neighbourAccept c lport) c (Cmd.f 0x4005 Legal.C) Target.none (fun s =>
    match s.topo.nbrs.look lport with
    | some n =>
      if n.state = .new ∧ n.assigned then
        ok [] (s.modNbr lport fun n => { n with state := .live, liveId := some (n.linkId, n.node) }).announceRoutes
      else invalid 0 s
    | none => invalid 0 s) s

/-! ### ROUTE_UPDATE (R274) -/

/-- The checks a management packet meets at ingress: the header CRC (R190), the port's role (R193, R270, Table LK-2),
and the node ID (R267). `none` when it goes on. -/
def State.mgmtIngress (op : Nat) (h : Hdr) (s : State) : Option State :=
  match s.links.look h.lport with
  | none => some s
  | some l =>
    if l.role = .analysis then some (s.bumpPort h.lport Reg.LK_CNT_RX_DISCARD)
    else if h.crc ≠ h.goodCrc op then some (s.bump Reg.TX_CNT_HDR_CRC)
    else if l.role = .tray then some (s.bump Reg.TX_CNT_BINDING)
    else if l.role = .accel then some (s.bump Reg.TP_CNT_PROBE_BAD)
    else if !s.topo.assigned then some (s.bump Reg.TP_CNT_NO_ROUTE)
    else none

/-- Set or clear the WITHDRAWN marks of a port in the named entries. -/
def State.markRoutes (lp : Nat) (withdraw : Bool) (nodes : List Nat) (s : State) : State :=
  let upd (k : Nat) (r : Route) : Route :=
    if nodes.contains k then
      { r with withdrawn := r.members.zipIdx.foldl (fun w x =>
          if x.1 = lp then (if withdraw then w ||| (1#16 <<< x.2) else w &&& ~~~(1#16 <<< x.2)) else w) r.withdrawn }
    else r
  { s with topo := { s.topo with routes := s.topo.routes.each upd } }

/-- A ROUTE_UPDATE: a COUNT that does not match LENGTH, or a reserved field, is answered with ST_INVALID_PARAM. -/
def State.routeUpdate (withdraw : Bool) (h : Hdr) (count resv : Nat) (nodes : List Nat) (s : State) : State :=
  match s.mgmtIngress 0x61 h with
  | some t => t
  | none =>
    let good := decide (1 ≤ count ∧ count ≤ 2044) && h.length == 8 + 2 * count && nodes.length == count && resv == 0
      && h.resv == 0 && h.status == 0
    let s := if good then
        let s := if withdraw then s.bumpBy Reg.TP_CNT_WITHDRAW_RX count else s
        (s.markRoutes h.lport withdraw nodes).announceRoutes
      else s
    s.enqueue h.lport (s.linkPacket 0xE1 h.src (if good then St.OK else St.INVALID_PARAM) [])

/-- ROUTE_UPDATE_WITHDRAW. -/
def execRouteUpdateWithdraw (h : Hdr) (_epoch count resv : Nat) (nodes : List Nat) (s : State) : Out :=
  .next <| s.routeUpdate true h count resv nodes

/-- ROUTE_UPDATE_RESTORE. -/
def execRouteUpdateRestore (h : Hdr) (_epoch count resv : Nat) (nodes : List Nat) (s : State) : Out :=
  .next <| s.routeUpdate false h count resv nodes

/-- ROUTE_UPDATE_ACK: the answer reaches its sender; nothing depends on it. -/
def execRouteUpdateAck (h : Hdr) (s : State) : Out := .next <| (s.mgmtIngress 0xE1 h).getD s

/-! ### Packets held for lack of a route (R275) -/

/-- NO_ROUTE_WAIT_EXPIRY: a held request is answered ST_NO_ROUTE; a response or snoop is discarded; both count. -/
def execNoRouteWaitExpiry (held : Nat) (s : State) : Out :=
  .next <|
    match s.tx.held.look held with
    | none => s
    | some x =>
      let s := s.advanceTo x.untilNs
      let s := (s.modTx fun t => { t with held := t.held.del held }).bump Reg.TP_CNT_NO_ROUTE
      if vcOf x.pkt.opcode = 0 then s.respondBack x.pkt.opcode x.pkt.hdr St.NO_ROUTE else s

/-- HELD_REQUEST_SEND: a member has become eligible, and the packet is sent. -/
def execHeldRequestSend (held : Nat) (s : State) : Out :=
  .next <|
    match s.tx.held.look held with
    | none => s
    | some x =>
      match s.chooseMember x.pkt none with
      | some lp => (s.modTx fun t => { t with held := t.held.del held }).sendBy lp x.pkt
      | none => s

end Sys2Proof.Machine
end

