-- ==== Sys2Proof/Machine/TxOps.lean ====
section
/-! DEFINITION. The transaction layer's shared operations: the SRC_SEQ window (R197, R198), the order of application
(R199, R200), the coherence directory's grants and snoops (R211 to R221), and the service of a pool request once its
gates are open (R22 step 7, R186). -/

namespace Sys2Proof.Machine

/-! ### Write-class pairs (R197) -/

/-- Is an opcode write-class (R183)? -/
def writeClass (op : Nat) : Bool := decide (op = 0x02) || decide (0x10 ≤ op ∧ op ≤ 0x19)

/-- Is an opcode a coherence request? -/
def cohOp (op : Nat) : Bool := decide (0x40 ≤ op ∧ op ≤ 0x44)

/-- The pair entry of a source and a composition. -/
def State.pair (s : State) (src h : Nat) : Option Pair := s.tx.pairs.find? fun p => p.src == src && p.comp == h

/-- W of a pair, 0 before its first write. -/
def State.lowOf (s : State) (src h : Nat) : Nat := ((s.pair src h).map Pair.low).getD 0

/-- Distance d of R197. -/
def seqDist (seq low : Nat) : Nat := (seq + 2 ^ 32 - low) % 2 ^ 32

/-- Change a pair entry. -/
def State.modPair (src h : Nat) (f : Pair → Pair) (s : State) : State :=
  s.modTx fun x => { x with pairs := x.pairs.map fun p => if p.src = src ∧ p.comp = h then f p else p }

/-- W passes every SRC_SEQ applied without a gap. -/
def Pair.advance : Nat → Pair → Pair
  | 0, p => p
  | n + 1, p =>
    if p.applied.contains p.low then
      Pair.advance n { p with low := (p.low + 1) % 2 ^ 32, applied := p.applied.filter (· != p.low) }
    else p

/-- Record a SRC_SEQ as applied (R197, R294). -/
def Pair.apply (seq : Nat) (p : Pair) : Pair :=
  let p := { p with applied := if p.applied.contains seq then p.applied else p.applied ++ [seq] }
  p.advance p.applied.length

/-- Change a waiting step. -/
def State.modStep (i : Nat) (f : Step → Step) (s : State) : State :=
  s.modTx fun x => { x with steps := x.steps.change i f }

/-- Is the request's turn come (R199, R200)? Writes under LANE_ORDER, RELEASE writes under RELEASE_FLAG, and LOADs under
LANE_ORDER wait for every lower write of the pair. -/
def State.orderOpen (s : State) (t : Step) : Bool :=
  let flag := (s.comp t.comp).any Comp.releaseFlag
  let low := s.lowOf t.pkt.hdr.src t.comp
  if writeClass t.pkt.opcode then
    if flag && !t.pkt.hdr.release then true else t.pkt.hdr.seq == low
  else if t.pkt.opcode = 0x01 && !flag then decide (2 ^ 31 ≤ seqDist t.pkt.hdr.seq low) || t.pkt.hdr.seq == low
  else true

/-- End a waiting step with its response: a write counts as applied, whatever its status (R201, R294), and an atomic's
response is kept for TX_ATOMIC_HOLD_US (R198). -/
def State.finishStep (i st : Nat) (data : List Byte) (s : State) : State :=
  match s.tx.steps.look i with
  | none => s
  | some t =>
    let h := t.pkt.hdr
    let st := if st = St.OK ∧ t.reclaimed then St.RECLAIMED else st
    let s := s.modTx fun x => { x with steps := x.steps.del i }
    let s :=
      if writeClass t.pkt.opcode then
        let s := s.modPair h.src t.comp (Pair.apply h.seq)
        if t.pkt.opcode = 0x02 then s
        else
          let keep := s.clk.timeNs + 1000 * s.field Reg.TX_ATOMIC_HOLD_US 23 0
          let saved : Saved := { seq := h.seq, opcode := t.pkt.opcode, status := st, data := data, until_ := keep }
          s.modPair h.src t.comp fun p => { p with saved := p.saved ++ [saved] }
      else s
    s.respond t.pkt.opcode h st data

/-- A step that completes with ST_TIER_LOST (R60). -/
def State.loseStep (i : Nat) (s : State) : State :=
  match s.tx.steps.look i with
  | none => s
  | some t => (s.bumpComp t.comp Reg.POOL_CNT_STEPS_TIER_LOST).finishStep i St.TIER_LOST []

/-- Count the cause of a stall, once per step (R58). -/
def State.causeStep (i a : Nat) (s : State) : State :=
  match s.tx.steps.look i with
  | none => s
  | some t =>
    if t.causes.contains a then s
    else (s.modStep i fun t => { t with causes := t.causes ++ [a] }).bumpComp t.comp a

/-- A step asks for tier accesses: they are issued, its first stall is noted (R60), and an access to a tray that is down
counts TRAY_DOWN (R58). -/
def State.askTier (i : Nat) (items : List Nat) (write : Bool) (s : State) : State :=
  match s.tx.steps.look i with
  | none => s
  | some t =>
    let now := s.clk.timeNs
    let s := s.modStep i fun t => { t with
      items := items
      ready := true
      wait := .tier
      firstStall := if items.isEmpty then t.firstStall else some (t.firstStall.getD now) }
    items.foldl (fun s k =>
      if s.itemDown t.extent k then s.causeStep i Reg.POOL_CNT_TRAY_DOWN else s.issue t.extent k write) s

/-! ### Atomics (R186) -/

/-- The signed reading of an operand of `w` bits. -/
def signedOf (w v : Nat) : Int := if v < 2 ^ (w - 1) then (v : Int) else (v : Int) - 2 ^ w

/-- The new value of an atomic, or none where nothing is written (R186). -/
def atomicNew (op old operand compare : Nat) : Option Nat :=
  let w := if op % 2 = 0 then 32 else 64
  let a := operand % 2 ^ w
  match (op - 0x10) / 2 with
  | 0 => some ((old + a) % 2 ^ w)
  | 1 => some a
  | 2 => if old = compare % 2 ^ w then some a else none
  | 3 => some (if signedOf w a < signedOf w old then a else old)
  | _ => some (if signedOf w old < signedOf w a then a else old)

/-! ### Coherence: directory and snoops -/

/-- The domain that covers an extent. -/
def State.domainOf (s : State) (e : Nat) : Option Nat := s.coh.findKey fun _ d => d.extents.contains e

/-- The agents that hold a line by its entry. -/
def DirEntry.holders (x : DirEntry) : List Nat :=
  match x.state with
  | .excl => [x.owner]
  | .shared => setBits x.sharers.toNat 16
  | .reclaimed => []

/-- The sharer with the lowest HOPS, the lower index on ties (R214). -/
def Domain.nearest (d : Domain) (sh : BitVec 16) : Nat :=
  let hops (a : Nat) : Nat := ((d.agents.look a).map Agent.hops).getD 16
  ((setBits sh.toNat 16).foldl (fun (best : Option Nat) a => match best with
    | none => some a
    | some b => if hops a < hops b then some a else some b) none).getD 0

/-- The bit of an agent in SHARERS. -/
def agentBit (a : Nat) : BitVec 16 := 1#16 <<< a

/-- Unanswered snoops of a line to an agent. -/
def Domain.openSnoops (d : Domain) (line agent : Nat) : Nat := countIf d.snoops fun x => x.line == line && x.agent == agent

/-- May the home send agent `a` another snoop for a line (R213, R219)? -/
def Domain.canSnoop (d : Domain) (line a : Nat) : Bool :=
  decide (d.openSnoops line a < 4) && (match d.agents.look a with
    | some x => !x.unresponsive
    | none => false)

/-- Send a snoop (0 INVALIDATE, 1 SHARE, 2 OWN) for a grant: FWD_OPEN counts it, and it is a request of the K9's own. -/
def State.sendSnoop (d line agent kind grant : Nat) (s : State) : State :=
  match s.coh.look d with
  | none => s
  | some x =>
    let node := ((x.agents.look agent).map Agent.node).getD 0
    let cid := ((s.comp x.comp).map Comp.compId).getD 0
    let s := s.modDom d fun x => { x with
      snoops := x.snoops ++ [{ line := line, agent := agent, kind := kind, tries := 0, grant := grant }]
      dir := x.dir.change line fun y => { y with fwdOpen := y.fwdOpen + 1 } }
    s.openOwn 3 line fun tag => s.ownPacket (0x50 + kind) node cid tag (s.epochByte cid) 0 0 (128 * line) []

/-- Open a grant and send its snoops. -/
def State.openGrant (d line agent : Nat) (why : SnoopFor) (pkt : Option Packet) (fromExcl : Bool)
    (snoops : List (Nat × Nat)) (s : State) : State :=
  match s.coh.look d with
  | none => s
  | some x =>
    let g : Grant := { id := x.nextGrant, line := line, agent := agent, why := why, pkt := pkt, data := [],
                       waiting := snoops.length, reclaimed := false, fromExcl := fromExcl }
    let s := s.modDom d fun x => { x with grants := x.grants ++ [g], nextGrant := x.nextGrant + 1 }
    snoops.foldl (fun s q => s.sendSnoop d line q.1 q.2 g.id) s

/-- Is a line held by a recall or by a plain access that waits for snoops? -/
def Domain.lineBusy (d : Domain) (line : Nat) : Bool :=
  d.grants.any fun g => g.line == line && (match g.why with
    | .plain _ => true
    | .recall => true
    | _ => false)

/-- Does an earlier coherence read of the line still wait for memory? -/
def State.readAhead (s : State) (i h line : Nat) : Bool :=
  s.tx.steps.any fun q => decide (q.1 < i) && q.2.comp == h && cohOp q.2.pkt.opcode && !q.2.granted
    && !q.2.items.isEmpty && q.2.pkt.hdr.addr / 128 == line

/-- A grant of a line to agent `r` at the present tick: the entry becomes EXCL r, or r joins the sharers. -/
def State.grantLine (d line r : Nat) (excl : Bool) (s : State) : State :=
  s.modDom d fun x =>
    let old := x.dir.look line
    let sh : BitVec 16 := match old with
      | some y => (y.holders.foldl (fun m a => m ||| agentBit a) 0) ||| agentBit r
      | none => agentBit r
    let y : DirEntry := { sharers := if excl then 0 else sh, owner := if excl then r else x.nearest sh,
                          state := if excl then .excl else .shared, fwdOpen := (old.map DirEntry.fwdOpen).getD 0,
                          grantTick := s.clk.tick }
    { x with dir := x.dir.put line y }

/-- The entry to recall: the oldest GRANT_TICK, the lower LINE on ties, never RECLAIMED nor with snoops open (R212). -/
def State.recallVictim (s : State) (x : Domain) : Option Nat :=
  ((x.dir.filter fun q => decide (q.2.state ≠ .reclaimed) && q.2.fwdOpen == 0 && !x.lineBusy q.1).foldl
    (fun (best : Option (Nat × Nat)) q =>
      let a := s.age q.2.grantTick
      match best with
      | none => some (q.1, a)
      | some b => if b.2 < a then some (q.1, a) else some b) none).map Prod.fst

/-- Recall a line from agent `a`, or from every holder when `a` is 16: SNP_INVALIDATE, then the holder leaves the entry,
which is freed when none is left. -/
def State.recallLine (d a line : Nat) (s : State) : State :=
  match (s.coh.look d).bind fun x => x.dir.look line with
  | none => s
  | some y =>
    let l := if a < 16 then y.holders.filter (· == a) else y.holders
    if y.holders.isEmpty then s.modDom d fun x => { x with dir := x.dir.del line }
    else if l.isEmpty then s
    else s.openGrant d line a .recall none (decide (y.state = .excl)) (l.map fun a => (a, 0))

/-- Take the RECLAIMED mark off a line for the request that meets it (R221). -/
def State.seeReclaimed (d line i : Nat) (s : State) : State :=
  let s := s.modDom d fun x => { x with dir := x.dir.del line }
  (s.modStep i fun t => { t with reclaimed := true }).bumpDom d Reg.CHCNT_RECLAIMED_SEEN

/-! ### Service -/

/-- Serve a plain request (R22 step 7): a poisoned line gives ST_TIER_LOST (R57). -/
def State.perform (i : Nat) (t : Step) (x : Extent) (s : State) : State :=
  let h := t.pkt.hdr
  let off := h.addr - x.base
  if t.pkt.opcode = 0x01 then
    let n := (h.lines + 1) * 128
    if x.poisoned off n then s.loseStep i
    else
      let r := s.readBytes t.extent off n
      r.2.finishStep i St.OK r.1
  else if t.pkt.opcode = 0x02 then (s.writeBytes t.extent off t.pkt.data).finishStep i St.OK []
  else
    let w := if t.pkt.opcode % 2 = 0 then 4 else 8
    if x.poisoned off w then s.loseStep i
    else
      let old := leNat (s.readPool t.extent off w)
      let s := match atomicNew t.pkt.opcode old (leAt t.pkt.data 0 8) (leAt t.pkt.data 8 8) with
        | some v => s.writeBytes t.extent off (leBytes w v)
        | none => s.touch t.extent (off / 32768)
      s.finishStep i St.OK (leBytes 8 old)

/-- A line's 128 bytes. -/
def State.lineBytes (s : State) (e : Nat) (x : Extent) (line : Nat) : List Byte := s.readPool e (128 * line - x.base) 128

/-- A plain request to an attached extent (R216): snoops first, where its lines need them; then it is served. -/
def State.plainCoherent (d i : Nat) (t : Step) (x : Extent) (s : State) : State :=
  match s.coh.look d with
  | none => s
  | some dm =>
    let h := t.pkt.hdr
    let n := if t.pkt.opcode ≤ 0x02 then h.lines + 1 else 1
    let lines := List.range' (h.addr / 128) n
    if lines.any fun q => dm.lineBusy q || s.readAhead i t.comp q then s.modStep i fun t => { t with wait := .snoop }
    else
      let s := lines.foldl (fun s q =>
        if (dm.dir.look q).any fun y => decide (y.state = .reclaimed) then s.seeReclaimed d q i else s) s
      let need : List (Nat × DirEntry) := lines.filterMap fun q =>
        match dm.dir.look q with
        | none => none
        | some y =>
          if y.state = .reclaimed then none
          else if t.pkt.opcode = 0x01 ∧ y.state ≠ .excl then none
          else some (q, y)
      if need.isEmpty then
        -- a STORE or atomic leaves no entry behind
        s.perform i t x
      else if !(need.all fun q => q.2.holders.all fun a => dm.canSnoop q.1 a) then
        s.modStep i fun t => { t with wait := .snoop }
      else
        let s := need.foldl (fun s q =>
          if t.pkt.opcode = 0x01 then
            let s := s.openGrant d q.1 q.2.owner (.plain i) none true [(q.2.owner, 1)]
            s.modDom d fun x => { x with dir := x.dir.change q.1 fun y => { y with
              state := .shared, sharers := agentBit y.owner } }
          else s.openGrant d q.1 16 (.plain i) none (decide (q.2.state = .excl)) (q.2.holders.map fun a => (a, 0))) s
        s.modStep i fun t => { t with wait := .snoop }

/-- A coherence read that takes its data from memory (Table CH-5, "No entry" and RECLAIMED): a step of its own (R215). -/
def State.memoryGrant (d i r : Nat) (t : Step) (x : Extent) (s : State) : State :=
  let line := t.pkt.hdr.addr / 128
  let off := t.pkt.hdr.addr - x.base
  if !t.ready then
    let items := s.itemsFor x (off / 32768) false
    let s := s.askTier i items false
    if items.isEmpty then s.modStep i fun t => { t with ready := true } else s
  else if x.poisoned off 128 then s.loseStep i
  else
    let got := (s.coh.look d).bind fun dm => dm.dir.look line
    let s := if got.any fun y => decide (y.state = .reclaimed) then s.seeReclaimed d line i else s
    let s := s.grantLine d line r (t.pkt.opcode = 0x41)
    let b := s.readBytes t.extent off 128
    b.2.finishStep i St.OK b.1

/-- Hand a coherence request over to a grant: it waits as such, and no longer as a step. -/
def State.toGrant (d i line r : Nat) (why : SnoopFor) (t : Step) (fromExcl : Bool) (snoops : List (Nat × Nat))
    (excl : Bool) (s : State) : State :=
  let s := s.modTx fun x => { x with steps := x.steps.del i }
  let s := s.openGrant d line r why (some t.pkt) fromExcl snoops
  s.grantLine d line r excl

/-- A coherence request at the home (R213, R214, Table CH-5). -/
def State.coherence (d i : Nat) (t : Step) (x : Extent) (s : State) : State :=
  match s.coh.look d with
  | none => s
  | some dm =>
    let h := t.pkt.hdr
    let line := h.addr / 128
    match dm.agents.findKey fun _ a => a.node == h.src with
    | none => (s.bumpDom d Reg.CHCNT_NOT_AGENT).finishStep i St.INVALID_PARAM []
    | some r =>
      if dm.lineBusy line || s.readAhead i t.comp line then s.modStep i fun t => { t with wait := .snoop }
      else
        let entry := dm.dir.look line
        let full := entry.isNone && decide (dm.onchip + dm.overflow ≤ dm.dir.length)
        let blocked (l : List Nat) : Bool := !(l.all fun a => dm.canSnoop line a)
        let hold : State := s.modStep i fun t => { t with wait := .snoop }
        let lost (s : State) : State := (s.bumpDom d Reg.CHCNT_UPGRADE_LOST).finishStep i St.UPGRADE_LOST []
        match t.pkt.opcode with
        | 0x42 =>
          match entry with
          | some y =>
            if y.state = .excl ∧ y.owner = r then s.finishStep i St.OK []
            else if y.state = .shared ∧ y.sharers.getLsbD r then
              let others := y.holders.filter (· != r)
              if others.isEmpty then (s.grantLine d line r true).finishStep i St.OK []
              else if blocked others then hold
              else s.toGrant d i line r .upgrade t false (others.map fun a => (a, 0)) true
            else lost s
          | none => lost s
        | 0x43 =>
          match entry with
          | some y =>
            if y.state = .excl ∧ y.owner = r then
              if !t.ready then
                let items := s.itemsFor x ((h.addr - x.base) / 32768) true
                let s := s.askTier i items true
                if items.isEmpty then s else s
              else
                let s := s.writeBytes t.extent (h.addr - x.base) t.pkt.data
                (s.modDom d fun z => { z with dir := z.dir.del line }).finishStep i St.OK []
            else (s.bumpDom d Reg.CHCNT_STALE_WB).finishStep i St.OK []
          | none => (s.bumpDom d Reg.CHCNT_STALE_WB).finishStep i St.OK []
        | 0x44 =>
          match entry with
          | some y =>
            let s :=
              if y.state = .excl ∧ y.owner = r then s.modDom d fun z => { z with dir := z.dir.del line }
              else if y.state = .shared ∧ y.sharers.getLsbD r then
                let sh := y.sharers &&& ~~~(agentBit r)
                s.modDom d fun z => { z with
                  dir := if sh = 0 then z.dir.del line
                    else z.dir.put line { y with sharers := sh, owner := z.nearest sh } }
              else s
            s.finishStep i St.OK []
          | none => s.finishStep i St.OK []
        | op =>
          match entry with
          | none =>
            if full then
              -- room is made by recalling the oldest entry (R212)
              if dm.grants.any fun g => decide (g.why = .recall) then hold
              else match s.recallVictim dm with
                | some v =>
                  let s := s.bumpDom d Reg.CHCNT_RECALLS
                  (s.modStep i fun t => { t with wait := .snoop, dirCounted := true }).recallLine d 16 v
                | none =>
                  let s := if t.dirCounted then s else s.bumpDom d Reg.CHCNT_DIR_WAITS
                  s.modStep i fun t => { t with wait := .snoop, dirCounted := true }
            else s.memoryGrant d i r t x
          | some y =>
            match y.state with
            | .reclaimed => s.memoryGrant d i r t x
            | .shared =>
              if op = 0x40 then
                if y.owner = r ∨ y.sharers.getLsbD r then s.memoryGrant d i r t x
                else if blocked [y.owner] then hold
                else s.toGrant d i line r .readShared t false [(y.owner, 1)] false
              else
                let others := y.holders.filter (· != r)
                if others.isEmpty then s.memoryGrant d i r t x
                else if blocked others then hold
                else s.toGrant d i line r .readOwn t false (others.map fun a => (a, if a = y.owner then 2 else 0)) true
            | .excl =>
              if y.owner = r then s.memoryGrant d i r t x
              else if blocked [y.owner] then hold
              else if op = 0x40 then s.toGrant d i line r .readShared t true [(y.owner, 1)] false
              else s.toGrant d i line r .readOwn t true [(y.owner, 2)] true

/-- Stacks in self-refresh that hold T0 copies of leaves (R19). -/
def State.asleep (s : State) (x : Extent) (ls : List Nat) : List Nat :=
  (ls.filterMap fun l => ((x.chunkOf l).bind fun c => c.t0.look (l % 64)).map T0Leaf.stack).filter
    fun k => s.dev.hbmSr.getLsbD k

/-- An access starts the exit of stacks from self-refresh (R19). -/
def State.wakeStacks (l : List Nat) (s : State) : State :=
  s.modDev fun d => { d with hbmWaking := l.foldl (fun m k => m ||| BitVec.ofNat 8 (2 ^ k)) d.hbmWaking }

/-- Try one waiting step: its turn, its tier accesses, its extent's MAC, its snoops; then it is served. -/
def State.runStep (i : Nat) (s : State) : State :=
  match s.tx.steps.look i with
  | none => s
  | some t =>
    if !s.orderOpen t then s.modStep i fun t => { t with wait := .order }
    else match t.decided with
      | some st => s.finishStep i st []
      | none =>
        if !t.items.isEmpty then s.modStep i fun t => { t with wait := .tier }
        else match s.extent t.extent with
          | none => s.finishStep i St.EXTENT_REVOKED []
          | some x =>
            let asleep := s.asleep x (leavesOf (t.pkt.hdr.addr - x.base) (128 * (t.pkt.hdr.lines + 1)))
            if x.rekeying then s.modStep i fun t => { t with wait := .rekey }
            else if !asleep.isEmpty then (s.wakeStacks asleep).modStep i fun t => { t with wait := .stack }
            else if t.granted then
              let off := t.pkt.hdr.addr - x.base
              if x.poisoned off 128 then s.loseStep i
              else
                let b := s.readBytes t.extent off 128
                b.2.finishStep i St.OK b.1
            else match s.domainOf t.extent with
              | some d =>
                if cohOp t.pkt.opcode then s.coherence d i t x else s.plainCoherent d i t x
              | none => s.perform i t x

/-- Try every waiting step in the order of arrival, once for each of them and once more, so that a write that is applied
lets those behind it go on. -/
def State.sweep : Nat → State → State
  | 0, s => s
  | n + 1, s => State.sweep n (s.tx.steps.keys.foldl (fun s i => s.runStep i) s)

/-- Let every step that can go on do so. -/
def State.settle (s : State) : State := s.sweep (2 * s.tx.steps.length + 2)

/-- Put a step in the list of those that wait, and try it. -/
def State.addStep (t : Step) (s : State) : Nat × State :=
  let i := s.tx.nextStep
  (i, s.modTx fun x => { x with steps := x.steps.put i t, nextStep := i + 1 })

/-! ### Grants completing -/

/-- The last snoop of a grant is answered (R214, R215, R216): the request behind it goes on. -/
def State.completeGrant (d : Nat) (g : Grant) (s : State) : State :=
  let s := s.modDom d fun x => { x with grants := x.grants.filter fun q => q.id != g.id }
  match g.why, g.pkt with
  | .plain i, _ =>
    let load := (s.tx.steps.look i).any fun t => t.pkt.opcode == 0x01
    let s := if load then s else s.modDom d fun x => { x with dir := x.dir.del g.line }
    let s := if g.reclaimed then
        (s.modStep i fun t => { t with reclaimed := true }).bumpDom d Reg.CHCNT_RECLAIMED_SEEN else s
    s
  | .recall, _ =>
    s.modDom d fun x => { x with
      dir := match x.dir.look g.line with
        | none => x.dir
        | some y =>
          let sh := y.sharers &&& ~~~(agentBit g.agent)
          if g.agent < 16 ∧ y.state = .shared ∧ sh ≠ 0 then
            x.dir.put g.line { y with sharers := sh, owner := x.nearest sh }
          else x.dir.del g.line }
  | _, none => s
  | .upgrade, some p =>
    let s := if g.reclaimed then s.bumpDom d Reg.CHCNT_RECLAIMED_SEEN else s
    s.respond p.opcode p.hdr (if g.reclaimed then St.RECLAIMED else St.OK) []
  | _, some p =>
    let s := if g.reclaimed then s.bumpDom d Reg.CHCNT_RECLAIMED_SEEN else s
    if !g.data.isEmpty then s.respond p.opcode p.hdr (if g.reclaimed then St.RECLAIMED else St.OK) g.data
    else match (s.coh.look d).bind fun x => x.extents.find? fun e => (s.extent e).any fun y =>
        decide (y.base ≤ p.hdr.addr ∧ p.hdr.addr < y.base + y.size) with
      | none => s
      | some e =>
        let h := ((s.coh.look d).map Domain.comp).getD 0
        let ep := ((s.comp h).map Comp.epoch).getD 0
        let t : Step := { pkt := p, comp := h, extent := e, epoch := ep, wait := .tier, items := [], decided := none,
                          granted := true, ready := true, dirCounted := false, firstStall := none,
                          causes := [], reclaimed := g.reclaimed }
        let r := s.addStep t
        match s.extent e with
        | some x => r.2.askTier r.1 (s.itemsFor x ((p.hdr.addr - x.base) / 32768) false) false
        | none => r.2

/-- Agent `a` answers its oldest snoop of a kind for a line (Table CH-3): the data it returns is written to memory before
anything is granted (R215), and a mark of silence is taken off (R219). `fromHome` answers in its place (R220). -/
def State.answerSnoop (d a line : Nat) (kind : Option Nat) (data : List Byte) (fromHome : Bool) (s : State) : State :=
  match s.coh.look d with
  | none => s
  | some x =>
    match x.snoops.find? fun q => q.line == line && q.agent == a && kind.all fun k => q.kind == k with
    | none => s
    | some q =>
      let s := match x.extents.find? fun e => (s.extent e).any fun y =>
          decide (y.base ≤ 128 * line ∧ 128 * line < y.base + y.size) with
        | some e => if data.isEmpty then s else match s.extent e with
          | some y => s.writeBytes e (128 * line - y.base) data
          | none => s
        | none => s
      let node := ((x.agents.look a).map Agent.node).getD 0
      let s := s.modTx fun z => { z with own := match z.own.findKey fun _ o =>
          o.purpose == 3 && o.object == line && o.pkt.hdr.dst == node && o.pkt.opcode == 0x50 + q.kind with
        | some tag => z.own.del tag
        | none => z.own }
      let s := s.modDom d fun x => { x with
        snoops := x.snoops.erase q
        dir := x.dir.change line fun y => { y with fwdOpen := y.fwdOpen - 1 }
        agents := if fromHome then x.agents else x.agents.change a fun g => { g with unresponsive := false }
        grants := x.grants.map fun g =>
          if g.id = q.grant then { g with
            waiting := g.waiting - 1
            data := if data.isEmpty then g.data else data
            reclaimed := g.reclaimed || fromHome } else g }
      let s := match (s.coh.look d).bind fun x => x.grants.find? fun g => g.id == q.grant && g.waiting == 0 with
        | some g => s.completeGrant d g
        | none => s
      s.settle

/-- Reclaim an agent's lines without snooping (R220): its EXCL entries, and the lines whose ownership a snoop was still
fetching from it, become RECLAIMED; it leaves every list of sharers; its open snoops are answered from memory. -/
def State.reclaimAgent (d a : Nat) (s : State) : State × Nat :=
  match s.coh.look d with
  | none => (s, 0)
  | some x =>
    let excl := (x.dir.filter fun q => decide (q.2.state = .excl) && q.2.owner == a).map Prod.fst
    let fetched := (x.snoops.filter fun q => q.agent == a && x.grants.any fun g => g.id == q.grant && g.fromExcl).map Snoop.line
    let lines := (excl ++ fetched).eraseDups
    let s := s.modDom d fun x => { x with
      cnt := addCtr x.cnt Reg.CHCNT_RECLAIMED_LINES lines.length
      grants := x.grants.filter fun g => !(g.agent == a && g.pkt.isSome)
      dir := (x.dir.each fun _ y =>
        if y.state = .excl ∧ y.owner = a then { y with state := .reclaimed, sharers := 0, owner := 0 }
        else if y.state = .shared then
          let sh := y.sharers &&& ~~~(agentBit a)
          { y with sharers := sh, owner := x.nearest sh }
        else y).keep fun _ y => !(decide (y.state = .shared) && decide (y.sharers = 0)) }
    let s := (x.snoops.filter fun q => q.agent == a).foldl (fun s q => s.answerSnoop d a q.line (some q.kind) [] true) s
    let s := s.modDom d fun x => { x with agents := x.agents.del a }
    (s.settle, lines.length)

/-- Free the directory entries of an extent without snooping (R222). -/
def State.freeExtentLines (e : Nat) (s : State) : State :=
  match s.extent e, s.domainOf e with
  | some x, some d => s.modDom d fun dm => { dm with
      dir := dm.dir.keep fun line _ => !decide (x.base ≤ 128 * line ∧ 128 * line < x.base + x.size) }
  | _, _ => s

end Sys2Proof.Machine
end

