-- ==== Sys2Proof/Machine/Ingress.lean ====
section
/-! DEFINITION. A GFP packet at its ingress port: steps 1 to 6 of R22, with the checks of R182 to R186, the binding of
R193, the windows and duplicates of R197 and R198, and the epoch of R194. -/

namespace Sys2Proof.Machine

/-! ### Format (R182, R184, R185) -/

/-- LENGTH, LINES and alignment of a request (Table TX-2, R185); a 32-bit atomic uses half of each operand (R186). -/
def requestShape (op : Nat) (h : Hdr) (d : List Byte) : Bool :=
  decide (h.length = d.length) &&
  (if op = 0x01 then decide (h.length = 0 ∧ h.addr % 128 = 0)
   else if op = 0x02 then decide (h.length = (h.lines + 1) * 128 ∧ h.addr % 128 = 0)
   else if 0x10 ≤ op ∧ op ≤ 0x19 then
     decide (h.length = 16 ∧ h.lines = 0 ∧ h.addr % (if op % 2 = 0 then 4 else 8) = 0)
       && (op % 2 == 1 || (leAt d 4 4 == 0 && leAt d 12 4 == 0))
       && (decide ((op - 0x10) / 2 = 2) || leAt d 8 8 == 0)
   else if op = 0x20 then
     decide (h.lines = 0 ∧ 8 ≤ h.length ∧ leAt d 4 2 ≤ 64 ∧ h.length = 8 + 2 * leAt d 4 2)
       && leAt d 3 1 == 0 && leAt d 6 2 == 0
       && (List.range (leAt d 4 2)).all fun i => decide (leAt d (8 + 2 * i) 2 < 4096)
   else if op = 0x30 then
     decide (h.lines = 0) && decide (h.length = if leAt d 0 1 = 0x13 then 64 + leAt d 40 2 else 256)
   else if op = 0x43 then decide (h.length = 128 ∧ h.lines = 0 ∧ h.addr % 128 = 0)
   else if 0x40 ≤ op ∧ op ≤ 0x44 then decide (h.length = 0 ∧ h.lines = 0 ∧ h.addr % 128 = 0)
   else false)

/-- Step 2 of R22 for a request: reserved fields and STATUS zero, RELEASE on write-class only, and the shape; a snoop to
this K9, or from an ACCEL port, is a reserved opcode (R184). -/
def State.formatOk (s : State) (l : LPort) (op : Nat) (h : Hdr) (d : List Byte) : Bool :=
  h.resv == 0 && h.status == 0 && (!h.release || writeClass op) &&
  (if 0x50 ≤ op ∧ op ≤ 0x52 then
     decide (l.role ≠ .accel) && h.dst != s.topo.node && decide (h.length = 0 ∧ h.lines = 0)
   else requestShape op h d)

/-! ### Arrival -/

/-- Spill of a composition's contributions to reduces, bytes (R124). -/
def State.redSpill (s : State) (c : Nat) : Nat := sumOf s.work.ops.vals fun x => if x.comp = c then x.spilled else 0

/-- Is the composition of a port at one of the spill limits of R124 and R232? -/
def State.spillHeld (s : State) (lp : Nat) (reduce : Bool) : Bool :=
  match s.boundTo lp with
  | none => false
  | some (h, _) =>
    s.sw.ovfHeld.contains h
      || (reduce && decide (s.field Reg.COLL_SPILL_LIMIT 15 0 * 1048576 ≤ s.redSpill h) && decide (0 < s.redSpill h))

/-- Does the K9 withhold the credits of a VC at a port: the list that follows Table SW-2? -/
def State.withholds (s : State) (lp vc : Nat) : Bool :=
  if vc = 4 then s.dev.creditsWithheld
  else if 4 < vc then false
  else
    s.sw.ovfFull0 || s.sw.ovfFull1
      || (vc == 0 && (s.dev.creditsWithheld || decide (s.dev.state = .faulted) || decide (65536 ≤ s.memInflight)
          || s.spillHeld lp true))
      || (vc == 1 && s.spillHeld lp false)

/-- The credit totals of a port take up the cells freed on every VC whose credits are not withheld (R260). -/
def State.announce (lp : Nat) (s : State) : State :=
  s.modPort lp fun l => (List.range 8).foldl (fun (l : LPort) vc =>
    if l.owed.num vc = 0 ∨ s.withholds lp vc then l
    else { l with retTotal := l.retTotal.put vc ((l.retTotal.num vc + l.owed.num vc) % 8192), owed := l.owed.del vc }) l

/-- The credit totals of every port: a changed total is sent within 32 FABRIC cycles (R260). -/
def State.announceAll (s : State) : State :=
  (s.links.filter fun p => !p.2.owed.isEmpty).foldl (fun s p => s.announce p.1) s

/-- The packet leaves its port's ingress buffer and its cells' credits go back (R228, R258). -/
def State.takeIngress (p : Packet) (s : State) : State :=
  (s.modPort p.hdr.lport fun l =>
    if l.ingress.contains p then { l with
      ingress := l.ingress.erase p
      owed := l.owed.put (vcOf p.opcode) (l.owed.num (vcOf p.opcode) + p.cells) }
    else l).announce p.hdr.lport

/-- The composition a request belongs to by its port (R193): at an ACCEL port SRC_NODE and COMP_ID are those bound to it,
at a PEER port COMP_ID is one this K9 holds. -/
def State.bindingOf (s : State) (l : LPort) (h : Hdr) : Option Nat :=
  match l.role with
  | .accel =>
    match s.boundTo h.lport with
    | some (c, m) => if m.node = h.src ∧ (s.comp c).any (fun x => x.compId == h.compId) then some c else none
    | none => none
  | .peer => s.handleOf h.compId
  | _ => none

/-- A member's request renews its lease (R289), unless the lease has lapsed already. -/
def State.renewMember (c lp : Nat) (s : State) : State :=
  s.modComp c fun x => { x with members := x.members.map fun m =>
    if m.lport = lp ∧ !m.lapsed then { m with leaseEnd := s.clk.timeNs + 1000000 * x.memberLeaseMs } else m }

/-- The next SRC_SEQ that a port has sent to a destination (chapter 08, FENCE). -/
def State.track (lp dst c seq : Nat) (s : State) : State :=
  let nx := (seq + 1) % 2 ^ 32
  let here (t : Track) : Bool := t.lport == lp && t.dst == dst && t.comp == c
  let up (t : Track) : Track := if here t ∧ seqDist nx t.next < 2 ^ 31 then { t with next := nx } else t
  let fresh : Track := { lport := lp, dst := dst, comp := c, next := nx, acked := 0, above := [] }
  s.modTx fun x => { x with tracks := if x.tracks.any here then x.tracks.map up else x.tracks ++ [fresh] }

/-- A segment is never answered (R119). -/
def isSegment (p : Packet) : Bool := p.opcode == 0x30 && leAt p.data 0 1 == 0x13

/-- A request whose composition is known (step 3 of R22): it renews its member's lease, RETRY is counted, an ACCEL port's
write is tracked for FENCE, and a request for another node leaves. -/
def State.admitRequest (l : LPort) (p : Packet) (c : Nat) (s : State) : State × Option Nat :=
  let h := p.hdr
  let s := if l.role = Role.accel then s.renewMember c h.lport else s
  let s := if h.retry then s.bumpComp c Reg.TX_CNT_RETRY_SEEN else s
  let s := if l.role = Role.accel ∧ writeClass p.opcode then s.track h.lport h.dst c h.seq else s
  if h.dst = s.topo.node then (s, some c) else (s.route p none, none)

/-- Count a request that steps 2 or 3 of R22 turn away, and answer it. -/
def State.turnAway (p : Packet) (a st : Nat) (s : State) : State × Option Nat :=
  let s := s.bump a
  (if isSegment p then s else s.respondBack p.opcode p.hdr st, none)

/-- Steps 1 to 3 of R22 for a request taken from the buffer of a port. -/
def State.checkRequest (l : LPort) (p : Packet) (s : State) : State × Option Nat :=
  let h := p.hdr
  if l.role = Role.analysis then (s.bumpPort h.lport Reg.LK_CNT_RX_DISCARD, none)
  else if h.crc ≠ h.goodCrc p.opcode then (s.bump Reg.TX_CNT_HDR_CRC, none)
  else if l.role = Role.tray then (s.bump Reg.TX_CNT_BINDING, none)
  else if !s.topo.assigned then (s.bump Reg.TP_CNT_NO_ROUTE, none)
  else if !s.formatOk l p.opcode h p.data then s.turnAway p Reg.TX_CNT_MALFORMED St.INVALID_PARAM
  else match s.bindingOf l h with
    | none => s.turnAway p Reg.TX_CNT_BINDING St.NOT_BOUND
    | some c => s.admitRequest l p c

/-- Steps 1 to 3 of R22 for a request: the composition's handle when it may go on, else what became of it. -/
def State.ingress (p : Packet) (s : State) : State × Option Nat :=
  match s.links.look p.hdr.lport with
  | none => (s, none)
  | some l =>
    if !s.portRuns p.hdr.lport then (s, none)
    else ((s.mirror p.hdr.lport false p).takeIngress p).checkRequest l p

/-! ### Steps 4 to 6 -/

/-- The full epoch a request was sent under (R194), or none. -/
def State.epochFor (s : State) (c e : Nat) : Option Nat :=
  (s.comp c).bind fun x =>
    if x.epoch % 256 = e then some x.epoch
    else if x.windowEnd.isSome ∧ (x.epoch + 2 ^ 32 - 1) % 256 = e then some ((x.epoch + 2 ^ 32 - 1) % 2 ^ 32)
    else none

/-- Step 5: the extent a range falls in, under the map of an epoch: the present one, or that of the drain window (R292). -/
def State.mapExtent (s : State) (c epoch a n : Nat) : Option Nat :=
  match s.comp c with
  | none => none
  | some x =>
    if x.epoch = epoch then (s.findExtent c a n).map Prod.fst
    else (x.prevMap.find? fun q => decide (q.2.1 ≤ a ∧ a + n ≤ q.2.1 + q.2.2)).map Prod.fst

/-- Bytes a request covers. -/
def requestBytes (op : Nat) (h : Hdr) : Nat :=
  if op ≤ 0x02 then (h.lines + 1) * 128 else if 0x10 ≤ op ∧ op ≤ 0x19 then (if op % 2 = 0 then 4 else 8) else 128

/-- Step 6, and the refusals of step 7 that need no tier: the status a request fails with, if any. -/
def State.extentRefuses (s : State) (op c e : Nat) (h : Hdr) : Option Nat :=
  match s.extent e with
  | none => some St.EXTENT_REVOKED
  | some x =>
    if x.comp ≠ c ∨ x.state = .revoking ∨ x.state = .revoked ∨ x.state = .held then some St.EXTENT_REVOKED
    else
      let changes := writeClass op || (decide (0x41 ≤ op ∧ op ≤ 0x43))
      if changes && (decide (x.state = .sealed) || x.sealer.isSome) then some St.READ_ONLY
      else if 0x10 ≤ op ∧ op ≤ 0x19 ∧ x.vq then some St.LAYOUT_MISMATCH
      else if writeClass op && x.tier.isT2
          && (leavesOf (h.addr - x.base) (requestBytes op h)).any fun l =>
            (x.chunkOf l).any fun k => decide ((s.tray k.tray).state = .worn) then some St.READ_ONLY
      else none

/-- A step for a request. -/
def newStep (p : Packet) (c e epoch : Nat) (decided : Option Nat) : Step where
  pkt := p
  comp := c
  extent := e
  epoch := epoch
  wait := .order
  items := []
  decided := decided
  granted := false
  ready := false
  dirCounted := false
  firstStall := none
  causes := []
  reclaimed := false

/-- A request that has passed step 6: its tier accesses are asked for, and it is served when its gates are open. -/
def State.serve (p : Packet) (c e epoch : Nat) (s : State) : State :=
  let r := s.addStep (newStep p c e epoch none)
  let s := r.2
  match s.extent e with
  | none => s.settle
  | some x =>
    if cohOp p.opcode then s.settle
    else
      let off := p.hdr.addr - x.base
      let w := writeClass p.opcode
      (s.askTier r.1 ((leavesOf off (requestBytes p.opcode p.hdr)).flatMap fun l => s.itemsFor x l w) w).settle

/-- A request that fails: at once, or for a write-class one in its place in SRC_SEQ order (R294). -/
def State.refuse (p : Packet) (c st : Nat) (s : State) : State :=
  if writeClass p.opcode then ((s.addStep (newStep p c 0 0 (some st))).2).settle
  else s.respond p.opcode p.hdr st []

/-- Steps 5 and 6 of R22, and service. -/
def State.translate (p : Packet) (c epoch : Nat) (s : State) : State :=
  match s.mapExtent c epoch p.hdr.addr (requestBytes p.opcode p.hdr) with
  | none => (s.bumpComp c Reg.POOL_CNT_OUT_OF_EXTENT).refuse p c St.OUT_OF_EXTENT
  | some e =>
    match s.extentRefuses p.opcode c e p.hdr with
    | some st =>
      let worn := (s.extent e).any fun x => decide (x.state = .active) && x.sealer.isNone
      let s := if st = St.READ_ONLY ∧ worn then
          match (s.extent e).bind fun x => (x.chunkOf ((p.hdr.addr - x.base) / 32768)) with
          | some k => s.bumpTray k.tray Reg.FLASH_CNT_WORN_REFUSED
          | none => s
        else s
      s.refuse p c st
    | none => s.serve p c e epoch

/-- Step 4 for a write-class request: its window and the duplicate test (R197, R198). The state when it ends there. -/
def State.dedup (p : Packet) (c : Nat) (s : State) : Option State :=
  let h := p.hdr
  match s.pair h.src c with
  | none =>
    if 65536 ≤ s.tx.pairs.length then some (s.respond p.opcode h St.NO_CAPACITY [])
    else if 4096 ≤ h.seq ∧ h.seq < 2 ^ 31 then some ((s.bumpComp c Reg.TX_CNT_WINDOW).respond p.opcode h St.INVALID_PARAM [])
    else if 2 ^ 31 ≤ h.seq then
      let s := s.bumpComp c Reg.TX_CNT_DUPLICATES
      some (if p.opcode = 0x02 then s.respond p.opcode h St.OK []
        else (s.bumpComp c Reg.TX_CNT_RETRY_EXPIRED).respond p.opcode h St.RETRY_EXPIRED [])
    else none
  | some q =>
    let d := seqDist h.seq q.low
    if 4096 ≤ d ∧ d < 2 ^ 31 then some ((s.bumpComp c Reg.TX_CNT_WINDOW).respond p.opcode h St.INVALID_PARAM [])
    else if 2 ^ 31 ≤ d ∨ q.applied.contains h.seq then
      let s := s.bumpComp c Reg.TX_CNT_DUPLICATES
      if p.opcode = 0x02 then some (s.respond p.opcode h St.OK [])
      else match q.saved.find? fun v => v.seq == h.seq && decide (s.clk.timeNs < v.until_) with
        | some v => some (s.respond v.opcode h v.status v.data)
        | none => some ((s.bumpComp c Reg.TX_CNT_RETRY_EXPIRED).respond p.opcode h St.RETRY_EXPIRED [])
    else if s.tx.steps.any fun t => t.2.comp == c && t.2.pkt.hdr.src == h.src && t.2.pkt.hdr.seq == h.seq
        && writeClass t.2.pkt.opcode then some (s.bumpComp c Reg.TX_CNT_DUPLICATES)
    else none

/-- The pair entry of a write-class request comes into being with its first (R197). -/
def State.openPair (src c : Nat) (s : State) : State :=
  if (s.pair src c).isSome then s
  else s.modTx fun x => { x with pairs := x.pairs ++ [{ src := src, comp := c, low := 0, applied := [], saved := [] }] }

/-- Step 4's epoch, then the rest (R194). -/
def State.afterDedup (p : Packet) (c : Nat) (s : State) : State :=
  match s.epochFor c p.hdr.epoch with
  | none => (s.bumpComp c Reg.TX_CNT_STALE_EPOCH).refuse p c St.STALE_EPOCH
  | some e => s.translate p c e

/-- A LOAD, STORE or atomic that arrives (R22). -/
def State.request (p : Packet) (s : State) : State :=
  let r := s.ingress p
  match r.2 with
  | none => r.1
  | some c =>
    if writeClass p.opcode then
      match r.1.dedup p c with
      | some s => s
      | none => (r.1.openPair p.hdr.src c).afterDedup p c
    else r.1.afterDedup p c

/-! ### Coherence requests at the home (R208, R218) -/

/-- Is a coherence request of the same agent and line still open (R218)? -/
def State.lineOpen (s : State) (p : Packet) (c : Nat) : Bool :=
  let same (q : Packet) : Bool := cohOp q.opcode && q.hdr.src == p.hdr.src && q.hdr.addr == p.hdr.addr
  (s.tx.steps.any fun t => t.2.comp == c && same t.2.pkt)
    || s.coh.vals.any fun d => d.comp == c && d.grants.any fun g => g.pkt.any same

/-- A coherence request: steps 1 to 6 of R22, then its agent and domain (R208). -/
def State.cohRequest (p : Packet) (s : State) : State :=
  let r := s.ingress p
  let s := r.1
  match r.2 with
  | none => s
  | some c =>
    match s.epochFor c p.hdr.epoch with
    | none => (s.bumpComp c Reg.TX_CNT_STALE_EPOCH).respond p.opcode p.hdr St.STALE_EPOCH []
    | some ep =>
      match s.mapExtent c ep p.hdr.addr 128 with
      | none => (s.bumpComp c Reg.POOL_CNT_OUT_OF_EXTENT).respond p.opcode p.hdr St.OUT_OF_EXTENT []
      | some e =>
        match s.extentRefuses 0x01 c e p.hdr with
        | some st => s.respond p.opcode p.hdr st []
        | none =>
          match s.domainOf e with
          | none => (s.bump Reg.TX_CNT_MALFORMED).respond p.opcode p.hdr St.INVALID_PARAM []
          | some d =>
            if !((s.coh.look d).any fun x => x.agents.vals.any fun a => a.node == p.hdr.src) then
              (s.bumpDom d Reg.CHCNT_NOT_AGENT).respond p.opcode p.hdr St.INVALID_PARAM []
            else match s.extentRefuses p.opcode c e p.hdr with
              | some st => s.respond p.opcode p.hdr st []
              | none =>
                if s.lineOpen p c then
                  if p.hdr.retry then s else s.respond p.opcode p.hdr St.INVALID_PARAM []
                else s.serve p c e ep

end Sys2Proof.Machine
end

