-- ==== Sys2Proof/Machine/Float.lean ====
section
/-! DEFINITION. The floating-point formats of Table PS-13 (R437), and arithmetic on them: operands are read exactly,
computed exactly, and rounded once, to nearest even. Every NaN written is the canonical one. -/

namespace Sys2Proof

/-- A format: exponent bits, mantissa bits, bias; `e4m3` has no infinity and one NaN pair. -/
structure Fmt where
  ebits : Nat
  mbits : Nat
  bias : Int
  e4m3 : Bool
deriving DecidableEq, Repr

def Fmt.fp32 : Fmt := ⟨8, 23, 127, false⟩
def Fmt.bf16 : Fmt := ⟨8, 7, 127, false⟩
def Fmt.fp16 : Fmt := ⟨5, 10, 15, false⟩
def Fmt.e5m2 : Fmt := ⟨5, 2, 15, false⟩
def Fmt.fp8 : Fmt := ⟨4, 3, 7, true⟩

/-- Bytes of an element. -/
def Fmt.bytes (f : Fmt) : Nat := (1 + f.ebits + f.mbits) / 8

/-- A value read: a NaN, an infinity, or plus or minus `m` times 2 to the `e`. -/
inductive FVal where
  | nan
  | inf (neg : Bool)
  | fin (neg : Bool) (m : Nat) (e : Int)
deriving DecidableEq, Repr

/-- Read an encoding. -/
def Fmt.decode (f : Fmt) (v : Nat) : FVal :=
  let neg := v / 2 ^ (f.ebits + f.mbits) % 2 = 1
  let e := v / 2 ^ f.mbits % 2 ^ f.ebits
  let m := v % 2 ^ f.mbits
  if e = 2 ^ f.ebits - 1 ∧ !f.e4m3 then (if m = 0 then .inf neg else .nan)
  else if f.e4m3 ∧ e = 15 ∧ m = 7 then .nan
  else if e = 0 then .fin neg m (1 - f.bias - f.mbits)
  else .fin neg (2 ^ f.mbits + m) ((e : Int) - f.bias - f.mbits)

/-- Drop `k` low bits of `m`, rounding to nearest even; `sticky` says that something below is lost already. -/
def rneShift (m k : Nat) (sticky : Bool) : Nat :=
  if k = 0 then m
  else
    let q := m / 2 ^ k
    let r := m % 2 ^ k
    let half := 2 ^ (k - 1)
    if half < r ∨ (r = half ∧ (sticky ∨ q % 2 = 1)) then q + 1 else q

/-- The canonical NaN of a format (Table PS-13). -/
def Fmt.nan (f : Fmt) : Nat :=
  if f.e4m3 then 0x7F else (2 ^ f.ebits - 1) * 2 ^ f.mbits + 2 ^ (f.mbits - 1)

/-- The encoding of the largest finite magnitude. -/
def Fmt.maxFinite (f : Fmt) : Nat :=
  if f.e4m3 then 0x7E else (2 ^ f.ebits - 2) * 2 ^ f.mbits + (2 ^ f.mbits - 1)

/-- The sign bit. -/
def Fmt.sign (f : Fmt) (neg : Bool) : Nat := b2n neg * 2 ^ (f.ebits + f.mbits)

/-- Does conversion to the format saturate (FP8, R437)? -/
def Fmt.saturates (f : Fmt) : Bool := f.bytes == 1

/-- The encoding of an infinite magnitude: infinity, or the largest finite value where conversion saturates. -/
def Fmt.over (f : Fmt) : Nat := if f.saturates then f.maxFinite else (2 ^ f.ebits - 1) * 2 ^ f.mbits

/-- Round `m` times 2 to the `e` (with `sticky` for a lost tail below) to a magnitude encoding. -/
def Fmt.roundMag (f : Fmt) (m : Nat) (e : Int) (sticky : Bool) : Nat :=
  if m = 0 then 0
  else
    let lo : Int := 1 - f.bias - f.mbits
    -- exponent of the unit of the result: normal numbers keep mbits + 1 bits
    let top : Int := (Nat.log2 m : Int) + e
    let u : Int := max lo (top - f.mbits)
    let q := if u ≤ e then m * 2 ^ (e - u).toNat else rneShift m (u - e).toNat sticky
    -- q may have grown to 2 ^ (mbits + 1): then the encoding below carries into the exponent by itself
    let enc := if q < 2 ^ f.mbits then q else (u - lo).toNat * 2 ^ f.mbits + q
    if f.maxFinite < enc then f.over else enc

/-- Round a value to an encoding. -/
def Fmt.encode (f : Fmt) (x : FVal) : Nat :=
  match x with
  | .nan => f.nan
  | .inf neg => f.sign neg + f.over
  | .fin neg m e => f.sign neg + f.roundMag m e false

/-- The exact sum of two finite values, or what IEEE 754 gives for the others. -/
def FVal.add (a b : FVal) : FVal :=
  match a, b with
  | .nan, _ => .nan
  | _, .nan => .nan
  | .inf s, .inf t => if s = t then .inf s else .nan
  | .inf s, _ => .inf s
  | _, .inf t => .inf t
  | .fin s m e, .fin t n g =>
    let u := min e g
    let x : Int := (if s then -1 else 1) * (m * 2 ^ (e - u).toNat : Nat)
    let y : Int := (if t then -1 else 1) * (n * 2 ^ (g - u).toNat : Nat)
    if x + y = 0 then .fin (s && t) 0 u
    else .fin (decide (x + y < 0)) (x + y).natAbs u

/-- The exact product. -/
def FVal.mul (a b : FVal) : FVal :=
  match a, b with
  | .nan, _ => .nan
  | _, .nan => .nan
  | .inf s, .inf t => .inf (s != t)
  | .inf s, .fin t n _ => if n = 0 then .nan else .inf (s != t)
  | .fin s m _, .inf t => if m = 0 then .nan else .inf (s != t)
  | .fin s m e, .fin t n g => .fin (s != t) (m * n) (e + g)

/-- The negated value. -/
def FVal.neg : FVal → FVal
  | .nan => .nan
  | .inf s => .inf !s
  | .fin s m e => .fin (!s) m e

/-- The value as a signed integer times 2 to the `u`, for a finite value with exponent at least `u`. -/
def FVal.at (u : Int) : FVal → Int
  | .fin s m e => (if s then -1 else 1) * (m * 2 ^ (e - u).toNat : Nat)
  | _ => 0

/-- Is `a` less than `b` in the order of R122, where -0 ranks below +0? -/
def FVal.lt (a b : FVal) : Bool :=
  match a, b with
  | .nan, _ => false
  | _, .nan => false
  | .inf s, .inf t => s && !t
  | .inf s, _ => s
  | _, .inf t => !t
  | .fin s m e, .fin t n g =>
    let u := min e g
    let x := FVal.at u (.fin s m e)
    let y := FVal.at u (.fin t n g)
    decide (x < y) || (decide (x = y) && m == 0 && s && !t)

/-- A single-precision value as an encoding: FP32 addition, nearest even. -/
def f32add (a b : Nat) : Nat := Fmt.fp32.encode ((Fmt.fp32.decode a).add (Fmt.fp32.decode b))

/-- FP32 multiplication, nearest even. -/
def f32mul (a b : Nat) : Nat := Fmt.fp32.encode ((Fmt.fp32.decode a).mul (Fmt.fp32.decode b))

/-- FP32 maximum (R122): the left of equal operands, a NaN operand gives the canonical NaN. -/
def f32max (a b : Nat) : Nat :=
  let x := Fmt.fp32.decode a
  let y := Fmt.fp32.decode b
  if x = .nan ∨ y = .nan then Fmt.fp32.nan else if x.lt y then b else a

/-- FP32 minimum (R122). -/
def f32min (a b : Nat) : Nat :=
  let x := Fmt.fp32.decode a
  let y := Fmt.fp32.decode b
  if x = .nan ∨ y = .nan then Fmt.fp32.nan else if y.lt x then b else a

/-- INT32 maximum and minimum, two's complement; the left of equal operands. -/
def i32less (a b : Nat) : Bool :=
  let s (v : Nat) : Int := if v < 2147483648 then (v : Int) else (v : Int) - 4294967296
  decide (s a < s b)

/-- The element formats of Tables CO-4 and MT-7. -/
def elemFmt (code : Nat) : Option Fmt :=
  if code = 0 then some .bf16 else if code = 1 then some .fp16 else if code = 2 then some .fp32 else none

/-- Bytes of an element: BF16, FP16, FP32, INT32. -/
def elemBytes (code : Nat) : Nat := if code ≤ 1 then 2 else 4

/-- An element widened exactly to FP32, or an INT32 as it is. -/
def widen (code v : Nat) : Nat :=
  match elemFmt code with
  | some f => Fmt.fp32.encode (f.decode v)
  | none => v

/-- A float result rounded to an output format, or an INT32 as it is. -/
def narrow (code v : Nat) : Nat :=
  match elemFmt code with
  | some f => f.encode (Fmt.fp32.decode v)
  | none => v

/-- One combining operation (R51, R121): 0 SUM, 1 MAX, 2 MIN, on FP32 or on INT32. -/
def combine (op code a b : Nat) : Nat :=
  if code = 3 then
    if op = 0 then (a + b) % 2 ^ 32 else if op = 1 then (if i32less a b then b else a) else (if i32less b a then b else a)
  else if op = 0 then f32add a b
  else if op = 1 then f32max a b
  else f32min a b

/-- The elements of a byte string, widened. -/
def elements (code : Nat) (b : List Byte) : List Nat :=
  (List.range (b.length / elemBytes code)).map fun i => widen code (leAt b (i * elemBytes code) (elemBytes code))

/-- Elements as bytes in a format. -/
def elementBytes (code : Nat) (l : List Nat) : List Byte := l.flatMap fun v => leBytes (elemBytes code) (narrow code v)

end Sys2Proof
end

