-- ==== Sys2Proof/Machine/Kernels.lean ====
section
/-! DEFINITION. What the engines compute, as functions of values alone: the R121 tree, exp and tanh rounded correctly
(R146), dot products over the free adder tree of R98, the partials of attention (R146, R147), the VQ block (R161 to
R172) and its encoding (R177), and predicate terms (R134). -/

namespace Sys2Proof

/-! ### The tree of R121 -/

/-- One level of the tree: pairs from the left, an odd member moves up unchanged. -/
def treeLevel {α : Type} (f : α → α → α) : List α → List α
  | a :: b :: t => f a b :: treeLevel f t
  | l => l

/-- The tree over a list; `fuel` is at least the number of levels. -/
def treeFold {α : Type} (f : α → α → α) (z : α) : Nat → List α → α
  | 0, l => l.headD z
  | n + 1, l => if l.length ≤ 1 then l.headD z else treeFold f z n (treeLevel f l)

/-- The tree of R121 over a list. -/
def tree {α : Type} (f : α → α → α) (z : α) (l : List α) : α := treeFold f z l.length l

/-! ### exp and tanh

The exact functions are computed in fixed point with 256 fraction bits, which is past every case that can lie near a
rounding boundary of binary32, and then rounded once. -/

/-- 2^256, one in fixed point. -/
def fixOne : Nat := 2 ^ 256

/-- The Taylor sum of exp from term `n` on, for a fixed-point `r` below 2^-8. -/
def expTail (r : Nat) : Nat → Nat → Nat → Nat
  | 0, _, _ => 0
  | k + 1, n, term => term + expTail r k (n + 1) (term * r / fixOne / (n + 1))

/-- Square a fixed-point number `k` times. -/
def squares : Nat → Nat → Nat
  | 0, v => v
  | k + 1, v => squares k (v * v / fixOne)

/-- exp of the non-negative fixed-point number `x`, in fixed point. -/
def expPos (x : Nat) : Nat := squares 16 (expTail (x / 2 ^ 16) 40 0 fixOne)

/-- A finite magnitude in fixed point. -/
def fixOf (m : Nat) (e : Int) : Nat := if 0 ≤ e + 256 then m * 2 ^ (e + 256).toNat else m / 2 ^ (-(e + 256)).toNat

/-- FP32 exp, correctly rounded. -/
def f32exp (v : Nat) : Nat :=
  match Fmt.fp32.decode v with
  | .nan => Fmt.fp32.nan
  | .inf neg => if neg then 0 else Fmt.fp32.over
  | .fin neg m e =>
    if m = 0 then 0x3F800000
    else
      let x := fixOf m e
      if 104 * fixOne < x then (if neg then 0 else Fmt.fp32.over)
      else if neg then Fmt.fp32.roundMag (fixOne * fixOne / expPos x) (-256) true
      else Fmt.fp32.roundMag (expPos x) (-256) true

/-- FP32 tanh, correctly rounded. -/
def f32tanh (v : Nat) : Nat :=
  match Fmt.fp32.decode v with
  | .nan => Fmt.fp32.nan
  | .inf neg => Fmt.fp32.sign neg + 0x3F800000
  | .fin neg m e =>
    if m = 0 then Fmt.fp32.sign neg
    else
      let x := fixOf m e
      if 20 * fixOne < x then Fmt.fp32.sign neg + 0x3F800000
      else
        let y := expPos (2 * x)
        Fmt.fp32.sign neg + Fmt.fp32.roundMag ((y - fixOne) * fixOne / (y + fixOne)) (-256) true

/-- Correctly rounded FP32 division. -/
def f32div (a b : Nat) : Nat :=
  match Fmt.fp32.decode a, Fmt.fp32.decode b with
  | .nan, _ => Fmt.fp32.nan
  | _, .nan => Fmt.fp32.nan
  | .inf _, .inf _ => Fmt.fp32.nan
  | .inf s, .fin t _ _ => Fmt.fp32.sign (s != t) + Fmt.fp32.over
  | .fin s _ _, .inf t => Fmt.fp32.sign (s != t)
  | .fin s m e, .fin t n g =>
    if n = 0 then (if m = 0 then Fmt.fp32.nan else Fmt.fp32.sign (s != t) + Fmt.fp32.over)
    else
      let q := m * 2 ^ 64 / n
      Fmt.fp32.sign (s != t) + Fmt.fp32.roundMag q (e - g - 64) (q * n != m * 2 ^ 64)

/-- FP32 fused multiply-add: acc + a * b, rounded once. -/
def f32fma (a b acc : Nat) : Nat :=
  Fmt.fp32.encode (((Fmt.fp32.decode a).mul (Fmt.fp32.decode b)).add (Fmt.fp32.decode acc))

/-- Is an FP32 encoding finite? -/
def f32finite (v : Nat) : Bool :=
  match Fmt.fp32.decode v with
  | .fin .. => true
  | _ => false

/-! ### Dot products (R98, R101) -/

/-- A dot product of two value lists: exact products, added by the fixed tree of R98, whose shape the spec leaves open
(Config.adderTree); a NaN or infinite operand gives what IEEE 754 gives in any order. -/
def dot (a b : List FVal) : Nat :=
  let ps := List.zipWith FVal.mul a b
  if ps.all fun p => match p with
      | .fin .. => true
      | _ => false
  then (Config.adderTree (ps.map fun p => match p with
      | .fin s m e => ((if s then -(m : Int) else (m : Int)), e)
      | _ => (0, 0))).toNat
  else Fmt.fp32.encode (ps.foldl FVal.add (.fin false 0 0))

/-! ### Attention (R146, R147) -/

/-- The partial of one query: M, L, tokens, whether NAN, and O. -/
structure Partial where
  m : Nat
  l : Nat
  n : Nat
  isNan : Bool
  o : List Nat
deriving DecidableEq, Repr

/-- Minus infinity. -/
abbrev negInf : Nat := 0xFF800000

/-- An empty partial of `d` elements (R147). -/
def Partial.empty (d : Nat) : Partial := { m := negInf, l := 0, n := 0, isNan := false, o := List.replicate d 0 }

/-- A record of NAN (R146). -/
def Partial.nan (d n : Nat) : Partial :=
  { m := Fmt.fp32.nan, l := Fmt.fp32.nan, n := n, isNan := true, o := List.replicate d Fmt.fp32.nan }

/-- The merge of R147. -/
def Partial.merge (a b : Partial) : Partial :=
  if a.isNan || b.isNan then Partial.nan a.o.length (a.n + b.n)
  else
    let m := f32max a.m b.m
    let w (v : Nat) : Nat := if v = m then 0x3F800000 else f32exp (f32add v (m ^^^ 0x80000000))
    let x := w a.m
    let y := w b.m
    { m := m
      l := f32add (f32mul a.l x) (f32mul b.l y)
      n := a.n + b.n
      isNan := false
      o := List.zipWith (fun p q => f32add (f32mul p x) (f32mul q y)) a.o b.o }

/-- The band accumulator from +0: fma of each weight and value, ascending. -/
def axpy (d : Nat) (l : List (Nat × List Nat)) : List Nat :=
  l.foldl (fun acc q => List.zipWith (fun v a => f32fma q.1 v a) q.2 acc) (List.replicate d 0)

/-- axpy_sum of R146: for D = 64 even and odd tokens apart, then added once. `l` holds (token, weight, value row). -/
def axpySum (d : Nat) (l : List (Nat × Nat × List Nat)) : List Nat :=
  if d = 64 then
    let part (r : Nat) := axpy d ((l.filter fun q => q.1 % 2 == r).map Prod.snd)
    List.zipWith f32add (part 0) (part 1)
  else axpy d (l.map Prod.snd)

/-- The score of a query against a key: for D = 256 two halves added once (R146). -/
def scoreOf (d : Nat) (q k : List FVal) : Nat :=
  if d = 256 then f32add (dot (q.take 128) (k.take 128)) (dot (q.drop 128) (k.drop 128)) else dot q k

/-- One quire of R146 for one query: the partial so far, the tokens' keys and values in ascending order. -/
def attendQuire (d scale softcap : Nat) (q : List FVal) (toks : List (Nat × List FVal × List Nat)) (p : Partial) : Partial :=
  if toks.isEmpty then p
  else
    let x (k : List FVal) : Nat :=
      let v := f32mul (scoreOf d q k) scale
      if softcap = 0 then v else f32mul softcap (f32tanh (f32div v softcap))
    let xs := toks.map fun t => (t.1, x t.2.1, t.2.2)
    if p.isNan || xs.any (fun t => !f32finite t.2.1) then Partial.nan d (p.n + toks.length)
    else
      let mn := xs.foldl (fun m t => f32max m t.2.1) p.m
      let a := if p.m = mn then 0x3F800000 else f32exp (f32add p.m (mn ^^^ 0x80000000))
      let ps := xs.map fun t => (t.1, f32exp (f32add t.2.1 (mn ^^^ 0x80000000)), t.2.2)
      let u := axpySum d ps
      { m := mn
        l := f32add (f32mul p.l a) (tree f32add 0 (ps.map fun t => t.2.1))
        n := p.n + toks.length
        isNan := false
        o := List.zipWith (fun o v => f32add (f32mul o a) v) p.o u }

/-- A partial record (Table AT-4). -/
def Partial.bytes (n : Nat) (p : Partial) : List Byte :=
  leBytes 4 p.m ++ leBytes 4 p.l ++ leBytes 4 n ++ leBytes 4 p.n
    ++ leBytes 1 (2 * b2n p.isNan + b2n (p.n == 0)) ++ leBytes 47 0 ++ p.o.flatMap (leBytes 4)

/-- A partial record read back. -/
def Partial.read (d : Nat) (b : List Byte) : Partial where
  m := leAt b 0 4
  l := leAt b 4 4
  n := leAt b 12 4
  isNan := bit (leAt b 16 1) 1
  o := (List.range d).map fun i => leAt b (64 + 4 * i) 4

/-! ### VQ blocks (R161 to R172) -/

/-- Size of a coded or raw block by its stages, 0 for raw (Table VQ-1). -/
def blockSize (stages : Nat) : Nat := if stages = 0 then 32832 else 320 + 6144 * stages

/-- Bytes the drill fetches from a slot (Table VQ-3). -/
def fetchSize (lines : Nat) : Nat :=
  if lines < 99 then 6464 else if lines < 147 then 12608 else if lines < 257 then 18752 else 32832

/-- What the checks of R172 find. -/
inductive BlockFault where
  | format
  | length
deriving DecidableEq, Repr

/-- R172's checks in order; `cb` gives the current generation and the bytes of a registered CB_ID. -/
def blockCheck (b : List Byte) (fetch : Nat) (cb : Nat → Option (Nat × List Byte)) : Option BlockFault :=
  let raw := bit (leAt b 5 1) 7
  let stages := leAt b 5 1 % 4
  let zeroAt (o n : Nat) : Bool := leAt b o n == 0
  if leAt b 60 4 ≠ (crc32 (b.take 60)).toNat then some .format
  else if leAt b 0 4 ≠ 0x51564B39 ∨ leAt b 4 1 ≠ 1 ∨ bits (leAt b 5 1) 6 2 ≠ 0 ∨ 1 < leAt b 6 1 ∨ !zeroAt 7 1
      ∨ (raw ∧ stages ≠ 0) ∨ (!raw ∧ stages = 0) ∨ !zeroAt 19 1 ∨ !zeroAt 26 34
      ∨ ((List.range 3).any fun s => decide (63 < leAt b (16 + s) 1)
          || (decide (stages ≤ s) && !(zeroAt (16 + s) 1 && zeroAt (20 + 2 * s) 2))) then some .format
  else if (List.range stages).any fun s =>
      match cb (leAt b (16 + s) 1) with
      | some (g, _) => g != leAt b (20 + 2 * s) 2
      | none => true
    then some .format
  else if leAt b 12 4 ≠ 32768 ∨ leAt b 8 4 ≠ blockSize stages ∨ fetch < leAt b 8 4 then some .length
  else if !raw && (List.range 256).any fun g => leAt b (64 + g) 1 == 0xFF then some .format
  else none

/-- The code of vector `v` of stage `s` (R163). -/
def codeOf (b : List Byte) (s v : Nat) : Nat :=
  let a := 320 + 6144 * s + v / 2 * 3
  if v % 2 = 0 then leAt b a 1 + 256 * (leAt b (a + 1) 1 % 16) else leAt b (a + 1) 1 / 16 + 16 * leAt b (a + 2) 1

/-- FP32 times a power of two, nearest even. -/
def f32scale (v : Nat) (k : Int) : Nat :=
  match Fmt.fp32.decode v with
  | .fin s m e => Fmt.fp32.encode (.fin s m (e + k))
  | x => Fmt.fp32.encode x

/-- The FP8 format of an EXP_FMT or SRC_FMT code. -/
def fp8Of (code : Nat) : Fmt := if code = 0 then .fp8 else .e5m2

/-- Element `i` of vector `v` of a coded block (R170). -/
def blockElem (b : List Byte) (cb : Nat → Option (Nat × List Byte)) (v i : Nat) : Nat :=
  let stages := leAt b 5 1 % 4
  let e (s : Nat) : Nat :=
    match cb (leAt b (16 + s) 1) with
    | some (_, t) => Fmt.fp32.encode (Fmt.fp16.decode (leAt t (16 * codeOf b s v + 2 * i) 2))
    | none => 0
  let t := (List.range (stages - 1)).foldl (fun a s => f32add a (e (s + 1))) (e 0)
  let y := f32scale t ((leAt b (64 + v / 16) 1 : Int) - 127)
  (fp8Of (leAt b 6 1 % 2)).encode (Fmt.fp32.decode y)

/-- The 32,768 bytes a sound block expands to (R170, R171). -/
def blockExpand (b : List Byte) (cb : Nat → Option (Nat × List Byte)) : List Byte :=
  if bit (leAt b 5 1) 7 then (b.drop 64).take 32768
  else (List.range 4096).flatMap fun v => (List.range 8).map fun i => BitVec.ofNat 8 (blockElem b cb v i)

/-- floor(log2) of a magnitude, limited to -126 .. 127; 0 for zero (R177). -/
def scaleExp (l : List FVal) : Int :=
  let k (x : FVal) : Option Int := match x with
    | .fin _ m e => if m = 0 then none else some ((Nat.log2 m : Int) + e)
    | _ => none
  match l.foldl (fun (best : Option Int) x => match best, k x with
      | none, y => y
      | some a, some c => some (max a c)
      | b, none => b) none with
  | none => 0
  | some a => max (-126) (min 127 a)

/-- The entry of a codebook as FP32. -/
def cbEntry (t : List Byte) (i : Nat) : List Nat :=
  (List.range 8).map fun j => Fmt.fp32.encode (Fmt.fp16.decode (leAt t (16 * i + 2 * j) 2))

/-- The index of the nearest entry: norm minus twice the dot product, the lower index on ties (R103, R177). -/
def argmin (t : List Byte) (r : List Nat) : Nat :=
  let q := r.map fun v => Fmt.fp16.decode (Fmt.fp16.encode (Fmt.fp32.decode v))
  let score (i : Nat) : Nat :=
    let e := (cbEntry t i).map Fmt.fp32.decode
    f32add (dot e e) ((f32mul 0x40000000 (dot e q)) ^^^ 0x80000000)
  ((List.range 4095).foldl (fun (best : Nat × Nat) i =>
    let c := score (i + 1)
    if (Fmt.fp32.decode c).lt (Fmt.fp32.decode best.2) && !(c % 2 ^ 31 == 0 && best.2 % 2 ^ 31 == 0) then (i + 1, c) else best)
    (0, score 0)).1

/-- The codes of one vector, stage by stage (R177). -/
def vectorCodes (cbs : List (List Byte)) (r : List Nat) : List Nat :=
  (cbs.foldl (fun (st : List Nat × List Nat) t =>
    let i := argmin t st.2
    (st.1 ++ [i], List.zipWith (fun a e => f32add a (e ^^^ 0x80000000)) st.2 (cbEntry t i))) ([], r)).1

/-- The code area of one stage, from its 4,096 codes (R163). -/
def codeBytes : List Nat → List Byte
  | a :: c :: t => leBytes 3 (a + 4096 * c) ++ codeBytes t
  | _ => []

/-- The 64-byte header of a block (Table VQ-2). -/
def blockHeader (stages fmt : Nat) (cbs : List (Nat × Nat)) : List Byte :=
  let id (s : Nat) : Nat := ((cbs[s]?).map Prod.fst).getD 0
  let gen (s : Nat) : Nat := ((cbs[s]?).map Prod.snd).getD 0
  let b := leBytes 4 0x51564B39 ++ leBytes 1 1 ++ leBytes 1 (if stages = 0 then 128 else stages) ++ leBytes 1 fmt ++ leBytes 1 0
    ++ leBytes 4 (blockSize stages) ++ leBytes 4 32768
    ++ leBytes 1 (id 0) ++ leBytes 1 (id 1) ++ leBytes 1 (id 2) ++ leBytes 1 0
    ++ leBytes 2 (gen 0) ++ leBytes 2 (gen 1) ++ leBytes 2 (gen 2) ++ leBytes 34 0
  b ++ leBytes 4 (crc32 b).toNat

/-- Encode a leaf of FP8 (R177); `cbs` are the stages' (CB_ID, generation, bytes). None: a NaN or an infinity. -/
def encodeLeaf (fmt : Nat) (cbs : List (Nat × Nat × List Byte)) (leaf : List Byte) : Option (List Byte) :=
  let xs := leaf.map fun b => (fp8Of fmt).decode b.toNat
  if xs.any fun x => match x with
      | .fin .. => false
      | _ => true
  then none
  else if cbs.isEmpty then some (blockHeader 0 fmt [] ++ leaf)
  else
    let ks := (List.range 256).map fun g => scaleExp ((xs.drop (128 * g)).take 128)
    let codes := (List.range 4096).map fun v =>
      let k := (ks[v / 16]?).getD 0
      vectorCodes (cbs.map fun c => c.2.2)
        (((xs.drop (8 * v)).take 8).map fun x => f32scale (Fmt.fp32.encode x) (-k))
    some (blockHeader cbs.length fmt (cbs.map fun c => (c.1, c.2.1))
      ++ ks.flatMap (fun k => leBytes 1 (127 + k).toNat)
      ++ (List.range cbs.length).flatMap fun s => codeBytes (codes.map fun b => (b[s]?).getD 0))

/-! ### Predicates (R134) -/

/-- Does a predicate term hold for a record (Table CO-8)? -/
def termHolds (t : List Byte) (rec : List Byte) : Bool :=
  let ty := leAt t 1 1 % 16
  let off := leAt t 0 1 % 64
  let cmp := leAt t 2 1 % 8
  let w := if ty = 0 then 1 else if ty = 1 ∨ ty = 6 ∨ ty = 7 then 2 else if ty = 3 ∨ ty = 5 then 8 else 4
  let f := leAt rec off w
  let k := leAt t 8 w
  if ty ≤ 5 then
    let s (v : Nat) : Int := if ty < 4 then v else if v < 2 ^ (8 * w - 1) then (v : Int) else (v : Int) - 2 ^ (8 * w)
    match cmp with
    | 0 => f == k
    | 1 => f != k
    | 2 => decide (s f < s k)
    | 3 => decide (s f ≤ s k)
    | 4 => decide (s k < s f)
    | 5 => decide (s k ≤ s f)
    | 6 => f &&& k != 0
    | _ => f &&& k == k
  else
    let fm := if ty = 6 then Fmt.fp16 else if ty = 7 then Fmt.bf16 else Fmt.fp32
    let x := fm.decode f
    let y := fm.decode k
    if x = .nan ∨ y = .nan then cmp == 1
    else
      -- -0 and +0 compare equal under IEEE 754
      let zero (v : FVal) : FVal := match v with
        | .fin _ 0 _ => .fin false 0 0
        | v => v
      let lt := (zero x).lt (zero y)
      let gt := (zero y).lt (zero x)
      match cmp with
      | 0 => !lt && !gt
      | 1 => lt || gt
      | 2 => lt
      | 3 => !gt
      | 4 => gt
      | _ => !lt

end Sys2Proof
end

