-- ==== Sys2Proof/Machine/OpOps.lean ====
section
/-! DEFINITION. Operations submitted by OP_SUBMIT: the result record (Table CO-3), ranges against extents (R113 step 4),
seeds and their presses (R24, R91, R92), the step ledger (R350, R351), and the end of an operation. -/

namespace Sys2Proof.Machine

/-! ### Descriptors -/

/-- Are bytes `a` to `b - 1` of a descriptor zero? -/
def zeros (d : List Byte) (a b : Nat) : Bool := ((d.drop a).take (b - a)).all (· == 0)

/-- A 57-bit address field: bits [63:57] zero. -/
def addrOk (d : List Byte) (o : Nat) : Bool := decide (leAt d o 8 < 2 ^ 57)

/-- OP_ID. -/
def opId (d : List Byte) : Nat := leAt d 4 4

/-- INLINE_RESULT. -/
def inlineResult (d : List Byte) : Bool := bit (leAt d 2 2) 0

/-- DESC_CRC over `n` bytes with its own four bytes taken as zero (R113, R119). -/
def descCrcOk (d : List Byte) (n : Nat) : Bool :=
  leAt d 28 4 == (crc32 (d.take 28 ++ leBytes 4 0 ++ (d.drop 32).take (n - 32))).toNat

/-- R111: VERSION, the KIND of the row, and the reserved fields of the common header. -/
def commonOk (code : Nat) (d : List Byte) : Bool :=
  leAt d 0 1 == code && leAt d 1 1 == 1 && decide (leAt d 2 2 < 2) && leAt d 11 1 == 0 && zeros d 12 28

/-! ### Results (R114) -/

/-- DATA_OFFSET of a list. -/
abbrev noOffset : Nat := 0xFFFFFFFFFFFFFFFF

/-- Go on with a 64-bit value that the spec leaves open: a free value (log entry 12). -/
def State.withOpen (f : Nat → State → State) (s : State) : State := f (s.free % 2 ^ 64) s.drawn

/-- A packet of a result, every field given. -/
def State.opPacket (h : Hdr) (id st flags result detail off : Nat) (data : List Byte) (s : State) : State :=
  s.respond 0x30 h st (leBytes 4 id ++ leBytes 1 st ++ leBytes 1 flags ++ leBytes 2 0 ++ leBytes 8 result ++ leBytes 8 detail
    ++ leBytes 8 off ++ data)

/-- A packet of a result. DATA_OFFSET places the data: in a packet without data that is no list, it is a free value. -/
def State.opResult (h : Hdr) (id st flags result detail off : Nat) (data : List Byte) (s : State) : State :=
  if data.isEmpty ∧ off ≠ noOffset then s.withOpen fun f s => s.opPacket h id st flags result detail f data
  else s.opPacket h id st flags result detail off data

/-- An OP_SUBMIT that fails before it is accepted: one OP_RESULT (R113). The spec states no RESULT and no DETAIL for it. -/
def State.opFails (h : Hdr) (d : List Byte) (st : Nat) (s : State) : State :=
  s.withOpen fun r s => s.withOpen fun t s => s.opResult h (opId d) st 0 r t 0 []

/-- Inline result data in packets of at most 4,064 bytes with MORE set; `fuel` bounds their number. -/
def State.sendInline (h : Hdr) (id : Nat) : Nat → Nat → List Byte → State → State
  | 0, _, _, s => s
  | n + 1, off, data, s =>
    if data.isEmpty then s
    else State.sendInline h id n (off + 4064) (data.drop 4064) (s.opResult h id St.OK 2 0 0 off (data.take 4064))

/-- Send inline data of an operation, unless its results are discarded (R293). -/
def State.opData (o off : Nat) (data : List Byte) (s : State) : State :=
  match s.work.ops.look o with
  | none => s
  | some x => if x.mute then s else s.sendInline x.hdr (opId x.desc) (data.length / 4064 + 1) off data

/-! ### Ranges (R113 step 4) -/

/-- The extent of composition `c` that holds `n` bytes from address `a`. -/
def State.rangeOf (s : State) (c a n : Nat) : Option Nat := (s.findExtent c a n).map Prod.fst

/-- What is wrong with a range: outside one extent, an extent that is revoked, an attached extent (R216), or for a
destination one that takes no writes. -/
def State.rangeBad (s : State) (c a n : Nat) (write : Bool) : Option Nat :=
  match s.rangeOf c a n with
  | none => some St.OUT_OF_EXTENT
  | some e =>
    match s.extent e with
    | none => some St.OUT_OF_EXTENT
    | some x =>
      if x.state = .revoking ∨ x.state = .revoked then some St.EXTENT_REVOKED
      else if (s.domainOf e).isSome then some St.LAYOUT_MISMATCH
      else if write && (decide (x.state = .sealed) || x.sealer.isSome) then some St.READ_ONLY
      else none

/-- A property of the extent that holds a range. -/
def State.rangeIs (s : State) (c a n : Nat) (f : Extent → Bool) : Bool :=
  ((s.rangeOf c a n).bind s.extent).any f

/-- Read a range of the pool. -/
def State.readRange (s : State) (c a n : Nat) : List Byte :=
  match s.rangeOf c a n with
  | none => []
  | some e => match s.extent e with
    | none => []
    | some x => s.readPool e (a - x.base) n

/-- Write a range of the pool. -/
def State.writeRange (c a : Nat) (b : List Byte) (s : State) : State :=
  match s.rangeOf c a b.length with
  | none => s
  | some e => match s.extent e with
    | none => s
    | some x => s.writeBytes e (a - x.base) b

/-- Is any byte of a range poisoned? -/
def State.rangePoisoned (s : State) (c a n : Nat) : Bool :=
  match s.rangeOf c a n with
  | none => false
  | some e => (s.extent e).any fun x => x.poisoned (a - x.base) n

/-- The leaves of a range. -/
def State.rangeLeaves (s : State) (c a n : Nat) : List LeafRef :=
  match s.rangeOf c a n with
  | none => []
  | some e => match s.extent e with
    | none => []
    | some x => (leavesOf (a - x.base) n).map fun l => { extent := e, leaf := l }

/-- The extents of a list of ranges. -/
def State.rangeExtents (s : State) (c : Nat) (l : List (Nat × Nat)) : List Nat :=
  (l.filterMap fun r => s.rangeOf c r.1 r.2).eraseDups

/-! ### Presses and seeds -/

/-- Seeds of a press in a state. -/
def State.seedsOn (s : State) (n : Nat) (f : Seed → Bool) : Nat := countIf s.work.seeds.vals fun x => x.press == n && f x

/-- ACTIVE seeds of a press. -/
def State.activeOn (s : State) (n : Nat) : Nat := s.seedsOn n fun x => decide (x.state = .active)

/-- WAITING and PARKED seeds of a press. -/
def State.waitingOn (s : State) (n : Nat) : Nat := s.seedsOn n fun x => decide (x.state = .waiting) || decide (x.state = .parked)

/-- The index of the least cost, the earlier on ties. -/
def leastBy (f : Nat → Nat) (l : List Nat) : Option Nat :=
  l.foldl (fun best n => match best with
    | none => some n
    | some b => if f n < f b then some n else some b) none

/-- The press of a new seed (R24 step 4): in the composition's share and not OFFLINE (on die 0 alone in single-die
mode). -/
def State.choosePress (s : State) (c : Nat) : Option Nat :=
  let share := (s.presses.filter fun p => ((s.comp c).any fun x => x.pressMask.getLsbD p.1) && decide (p.2.state ≠ .offline)
    && (!s.dev.singleDie || decide (p.1 < 4)))
  let going := (share.filter fun p => (decide (p.2.state = .lit) || decide (p.2.state = .switching) || decide (p.2.state = .waking))
    && decide (s.activeOn p.1 < 4096)).map Prod.fst
  match leastBy s.activeOn going with
  | some n => some n
  | none =>
    match share.find? fun p => decide (p.2.state = .fallow) || decide (p.2.state = .scrubbing) with
    | some p => some p.1
    | none => leastBy (fun n => s.activeOn n + s.waitingOn n) (share.map Prod.fst)

/-- A seed given to a FALLOW press wakes it (R19); PWR_CNT_PRESS_WAKES counts the wake (R390). -/
def State.wakePress (n : Nat) (s : State) : State :=
  if (s.presses.look n).any fun p => decide (p.state = .fallow) then
    (s.modPress n fun p => { p with state := .waking }).bump Reg.PWR_CNT_PRESS_WAKES
  else s

/-- The order of R93: operation acceptance, then SEED_INDEX. -/
def State.seedOrder (s : State) (x : Seed) : Nat := ((s.work.ops.look x.op).map Op.order).getD 0 * 2 ^ 20 + x.index

/-- What an operation's split says of one seed. -/
structure SeedPlan where
  kind : SeedKind
  deps : List Nat
  chains : Nat
  leaves : List LeafRef

/-- Create one seed of an operation on a press. -/
def State.addSeed (o c n i : Nat) (q : SeedPlan) (step : Nat) (s : State) : State :=
  let x : Seed := { op := o, index := i, comp := c, press := n, state := .waiting, kind := q.kind, deps := q.deps, met := [],
                    chains := q.chains, chainsDone := 0, chainsStarted := 0, resumeFirst := false, leaves := q.leaves, fetched := 0,
                    poisoned := false, refetch := none, tilesDone := 0, tilesSampled := 0, replays := 0, engines := 0, moved := false,
                    checkReplay := false, parityReplay := false, activateNs := 0, commitNs := 0, stepSeq := step }
  let k := s.work.nextSeed
  let s := s.modWork fun w => { w with seeds := w.seeds.put k x, nextSeed := k + 1 }
  (s.modOp o fun y => { y with seeds := y.seeds ++ [k] }).wakePress n

/-- Create the seeds of an operation in ascending SEED_INDEX (R92), each on the press R24 chooses, or on a given one. -/
def State.addSeeds (o c : Nat) (press : Option Nat) (l : List SeedPlan) (s : State) : State :=
  let step := ((s.work.ops.look o).map Op.stepSeq).getD 0
  (l.zipIdx).foldl (fun s q =>
    match press.orElse fun _ => s.choosePress c with
    | none => s
    | some n => s.addSeed o c n q.2 q.1 step) s

/-- Seeds of a composition that are not FREE. -/
def State.seedsOf (s : State) (c : Nat) : Nat := countIf s.work.seeds.vals fun x => x.comp == c

/-! ### The end of an operation -/

/-- A KV object's record is freed when it is RETIRING and nothing refers to it (R56). -/
def State.freeKvIfDone (k : Nat) (s : State) : State :=
  match s.pool.kv.look k with
  | none => s
  | some x => if x.state = .retiring ∧ x.refs = 0 ∧ x.implicit = 0 then s.modPool fun p => { p with kv := p.kv.del k } else s

/-- The implicit reference of an OP_ATTEND ends (R56). -/
def State.dropImplicit (k : Nat) (s : State) : State :=
  (s.modPool fun p => { p with kv := p.kv.change k fun x => { x with implicit := x.implicit - 1 } }).freeKvIfDone k

/-- A seed is taken off its press: its chains stop, and its slots go back. -/
def State.dropSeed (i : Nat) (s : State) : State :=
  { s with
    work := { s.work with seeds := s.work.seeds.del i }
    presses := s.presses.each fun _ p => { p with chains := p.chains.filter fun c => c.seed != i } }

/-- Reply to a LEDGER_CLOSE that waits, once every step is recorded (R351). -/
def State.closeJob (j : Nat) (s : State) : State :=
  match s.work.jobs.look j with
  | none => s
  | some x =>
    match x.closer with
    | none => s
    | some (sess, seq) =>
      if x.openSteps = 0 then
        (s.modWork fun w => { w with jobs := w.jobs.del j }).reply { session := sess, seq := seq, badItem := none } 0x3004 St.OK
          [.num (x.nextStep - 1)]
      else s

/-- A step of a job is recorded, or its operation has gone. -/
def State.stepRecorded (j c : Nat) (s : State) : State :=
  ((s.modWork fun w => { w with jobs := w.jobs.change j fun x => { x with openSteps := x.openSteps - 1 } }).bumpComp c
    Reg.FTCNT_STEPS_RECORDED).closeJob j

/-- Remove an operation's record with its seeds (R92). -/
def State.removeOp (o : Nat) (s : State) : State :=
  match s.work.ops.look o with
  | none => s
  | some x =>
    let s := x.seeds.foldl (fun s i => s.dropSeed i) s
    let s := if x.kind = .attend ∧ x.phase ≠ .waiting ∧ leAt x.desc 43 1 / 16 = 0 then s.dropImplicit (leAt x.desc 32 4) else s
    s.modWork fun w => { w with ops := w.ops.del o }

/-- Send the final packet of an operation and free what it holds (R92, R114). -/
def State.sendFinal (o : Nat) (s : State) : State :=
  match s.work.ops.look o with
  | none => s
  | some x =>
    let flags := 4 * b2n x.truncated + b2n x.replayed
    let s := if x.mute then s
      else s.opResult x.hdr (opId x.desc) x.status flags x.result x.detail x.finalOffset x.finalData
    s.removeOp o

/-- The final packet of a step whose ledger entry, and its copy, are applied: FTCNT_STEPS_RECORDED counts it (R351). -/
def State.sendRecorded (o : Nat) (s : State) : State :=
  match s.work.ops.look o with
  | none => s
  | some x =>
    let s := s.sendFinal o
    match x.job with
    | some j => s.stepRecorded j x.comp
    | none => s

/-- A step-ledger entry (Table FT-4). -/
def ledgerEntry (step id kind st flags accept complete result detail : Nat) : List Byte :=
  let b := leBytes 4 0x4B394C47 ++ leBytes 4 step ++ leBytes 4 id ++ leBytes 1 kind ++ leBytes 1 st ++ leBytes 1 flags
    ++ leBytes 1 0 ++ leBytes 8 accept ++ leBytes 8 complete ++ leBytes 8 result ++ leBytes 8 detail ++ leBytes 12 0
  b ++ leBytes 4 (crc32 b).toNat

/-- The ledger entry of a completed operation. -/
def State.entryOf (s : State) (x : Op) : List Byte :=
  ledgerEntry x.stepSeq (opId x.desc) (leAt x.desc 0 1) x.status (4 * b2n x.moved + 2 * b2n x.truncated + b2n x.replayed)
    x.acceptNs s.clk.timeNs x.result x.detail

/-- An operation completes (R351): its outcome is set; a job's step goes to the ledger before the final packet leaves. -/
def State.finishOp (o st result detail : Nat) (data : List Byte) (off : Nat) (s : State) : State :=
  match s.work.ops.look o with
  | none => s
  | some x =>
    if x.phase = .ledger then s
    else
      let s := if st = St.TIER_LOST then s.bumpComp x.comp Reg.POOL_CNT_STEPS_TIER_LOST else s
      let s := if x.kind = .attend then s.bumpComp x.comp Reg.ACNT_OPS_DONE else s
      let s := x.seeds.foldl (fun s i =>
        { s with presses := s.presses.each fun _ p => { p with chains := p.chains.filter fun c => c.seed != i } }) s
      let s := s.modOp o fun y => { y with
        status := st, result := result, detail := detail, finalData := data, finalOffset := off }
      match x.job.bind s.work.jobs.look with
      | some _ => s.modOp o fun y => { y with phase := .ledger }
      | none => s.sendFinal o

/-- Every step of the pool that a status ends: tier loss, revocation and timeouts report it without data; the
spec states no DETAIL. -/
def State.failOp (o st result : Nat) (s : State) : State := s.withOpen fun d s => s.finishOp o st result d [] 0

/-- Count the cause of an operation's stall, once (R58), and note its first stall (R60). -/
def State.causeOp (o a : Nat) (s : State) : State :=
  match s.work.ops.look o with
  | none => s
  | some x =>
    if x.causes.contains a then s
    else (s.modOp o fun y => { y with causes := y.causes ++ [a] }).bumpComp x.comp a

/-- An operation stalls. -/
def State.stallOp (o : Nat) (s : State) : State :=
  s.modOp o fun y => { y with firstStall := some (y.firstStall.getD s.clk.timeNs) }

end Sys2Proof.Machine
end

