-- ==== Sys2Proof/Machine/Near.lean ====
section
/-! DEFINITION. Near-memory operations (R49 to R53): FILL, COPY, COMPARE and NM_REDUCE by their descriptors, and one leaf
of each. -/

namespace Sys2Proof.Machine

/-- LENGTH. -/
def nmLength (d : List Byte) : Nat := leAt d 40 8

/-- ADDR_A. -/
def nmA (d : List Byte) : Nat := leAt d 32 8

/-- SRC_ADDR_i. -/
def nmSrc (d : List Byte) (i : Nat) : Nat := leAt d (64 + 8 * i) 8

/-- Sources a kind uses. -/
def nmSources (k : OpKind) (d : List Byte) : Nat :=
  match k with
  | .fill => 0
  | .nmReduce => bits (leAt d 48 2) 11 8
  | _ => 1

/-- Step 3 of R113 for a near-memory body (Table MT-7, R49). -/
def nmBodyBad (k : OpKind) (d : List Byte) : Option Nat :=
  let w := leAt d 48 2
  let n := nmSources k d
  let len := nmLength d
  if !addrOk d 32 ∨ len < 128 ∨ 2 ^ 40 < len ∨ len % 128 ≠ 0 ∨ bits w 15 13 ≠ 0
      ∨ (k = .nmReduce ∧ (bits w 11 8 = 0 ∨ 8 < bits w 11 8)) ∨ (k ≠ .nmReduce ∧ bits w 12 8 ≠ 0)
      ∨ 2 < bits w 7 4 ∨ 3 < bits w 3 0 ∨ !zeros d 50 56 ∨ (k ≠ .fill ∧ !zeros d 56 64)
      ∨ ((List.range n).any fun i => !addrOk d (64 + 8 * i)) ∨ !zeros d (64 + 8 * n) 256 then some St.INVALID_PARAM
  else none

/-- Do two ranges of the same length overlap? -/
def overlaps (a b n : Nat) : Bool := decide (a < b + n) && decide (b < a + n)

/-- Step 4 of R113 for a near-memory body (R50). -/
def State.nmRangesBad (s : State) (c : Nat) (k : OpKind) (d : List Byte) : Option Nat :=
  let n := nmLength d
  let a := nmA d
  let srcs := (List.range (nmSources k d)).map (nmSrc d)
  let bad := (s.rangeBad c a n (decide (k ≠ .compare))) :: srcs.map fun r => s.rangeBad c r n false
  let vq (r : Nat) : Bool := s.rangeIs c r n Extent.vq
  let lines (r : Nat) : Nat := (((s.rangeOf c r n).bind s.extent).map Extent.slotLines).getD 0
  if bad.contains (some St.OUT_OF_EXTENT) then some St.OUT_OF_EXTENT
  else if bad.contains (some St.EXTENT_REVOKED) then some St.EXTENT_REVOKED
  else if bad.contains (some St.LAYOUT_MISMATCH) then some St.LAYOUT_MISMATCH
  else if k ≠ .compare ∧ srcs.any (fun r => overlaps a r n) then some St.INVALID_PARAM
  else if ((k = .fill ∨ k = .nmReduce) ∧ (vq a ∨ srcs.any vq)) ∨ (k = .copy ∧ srcs.any fun r => vq r != vq a || lines r != lines a) then
    some St.LAYOUT_MISMATCH
  else if (k = .copy ∨ k = .nmReduce) ∧ !(s.rangeIs c a n Extent.isProtected) ∧ srcs.any (fun r => s.rangeIs c r n Extent.isProtected) then
    some St.PROTECTION_DOWNGRADE
  else if bad.contains (some St.READ_ONLY) then some St.READ_ONLY
  else none

/-- The ranges a near-memory operation names. -/
def nmRanges (k : OpKind) (d : List Byte) : List (Nat × Nat) :=
  (nmA d, nmLength d) :: (List.range (nmSources k d)).map fun i => (nmSrc d i, nmLength d)

/-- The leaves of the extent of ADDR_A that the operation is split into (R52). -/
def State.nmLeaves (s : State) (c : Nat) (d : List Byte) : List Nat :=
  (s.rangeLeaves c (nmA d) (nmLength d)).map LeafRef.leaf

/-- The part of the operation that lies in leaf `l` of its first range: its first byte within the range, and its length. -/
def State.nmPiece (s : State) (c : Nat) (d : List Byte) (l : Nat) : Nat × Nat :=
  match (s.rangeOf c (nmA d) (nmLength d)).bind s.extent with
  | none => (0, 0)
  | some x =>
    let off := nmA d - x.base
    let lo := max off (l * 32768)
    let hi := min (off + nmLength d) ((l + 1) * 32768)
    (lo - off, hi - lo)

/-- The first difference of two byte strings. -/
def firstDiff : Nat → List Byte → List Byte → Option Nat
  | i, a :: s, b :: t => if a = b then firstDiff (i + 1) s t else some i
  | _, _, _ => none

/-- `n` bytes of a FILL from offset `o` of its range: PATTERN repeated from ADDR_A. -/
def fillBytes (d : List Byte) (o n : Nat) : List Byte :=
  (List.range n).map fun i => BitVec.ofNat 8 (leAt d (56 + (o + i) % 8) 1)

/-- The destination bytes of an NM_REDUCE piece: left to right, rounded once (R51). -/
def reduceBytes (d : List Byte) (operands : List (List Byte)) : List Byte :=
  let w := leAt d 48 2
  let op := bits w 7 4
  let fmt := bits w 3 0
  let cols := operands.map (elements fmt)
  match cols with
  | [] => []
  | a :: t => elementBytes fmt (t.foldl (fun acc v => List.zipWith (combine op fmt) acc v) a)

/-- One leaf of a near-memory operation (R52): lost when a line it reads is poisoned, else written or compared. The Bool
says whether it was lost. -/
def State.nmRun (c : Nat) (k : OpKind) (d : List Byte) (l : Nat) (s : State) : State × Bool × Option Nat :=
  let p := s.nmPiece c d l
  let src (i : Nat) : List Byte := s.readRange c (nmSrc d i + p.1) p.2
  let dstIn := k = .nmReduce ∧ bit (leAt d 48 2) 12
  let reads := ((List.range (nmSources k d)).map fun i => nmSrc d i) ++ (if dstIn ∨ k = .compare then [nmA d] else [])
  if reads.any fun a => s.rangePoisoned c (a + p.1) p.2 then (s, true, none)
  else match k with
    | .fill => (s.writeRange c (nmA d + p.1) (fillBytes d p.1 p.2), false, none)
    | .copy => (s.writeRange c (nmA d + p.1) (src 0), false, none)
    | .nmReduce =>
      let ops := (if dstIn then [s.readRange c (nmA d + p.1) p.2] else []) ++ (List.range (nmSources k d)).map src
      (s.writeRange c (nmA d + p.1) (reduceBytes d ops), false, none)
    | _ => (s, false, (firstDiff 0 (s.readRange c (nmA d + p.1) p.2) (src 0)).map (· + p.1))

/-- The copy of a leaf that can stand in for another: the mirror of the home copy, or the home of the mirror copy. -/
def Extent.otherCopy (x : Extent) (i : Nat) : Option Nat :=
  (x.chunkOf (i / 2)).bind fun c =>
    let t := if i % 2 = 0 then c.mirror else some c.tray
    let j := if i % 2 = 0 then i + 1 else i - 1
    if t.isNone ∨ x.lacksCopy j then none else some j

/-! ### What an operation waits for -/

/-- The leaves that leaf `l` of a near-memory operation touches: extent, leaf, written. -/
def State.nmTouches (s : State) (x : Op) (l : Nat) : List (Nat × Nat × Bool) :=
  let p := s.nmPiece x.comp x.desc l
  let of (a : Nat) (w : Bool) : List (Nat × Nat × Bool) :=
    (s.rangeLeaves x.comp (a + p.1) p.2).map fun r => (r.extent, r.leaf, w)
  of (nmA x.desc) (decide (x.kind ≠ .compare)) ++ (List.range (nmSources x.kind x.desc)).flatMap fun i => of (nmSrc x.desc i) false

/-- Can a tier access be made: its tray is up, and the leaf is there (R58, R23)? -/
def State.itemReady (s : State) (e i : Nat) : Bool :=
  !s.itemDown e i && (decide (i % 2 = 1) || (s.extent e).any fun x => x.inT1 (i / 2))

/-- Is a leaf held in T0 enough for an access? A write to a MIRRORED leaf goes to its trays (R47). -/
def Extent.t0Serves (x : Extent) (l : Nat) (write : Bool) : Bool := x.inT0 l && !(write && decide (x.durability = .mirrored))

/-- Can leaf `l` be used now? `alt`: the operation has failed over to the other copies (R47). -/
def State.leafReady (s : State) (alt : Bool) (e l : Nat) (write : Bool) : Bool :=
  (s.extent e).any fun x =>
    x.leafPoisoned l || x.t0Serves l write
      || (!x.replicaFetch.has l && (s.itemsFor x l write).all fun i =>
        s.itemReady e i || (alt && (!write || x.lacksCopy i) && (x.otherCopy i).any (s.itemReady e)))

/-- Has an operation failed over to a mirror? -/
def Op.alt (x : Op) : Bool := x.causes.contains Reg.POOL_CNT_MIRROR_FAILOVER

/-- An operation asks for a leaf that T0 does not serve: it stalls (R60), counts a tray that is down, and the access is
made (R58). -/
def State.askLeaf (o e l : Nat) (write : Bool) (s : State) : State :=
  match s.extent e with
  | none => s
  | some x =>
    let items := s.itemsFor x l write
    if x.leafPoisoned l || x.t0Serves l write || items.isEmpty then s
    else items.foldl (fun s i =>
      (if s.itemDown e i then s.causeOp o Reg.POOL_CNT_TRAY_DOWN else s).issue e i write) (s.stallOp o)

/-- The movement units of a seed's next leaf: a whole slot of the KV object in a VQ extent, else the leaf (R40, R41). -/
def State.refLeaves (s : State) (z : Seed) (r : LeafRef) : List Nat :=
  match z.kind, s.extent r.extent with
  | .span _ _, some x =>
    if x.vq then leavesOf (r.leaf * x.slotLines * 128) (fetchSize x.slotLines) else [r.leaf]
  | _, _ => [r.leaf]

/-- The tier accesses that a running operation waits for: extent, leaf, written. -/
def State.opWants (s : State) (o : Nat) (x : Op) : List (Nat × Nat × Bool) :=
  if x.phase ≠ .running then []
  else
    let drill := s.work.seeds.vals.flatMap fun z =>
      if z.op = o ∧ z.state = .active then
        match z.leaves[z.fetched]? with
        | some r => (s.refLeaves z r).map fun l => (r.extent, l, false)
        | none => []
      else []
    let near := match x.kind with
      | .fill | .copy | .compare | .nmReduce => x.todo.flatMap (s.nmTouches x)
      | _ => []
    (near ++ drill).filter fun t => (s.extent t.1).any fun y => !y.leafPoisoned t.2.1 && !y.t0Serves t.2.1 t.2.2

/-- The operations that wait for a leaf. -/
def State.opsOnLeaf (s : State) (e l : Nat) : List Nat :=
  (s.work.ops.filter fun q => (s.opWants q.1 q.2).any fun t => t.1 == e && t.2.1 == l).map Prod.fst

/-- Does operation `o` wait for tier access `i` of extent `e`? -/
def State.opUses (s : State) (o e i : Nat) : Bool :=
  ((s.work.ops.look o).any fun x => (s.opWants o x).any fun t =>
    t.1 == e && (s.extent e).any fun y => (s.itemsFor y t.2.1 t.2.2).contains i)

/-- Count a cause for each of a list of operations (R58). -/
def State.causeOps (a : Nat) (l : List Nat) (s : State) : State := l.foldl (fun s o => s.causeOp o a) s

/-- Can leaf `l` of a near-memory operation run: every leaf it touches can be used (R52)? -/
def State.nmReady (s : State) (x : Op) (l : Nat) : Bool := (s.nmTouches x l).all fun t => s.leafReady x.alt t.1 t.2.1 t.2.2

/-- The end of a near-memory operation (R52). -/
def State.nmFinish (o : Nat) (s : State) : State :=
  match s.work.ops.look o with
  | none => s
  | some x =>
    if x.lost.isEmpty then s.withOpen fun d s => s.finishOp o St.OK x.result d [] 0
    else
      let low := (x.lost.map fun l => (s.nmPiece x.comp x.desc l).1).foldl min noOffset
      s.failOp o St.TIER_LOST low

/-- A near-memory leaf completes; the last one ends the operation. RESULT gathers the bytes written, or the lowest
difference. -/
def State.nmLeaf (o l : Nat) (s : State) : State :=
  match s.work.ops.look o with
  | none => s
  | some x =>
    if x.phase ≠ .running ∨ !x.todo.contains l ∨ !s.nmReady x l then s
    else
      let r := s.nmRun x.comp x.kind x.desc l
      let n := (s.nmPiece x.comp x.desc l).2
      let s := r.1.modOp o fun y => { y with
        todo := y.todo.filter (· != l)
        lost := if r.2.1 then y.lost ++ [l] else y.lost
        result := match r.2.2 with
          | some v => min y.result v
          | none => if x.kind = .compare ∨ r.2.1 then y.result else y.result + n }
      if x.todo.all (· == l) then s.nmFinish o else s

/-- NM_LEAF_DONE: leaf `leaf` of operation `op` completes in its channel controller or tray bridge (R52). -/
def execNmLeafDone (op leaf : Nat) (s : State) : Out := .next (s.nmLeaf op leaf)

end Sys2Proof.Machine
end

