-- ==== Sys2Proof/Machine/Tiers.lean ====
section
/-! DEFINITION. Late and failed tiers (R58 to R61, R79), leaf moves (R26, R45, R46), mirror and replica recovery (R47),
and the placement tick (the text before R42): what the tiers answer, and the rows that say so. -/

namespace Sys2Proof.Machine

/-! ### Steps that wait for a tier access -/

/-- The steps that wait for a tier access of an extent. -/
def State.stepsOnItem (s : State) (e i : Nat) : List Nat :=
  (s.tx.steps.filter fun q => q.2.extent == e && q.2.items.contains i).map Prod.fst

/-- A tier access has answered: no step waits for it any more. -/
def State.dropItem (e i : Nat) (s : State) : State :=
  s.modTx fun x => { x with steps := x.steps.each fun _ t =>
    if t.extent = e then { t with items := t.items.filter (· != i) } else t }

/-- Both copies of a leaf have answered, or never will. -/
def State.dropLeaf (e l : Nat) (s : State) : State := (s.dropItem e (2 * l)).dropItem e (2 * l + 1)

/-- The steps that wait for a leaf, in either copy. -/
def State.stepsOnLeaf (s : State) (e l : Nat) : List Nat :=
  (s.tx.steps.filter fun q => q.2.extent == e && (q.2.items.contains (2 * l) || q.2.items.contains (2 * l + 1))).map Prod.fst

/-- A leaf is poisoned; those that wait for it are told at once (Table MT-10). -/
def State.loseLeaf (e l : Nat) (s : State) : State := (s.poisonLeaf e l).dropLeaf e l

/-- Count a cause for each of a list of steps (R58). -/
def State.causeSteps (a : Nat) (l : List Nat) (s : State) : State := l.foldl (fun s i => s.causeStep i a) s

/-- Steps and operations that wait for a tray whose port is lost count TRAY_DOWN (R58). -/
def State.trayLost (t : Nat) (s : State) : State :=
  let uses (e i : Nat) : Bool := ((s.extent e).bind fun x => x.itemTray i) == some t
  let steps := (s.tx.steps.filter fun q => q.2.items.any (uses q.2.extent)).map Prod.fst
  let ops := (s.work.ops.filter fun q => (s.opWants q.1 q.2).any fun w =>
    (s.extent w.1).any fun x => (s.itemsFor x w.2.1 w.2.2).any (uses w.1)).map Prod.fst
  (s.causeSteps Reg.POOL_CNT_TRAY_DOWN steps).causeOps Reg.POOL_CNT_TRAY_DOWN ops

/-- Leaf `l` of a T2 chunk has landed in T1. -/
def State.landLeaf (e l : Nat) (s : State) : State :=
  s.modChunk e (l / 64) fun c => { c with arriving := c.arriving.filter (· != l % 64) }

/-- An access has brought a leaf to the K9: it is promoted when its hint class says so (Table MT-5). -/
def State.arrived (e l : Nat) (s : State) : State :=
  if (s.extent e).any fun x => x.promotes l && x.written.contains l then s.promote e l else s

/-! ### Replica fetches (R79) -/

/-- Ask the replica for a leaf: another K9 by a request of this K9's own, or a tray of this one. -/
def State.askReplica (e l : Nat) (s : State) : State :=
  match s.extent e with
  | none => s
  | some x =>
    let node := bits x.replica.toNat 27 16
    let tray := bits x.replica.toNat 4 0
    let cid := ((s.comp x.comp).map Comp.compId).getD 0
    if node = s.topo.node then s.emit (.bridge tray 7 [e, l])
    else s.openOwn 1 (e * 2 ^ 32 + l) fun tag => s.ownPacket 0x01 node cid tag (s.epochByte cid) 0 31 (x.base + 32768 * l) []

/-- Fetch a leaf from the replica, once however many steps need it. -/
def State.fetchReplica (e l : Nat) (s : State) : State :=
  if (s.extent e).any fun x => x.replicaFetch.has l then s
  else (s.modExtent e fun x => { x with replicaFetch := x.replicaFetch.put l true }).askReplica e l

/-! ### Uncorrectable errors -/

/-- Steps that wait for access `i` wait for access `j` in its place, and count MIRROR_FAILOVER once each (R47). -/
def State.failOver (e i j : Nat) (s : State) : State :=
  let l := s.stepsOnItem e i
  let s := l.foldl (fun s k => s.modStep k fun t => { t with items := t.items.filter (fun q => q != i && q != j) ++ [j] }) s
  let s := s.causeSteps Reg.POOL_CNT_MIRROR_FAILOVER l
  if l.isEmpty then s else s.issue e j false

/-- A leaf can be read from neither its tier nor a mirror (Table MT-10, Table FM-6): a sealed replica is asked, else the
leaf is poisoned at once. -/
def State.noCopy (e l : Nat) (s : State) : State :=
  match s.extent e with
  | none => s
  | some x =>
    if x.durability = .replicated ∧ x.state = ExtState.sealed then s.fetchReplica e l
    else (s.landLeaf e l).loseLeaf e l

/-- An uncorrectable answer from T1 (R47, R59): a clean T1 copy of a T2 chunk is read again from T2; a mirror takes over
and the faulty copy is rewritten from it (not when the error was injected); else there is no copy. -/
def State.ueT1 (e i : Nat) (injected : Bool) (s : State) : State :=
  match s.extent e with
  | none => s
  | some x =>
    let l := i / 2
    let ops := s.opsOnLeaf e l
    let s := State.causeOps Reg.POOL_CNT_TIER_UE_T1 ops (s.causeSteps Reg.POOL_CNT_TIER_UE_T1 (s.stepsOnItem e i))
    let clean := x.tier.isT2 && i % 2 == 0 && (x.chunkOf l).any fun c => c.inT1 && !c.t1Dirty
    match x.otherCopy i with
    | some j =>
      let s := State.causeOps Reg.POOL_CNT_MIRROR_FAILOVER ops (s.failOver e i j)
      if injected then s else match x.itemTray i with
        | some t => s.emit (.bridge t 8 [e, l])
        | none => s
    | none =>
      if clean && (s.mapEntry (x.sheaf (l / 64) (l % 64 / 32) false)).valid then
        let h := l % 64 / 32
        let s := s.modChunk e (l / 64) fun c => { c with
          arriving := (List.range' (32 * h) 32).foldl (fun a k => insertAsc k a) c.arriving }
        match x.itemTray i with
        | some t => s.emit (.bridge t 0 [x.sheaf (l / 64) h false])
        | none => s
      else s.noCopy e l

/-- An uncorrectable flash page of leaf `l`, in the home copy or the mirror's (R79, R80, Table FM-6). -/
def State.ueT2 (e l : Nat) (mirror : Bool) (s : State) : State :=
  match s.extent e with
  | none => s
  | some x =>
    let i := 2 * l + b2n mirror
    let waiting := s.stepsOnItem e i
    let ops := s.opsOnLeaf e l
    let s := State.causeOps Reg.POOL_CNT_TIER_UE_T2 ops (s.causeSteps Reg.POOL_CNT_TIER_UE_T2 waiting)
    match x.otherCopy i with
    | some j =>
      let s := State.causeOps Reg.POOL_CNT_MIRROR_FAILOVER ops (s.failOver e i j)
      if waiting.isEmpty then s.issue e j false else s
    | none => s.noCopy e l

/-- T1_ACCESS_DONE: the tray's DRAM answers for a leaf, in the home copy or the mirror (R58, Table MT-10). The answer for
a leaf poisoned meanwhile brings no data (R60). A mirror read of a T2 chunk also restores the leaf of the home copy. -/
def execT1AccessDone (e leaf : Nat) (mirror : Bool) (a : Answer) (s : State) : Out :=
  .next <|
    match s.extent e with
    | none => s
    | some x =>
      let i := 2 * leaf + b2n mirror
      if x.leafPoisoned leaf ∧ !(s.stepsOnItem e i).any fun k => (s.tx.steps.look k).any fun t => writeClass t.pkt.opcode then
        (s.dropItem e i).settle
      else
        let forced := !mirror && s.ft.forcedUe.contains (e, leaf)
        let s := if forced then s.modFt fun f => { f with forcedUe := f.forcedUe.erase (e, leaf) } else s
        if forced ∨ a = .uncorrectable then (s.ueT1 e i forced).settle
        else
          let s := if mirror ∧ x.tier.isT2 ∧ !x.inT1 leaf then s.landLeaf e leaf else s
          ((s.dropItem e i).settle).arrived e leaf

/-! ### Late answers (R58, R47) -/

/-- The time at which the first of a list of steps and of operations stalled. -/
def State.firstStallOf (s : State) (l ops : List Nat) : Nat :=
  (((l.filterMap fun i => (s.tx.steps.look i).bind Step.firstStall)
      ++ ops.filterMap fun o => (s.work.ops.look o).bind Op.firstStall).foldl (fun (b : Option Nat) t => match b with
    | none => some t
    | some u => some (min u t)) none).getD s.clk.timeNs

/-- A write to a MIRRORED leaf whose one home tray has not taken it by the late threshold: the other copy is enough, and
the copy on the late tray is stale (R47). -/
def State.staleWrite (e i : Nat) (s : State) : State :=
  match s.extent e with
  | none => s
  | some x =>
    let l := s.stepsOnItem e i
    let s := s.causeSteps Reg.POOL_CNT_MIRROR_FAILOVER l
    let s := l.foldl (fun s k => s.modStep k fun t => { t with items := t.items.filter (· != i) }) s
    let s := s.modChunk e (i / 128) fun c => { c with stale := x.itemTray i }
    match (x.itemTray i), (x.itemTray (if i % 2 = 0 then i + 1 else i - 1)) with
    | some _, some t => s.queueMove e (i / 2 / 64 * 64) .writeBack t
    | _, _ => s

/-- What waits for access `i` goes on with the other copy, access `j`: writes have it already, reads ask it (R47). -/
def State.passOver (e i j : Nat) (ops : List Nat) (s : State) : State :=
  if ((s.stepsOnItem e i).any fun k => (s.tx.steps.look k).any fun t => t.items.contains j || writeClass t.pkt.opcode)
      || ops.any fun o => s.opUses o e j then s.staleWrite e i
  else s.failOver e i j

/-- T1_LATE_THRESHOLD: an access to a leaf has not answered within POOL_T1_LATE_US. TIER_LATE_T1 counts unless the tray is
down, which has a counter of its own (R58); a MIRRORED extent fails over. -/
def execT1LateThreshold (e leaf : Nat) (s : State) : Out :=
  .next <|
    match s.extent e with
    | none => s
    | some x =>
      let waiting := s.stepsOnLeaf e leaf
      let all := s.opsOnLeaf e leaf
      if waiting.isEmpty ∧ all.isEmpty then s
      else
        let s := s.advanceTo (s.firstStallOf waiting all + 1000 * s.field Reg.POOL_T1_LATE_US 15 0)
        let one (i : Nat) (s : State) : State :=
          let l := s.stepsOnItem e i
          let ops := all.filter fun o => s.opUses o e i
          if l.isEmpty ∧ ops.isEmpty then s
          else
            let down := s.itemDown e i
            let landing := x.tier.isT2 && !x.inT1 leaf
            let s := if down ∨ landing then s
              else State.causeOps Reg.POOL_CNT_TIER_LATE_T1 ops (s.causeSteps Reg.POOL_CNT_TIER_LATE_T1 l)
            match x.otherCopy i with
            | none => s
            | some j =>
              if landing && !down then s
              else if s.itemDown e j then s
              else (State.causeOps Reg.POOL_CNT_MIRROR_FAILOVER ops s).passOver e i j ops
        ((one (2 * leaf) s) |> one (2 * leaf + 1)).settle

/-- T2_LATE_THRESHOLD: a T2 access has not answered within POOL_T2_LATE_US (R58). -/
def execT2LateThreshold (e leaf : Nat) (s : State) : Out :=
  .next <|
    let waiting := s.stepsOnLeaf e leaf
    let ops := s.opsOnLeaf e leaf
    if (waiting.isEmpty ∧ ops.isEmpty) ∨ !(s.extent e).any fun x => x.tier.isT2 && !x.inT1 leaf then s
    else
      let s := s.advanceTo (s.firstStallOf waiting ops + 1000 * s.field Reg.POOL_T2_LATE_US 23 0)
      State.causeOps Reg.POOL_CNT_TIER_LATE_T2 ops (s.causeSteps Reg.POOL_CNT_TIER_LATE_T2 waiting)

/-- The leaves a step still waits for are poisoned at its deadline, unless a copy exists elsewhere (R60). -/
def State.poisonAtDeadline (e : Nat) (ls : List Nat) (s : State) : State :=
  match s.extent e with
  | none => s
  | some x => if x.hasCopy then s else ls.foldl (fun s l => (s.landLeaf e l).loseLeaf e l) s

/-- A pool request reaches its deadline and completes with ST_TIER_LOST (R60). -/
def State.stepDeadline (i : Nat) (s : State) : State :=
  match s.tx.steps.look i with
  | none => s
  | some t =>
    match t.firstStall with
    | none => s
    | some f =>
      if t.items.isEmpty ∨ t.decided.isSome then s
      else
        let s := s.advanceTo (f + 1000 * ((s.comp t.comp).map Comp.deadlineUs).getD 0)
        let s := s.loseStep i
        (s.poisonAtDeadline t.extent (t.items.map (· / 2)).eraseDups).settle

/-! ### Leaf moves (R26, R45, R46) -/

/-- The move of a leaf. -/
def State.moveOf (s : State) (e l : Nat) : Option Move := s.pool.moves.find? fun m => m.extent == e && m.leaf == l

/-- A leaf move ends. -/
def State.endMove (e l : Nat) (s : State) : State :=
  s.modPool fun p => { p with moves := p.moves.filter fun m => !(m.extent == e && m.leaf == l) }

/-- The translation of a leaf switches in one step (R26). -/
def State.switchLeaf (m : Move) (s : State) : State :=
  (s.endMove m.extent m.leaf).modChunk m.extent (m.leaf / 64) fun c =>
    match m.kind with
    | .promote => { c with t0 := c.t0.put (m.leaf % 64) { stack := m.stack, dirty := false } }
    | .writeBack => { c with t0 := c.t0.change (m.leaf % 64) fun f => { f with dirty := false } }
    | .evict => { c with t0 := c.t0.del (m.leaf % 64) }

/-- The copy of a leaf, or a re-copy of its marked lines, is complete (R26): the translation switches when no line was
marked meanwhile; lines marked in two successive re-copies abandon the move, which is tried again later. -/
def State.copyDone (m : Move) (s : State) : State :=
  if m.marked.isEmpty then
    let s := s.switchLeaf m
    let t2 := (s.extent m.extent).any fun x => x.tier.isT2
    if m.kind = .promote ∨ !t2 then s
    else
      let s := s.modChunk m.extent (m.leaf / 64) fun c => { c with inT1 := true, t1Dirty := true }
      if ((s.extent m.extent).bind fun x => x.chunkOf m.leaf).any fun c => c.dropT1 && c.t0.isEmpty then
        s.programChunk m.extent (m.leaf / 64)
      else s
  else if m.recopies < 2 then
    s.modPool fun p => { p with moves := p.moves.map fun q => if q = m then { q with marked := [], recopies := q.recopies + 1 } else q }
  else
    let c := ((s.extent m.extent).map Extent.comp).getD 256
    let tray := (((s.extent m.extent).bind fun x => x.chunkOf m.leaf).map Chunk.tray).getD 0
    ((s.endMove m.extent m.leaf).bumpComp c Reg.POOL_CNT_MIGRATION_ABANDONED).queueMove m.extent m.leaf m.kind tray

/-- LEAF_COPY_DONE: the copy of a promotion completes; it cannot before its leaf is in T1. -/
def execLeafCopyDone (e leaf : Nat) (s : State) : Out :=
  .next <|
    match s.moveOf e leaf with
    | none => s
    | some m =>
      if m.kind ≠ .promote ∨ !(s.extent e).any (fun x => x.inT1 leaf) then s
      else if (s.extent e).any fun x => x.leafPoisoned leaf then s.endMove e leaf
      else s.copyDone m

/-- WRITE_BACK_DONE: a dirty T0 leaf has been written to its home tier; an eviction then frees its frame (R43, R45). -/
def execWriteBackDone (e leaf : Nat) (s : State) : Out :=
  .next <|
    match s.moveOf e leaf with
    | none => s
    | some m => if m.kind = .promote ∨ s.itemDown e (2 * leaf) then s else (s.copyDone m).settle

/-- Start a background move: a PIN_HOT fetch brings its chunk into T1 first (R42); a write-back needs a dirty leaf. -/
def State.startMove (b : Background) (s : State) : State :=
  match s.extent b.extent with
  | none => s
  | some x =>
    if s.moving b.extent b.leaf then s
    else match b.kind with
      | .promote =>
        let s := if x.tier.isT2 ∧ !x.inT1 b.leaf then s.fetchChunk b.extent (b.leaf / 64) else s
        if x.leafPoisoned b.leaf ∨ !x.written.contains b.leaf then s else s.promote b.extent b.leaf
      | k =>
        match (x.chunkOf b.leaf).bind fun c => c.t0.look (b.leaf % 64) with
        | none => s
        | some f =>
          if f.dirty then s.modPool fun p => { p with moves := p.moves ++
            [{ extent := b.extent, leaf := b.leaf, kind := k, stack := f.stack, marked := [], recopies := 0 }] }
          else if k = .evict then s.modChunk b.extent (b.leaf / 64) fun c => { c with t0 := c.t0.del (b.leaf % 64) }
          else s

/-- BACKGROUND_MOVE_START: bandwidth of a tray port lets its next background move start (R46). -/
def execBackgroundMoveStart (tray : Nat) (s : State) : Out :=
  .next <|
    if !s.trayUp tray then s
    else match s.pool.background.find? fun b => b.tray == tray with
      | none => s
      | some b => (s.modPool fun p => { p with background := p.background.erase b }).startMove b

/-! ### Mirror and replica recovery -/

/-- A tray for a rebuilt copy: the next set bit of the mask after the lost one with room, never the other copy's tray; the
lost tray itself when no other has room. -/
def State.rebuildTray (s : State) (x : Extent) (lost other : Nat) : Nat :=
  let all := (setBits x.homeTrays.toNat 24).filter fun t => t != other
  let after := (all.dropWhile (· ≤ lost)) ++ all.takeWhile (· ≤ lost)
  let w := weightOf x.isProtected
  let room (t : Nat) : Bool := t != lost && s.trayUp t && decide (w ≤ (if x.tier.isT2 then s.t2Free x.comp t else s.t1Free x.comp t))
  (after.find? room).getD lost

/-- MIRROR_REBUILD_DONE: the stale copy of a chunk has been rebuilt from the other one (R47). -/
def execMirrorRebuildDone (e chunk : Nat) (s : State) : Out :=
  .next <|
    match s.extent e, (s.extent e).bind fun x => x.chunk chunk with
    | some x, some c =>
      match c.stale, c.mirror with
      | some t, some m =>
        let other := if t = c.tray then m else c.tray
        let n := s.rebuildTray x t other
        if !s.trayUp n ∨ !s.trayUp other then s
        else
          let s := s.modPool fun p => { p with background := p.background.filter fun b => !(b.extent == e && b.leaf / 64 == chunk && b.tray == other) }
          (s.modChunk e chunk fun c =>
            if t = c.tray then { c with tray := n, stale := none } else { c with mirror := some n, stale := none }).settle
      | _, _ => s
    | _, _ => s

/-- Close the request of the K9's own that fetched a leaf from a replica. -/
def State.closeReplica (e l : Nat) (s : State) : State :=
  s.modTx fun x => { x with own := x.own.keep fun _ o => !(o.purpose == 1 && o.object == e * 2 ^ 32 + l) }

/-- REPLICA_FETCH_DONE: the leaf is rewritten and served, and its sheaf queued for write-back; a fetch that failed is tried
again after 1 ms (R79). -/
def execReplicaFetchDone (e leaf : Nat) (ok : Bool) (s : State) : Out :=
  .next <|
    match s.extent e with
    | none => s
    | some x =>
      if x.replicaFetch.look leaf ≠ some true then s
      else
        let s := s.closeReplica e leaf
        if !ok then s.modExtent e fun x => { x with replicaFetch := x.replicaFetch.put leaf false }
        else
          let s := s.modExtent e fun x => { x with replicaFetch := x.replicaFetch.del leaf }
          let s := s.landLeaf e leaf
          let s := if x.tier.isT2 then s.modChunk e (leaf / 64) fun c => { c with inT1 := true, t1Dirty := true } else s
          ((s.dropLeaf e leaf).settle).arrived e leaf

/-- REPLICA_FETCH_RETRY. -/
def execReplicaFetchRetry (e leaf : Nat) (s : State) : Out :=
  .next <|
    if (s.extent e).any fun x => x.replicaFetch.look leaf == some false then
      (s.modExtent e fun x => { x with replicaFetch := x.replicaFetch.put leaf true }).askReplica e leaf
    else s

/-! ### The placement tick -/

/-- RECENCY_TICK. -/
def execRecencyTick (s : State) : Out := .next { s with clk := { s.clk with tick := s.clk.tick + 1 } }

/-- A stamp after the background pass. -/
def clampStamp (tick stamp : BitVec 16) : BitVec 16 := if 32768 < (tick - stamp).toNat then tick - 32768#16 else stamp

/-- AGE_PASS: no stamp stays older than 32,768 ticks. -/
def execAgePass (s : State) : Out :=
  .next <| s.modPool fun p => { p with extents := p.extents.each fun _ x => { x with
    chunks := x.chunks.each fun _ c => { c with stamp := clampStamp s.clk.tick c.stamp } } }

end Sys2Proof.Machine
end

