-- ==== Sys2Proof/Machine/Session.lean ====
section
/-! DEFINITION. Packets and sessions of the command protocol, the device state, and register access (R358 to R374):
NIROD_PART_RECEIVE to CSR_WRITE, the register writes with rows of their own, and the other traffic of the control
port. -/

namespace Sys2Proof.Machine

/-! ### Items (R360) -/

/-- The items of a stream: TYPE and VALUE, padded to four bytes. `fuel` bounds the walk. -/
def itemsOf : Nat → List Byte → List (Nat × List Byte)
  | 0, _ => []
  | fuel + 1, l =>
    if l.length < 4 then []
    else
      let n := leAt l 2 2
      (leAt l 0 2, (l.drop 4).take n) :: itemsOf fuel (l.drop (4 + ceilDiv n 4 * 4))

/-- The number in the first item of a type. -/
def itemNum (l : List Byte) (t : Nat) : Option Nat :=
  ((itemsOf l.length l).find? fun p => p.1 == t).map fun p => leNat p.2

/-- The composition of a coherence domain. -/
def State.domComp (s : State) (d : Nat) : Option Nat := (s.coh.look d).map Domain.comp

/-- The target of a KV object: its extent. -/
def State.targetKv (s : State) (k : Nat) : Target :=
  match s.pool.kv.look k with
  | some x => s.targetExtent x.extent
  | none => Target.none

/-- The target of a coherence domain. -/
def State.targetDom (s : State) (d : Nat) : Target := { Target.none with comp := s.domComp d }

/-- The target of a step-ledger job. -/
def State.targetJob (s : State) (j : Nat) : Target := { Target.none with comp := (s.work.jobs.look j).map Job.comp }

/-- What a received command acts on, by its opcode and first items (Table CM-4). -/
def State.targetOf (s : State) (op : Nat) (l : List Byte) : Target :=
  let i1 := itemNum l 1
  let i2 := itemNum l 2
  if op = 0x1003 ∨ op = 0x1004 ∨ op = 0x1005 then { Target.none with comp := i1, member := i2 }
  else if 0x1002 ≤ op ∧ op ≤ 0x1101 then { Target.none with comp := i1 }
  else if op = 0x1105 ∨ op = 0x1106 then { s.targetDom (i1.getD 64) with extent := i2 }
  else if 0x1102 ≤ op ∧ op ≤ 0x1108 then s.targetDom (i1.getD 64)
  else if op = 0x2001 then { Target.none with comp := i1 }
  else if 0x2002 ≤ op ∧ op ≤ 0x2008 then (i1.map s.targetExtent).getD Target.none
  else if op = 0x2101 then (i2.map s.targetExtent).getD Target.none
  else if op = 0x2103 then { Target.none with comp := i1 }
  else if 0x2102 ≤ op ∧ op ≤ 0x2108 then (i1.map s.targetKv).getD Target.none
  else if 0x2201 ≤ op ∧ op ≤ 0x2203 then { Target.none with comp := i1 }
  else if op = 0x2204 then (i1.map s.targetExtent).getD Target.none
  else if 0x3001 ≤ op ∧ op ≤ 0x3003 then { Target.none with comp := i1 }
  else if op = 0x3004 then (i1.map s.targetJob).getD Target.none
  else if 0x5004 ≤ op ∧ op ≤ 0x5007 then { Target.none with comp := i1 }
  else Target.none

/-- The opcodes of Table CM-4. -/
def opcodeKnown (op : Nat) : Bool :=
  decide (1 ≤ op ∧ op ≤ 6) || op == 0x10 || op == 0x11 || op == 0x20
    || decide (0x1001 ≤ op ∧ op ≤ 0x100A) || decide (0x1101 ≤ op ∧ op ≤ 0x1108) || decide (0x2001 ≤ op ∧ op ≤ 0x2008)
    || decide (0x2101 ≤ op ∧ op ≤ 0x2108) || decide (0x2201 ≤ op ∧ op ≤ 0x2204) || decide (0x3001 ≤ op ∧ op ≤ 0x3004)
    || decide (0x4001 ≤ op ∧ op ≤ 0x4005) || decide (0x4101 ≤ op ∧ op ≤ 0x4105) || decide (0x5001 ≤ op ∧ op ≤ 0x500B)
    || decide (0x6001 ≤ op ∧ op ≤ 0x6004) || op == 0x6101 || decide (0x7001 ≤ op ∧ op ≤ 0x7007)
    || decide (0x8001 ≤ op ∧ op ≤ 0x8003) || decide (0xF001 ≤ op ∧ op ≤ 0xF003)

/-! ### Packets (R358, R359, R361, R368 steps 1 to 7) -/

/-- PART_BYTES of a session; session 0 uses 1,152 (R361). -/
def State.partBytes (s : State) (i : Nat) : Nat := ((s.nirod.sessions.look i).map Session.partBytes).getD 1152

/-- Step 2 of R368: VERSION, reserved fields, LENGTH and PART. -/
def partWellFormed (partBytes : Nat) (p : NirodPart) : Bool :=
  p.version == 1 && !p.reply && p.resvZero && decide (p.length ≤ 8208) && decide (p.part ≤ 127)
    && p.length == p.stream.length + (if p.encrypted then 16 else 0)
    && decide (p.stream.length ≤ partBytes) && (!p.more || p.stream.length == partBytes)

/-- A reply in clear that is not cached. -/
def State.clearReply (p : NirodPart) (st : Nat) (items : List Item) (s : State) : State :=
  s.emit (.reply p.session p.seq p.opcode st items)

/-- The whole stream of an assembly, when every part up to the last has come. -/
def Assembly.whole (a : Assembly) : Option (List Byte) :=
  match a.last with
  | none => none
  | some n =>
    if (List.range (n + 1)).all fun k => a.parts.has k
    then some ((List.range (n + 1)).flatMap fun k => (a.parts.look k).getD [])
    else none

/-- A complete command message reaches steps 6 and 7 (R368). Session 0 keeps no sequence state (R363). -/
def State.messageIn (session seq op : Nat) (l : List Byte) (s : State) : State :=
  if 73728 < l.length then s.emit (.reply session seq op St.INVALID_PARAM [.detail Det.FAILED_ITEM 0xFFFF])
  else
    let r := if session = 0 then (true, s) else s.stepSix session seq op (s.targetOf op l)
    if !r.1 then r.2
    else if opcodeKnown op then r.2
    else (r.2.bump Reg.CM_CNT_UNKNOWN_OPCODE).reply
      { session := session, seq := seq, badItem := none } op St.UNKNOWN_OPCODE []

/-- Put a part into its message (R361); a repeated part is discarded. -/
def State.assemble (p : NirodPart) (s : State) : State :=
  let same (a : Assembly) : Bool := a.session == p.session && a.seq == p.seq
  let a : Assembly := (s.nirod.asm.find? same).getD
    { session := p.session, seq := p.seq, opcode := p.opcode, firstNs := s.clk.timeNs, last := none, parts := [] }
  let a := if a.parts.has p.part then a else
    { a with
      parts := a.parts.put p.part p.stream
      last := if p.more then a.last else some p.part }
  let rest := s.nirod.asm.filter fun x => !same x
  match a.whole with
  | none => s.modNirod fun n => { n with asm := rest ++ [a] }
  | some l => (s.modNirod fun n => { n with asm := rest }).messageIn p.session p.seq a.opcode l

/-- A Nirod packet arrives: steps 1 to 7 of R368. The command itself starts with its own row (R369). -/
def execNirodPartReceive (p : NirodPart) (s : State) : Out :=
  .next <|
    if !s.controlUp then s
    else if !p.hdrCrcOk then s.bump Reg.CM_CNT_HDR_CRC
    else if !partWellFormed (s.partBytes p.session) p then s.clearReply p St.INVALID_PARAM [.detail Det.FAILED_ITEM 0xFFFF]
    else if p.session = 0 then
      if p.encrypted ∨ p.seq ≠ 0 then s.clearReply p St.INVALID_PARAM [.detail Det.FAILED_ITEM 0xFFFF] else s.assemble p
    else if !s.nirod.sessions.has p.session then
      (s.bump Reg.CM_CNT_BAD_SESSION).clearReply p St.BAD_SESSION []
    else if !p.encrypted then s.clearReply p St.SESSION_REQUIRED []
    else if !p.tagOk then s.bump Reg.CM_CNT_TAG_FAIL
    else s.assemble p

/-- 100 ms after its first part, an unfinished message is discarded and counted (R361). -/
def execPartTimeout (session seq : Nat) (s : State) : Out :=
  .next <|
    match s.nirod.asm.find? fun a => a.session == session && a.seq == seq with
    | none => s
    | some a =>
      let s := s.advanceTo (a.firstNs + 100000000)
      (s.modNirod fun n => { n with asm := n.asm.filter fun x => !(x.session == session && x.seq == seq) }).bump
        Reg.CM_CNT_PART_TIMEOUT

/-- A session without a command for IDLE_S seconds ends (R367). -/
def execSessionIdleTimeout (session : Nat) (s : State) : Out :=
  .next <|
    match s.nirod.sessions.look session with
    | none => s
    | some x => (s.advanceTo (x.lastCmdNs + x.idleS * 1000000000)).endSession session

/-- A colophon snapshot is freed 10 s after its last read (R376). -/
def execSnapshotExpiry (session snap : Nat) (s : State) : Out :=
  .next <|
    match (s.nirod.sessions.look session).bind fun x => x.snaps.find? fun p => p.id == snap with
    | none => s
    | some p =>
      (s.advanceTo (p.readNs + 10000000000)).modSession session fun x => { x with snaps := x.snaps.filter fun p => p.id != snap }

/-- IPv6 neighbour discovery and echo are answered, ARP while IPv4 is enabled; other traffic is discarded (R358). -/
def execNeighbourDiscoveryEchoArp (k : NetKind) (s : State) : Out :=
  .next <|
    if !s.controlUp then s
    else match k with
      | .neighbourDiscovery => s.emit (.net k)
      | .icmpEcho => s.emit (.net k)
      | .arp => if bit (s.reg Reg.CM_NET_CFG) 16 then s.emit (.net k) else s
      | .other => s

/-! ### Sessions and device state (Table CM-4, 0x0001 to 0x0005) -/

/-- Does the key that signed FINISH admit a class (R364)? -/
def State.keyAdmits (s : State) (signer : Digest) (cls : Cls) (h : Option Nat) : Bool :=
  match cls with
  | .fabricManager => s.nirod.fmKeys.any fun p => decide (p.2 ≠ 0) && p.2 == signer
  | .owner => (h.bind s.comp).any fun c => c.ownerId == signer
  | .observer => (h.bind s.comp).any fun c => c.observers.contains signer

/-- SESSION_OPEN's effect (R363, R364). -/
def sessionOpenBody (cls compId spdm partBytes : Nat) (s : State) : Res :=
  if 2 < cls then invalid 0 s
  else if partBytes < 1024 ∨ 8192 < partBytes ∨ partBytes % 64 ≠ 0 then invalid 3 s
  else match s.nirod.sessions.look spdm with
    | none => invalid 2 s
    | some x =>
      if x.cls.isSome then ok [.num spdm, .num x.idleS] s
      else match x.signer with
        | none => invalid 2 s
        | some k =>
          let c : Cls := if cls = 0 then .fabricManager else if cls = 1 then .owner else .observer
          let h := if cls = 0 then none else s.handleOf compId
          if s.keyAdmits k c h then
            let idle := s.field Reg.CM_SESSION_CFG 15 0
            ok [.num spdm, .num idle] (s.modSession spdm fun x => { x with
              cls := some c
              comp := h.getD 256
              compId := compId
              partBytes := partBytes
              idleS := idle
              lastCmdNs := s.clk.timeNs })
          else fail St.NOT_AUTHORISED (s.bump Reg.SE_CNT_AUTH_FAIL)

/-- SESSION_OPEN (0x0001). -/
def execSessionOpen (c : Ctx) (cls compId spdm partBytes : Nat) (s : State) : Out :=
  .next <| nirod (.sessionOpen c cls compId spdm partBytes) c (Cmd.any 0x0001 Legal.A) Target.none
    (sessionOpenBody cls compId spdm partBytes) s

/-- SESSION_CLOSE (0x0002): the reply is sent, then the session ends and its cache goes (R367). -/
def execSessionClose (c : Ctx) (s : State) : Out :=
  .next <| nirod (.sessionClose c) c (Cmd.fob 0x0002 Legal.A) Target.none
    (fun s => wait ((s.reply c 0x0002 St.OK []).endSession c.session)) s

/-- NOP (0x0003). -/
def execNop (c : Ctx) (s : State) : Out :=
  .next <| nirod (.nop c) c (Cmd.any 0x0003 Legal.A) Target.none
    (fun s => ok [.num s.dev.state.code, .num s.clk.timeNs] s) s

/-- DEVICE_INFO (0x0004): ordering code (0 LC, 1 LH), silicon revision 0xA1, identity digest, node ID, state code,
single-die flag, SVN. -/
def execDeviceInfo (c : Ctx) (s : State) : Out :=
  .next <| nirod (.deviceInfo c) c (Cmd.any 0x0004 Legal.A) Target.none
    (fun s => ok [.num (b2n Config.isLh), .num 0xA1, .digest (Config.identity s.sec.identityGen), .num s.topo.node,
      .num s.dev.state.code, .num (b2n s.dev.singleDie), .num s.sec.svn] s) s

/-- The states from which DEVICE_STATE_SET may reach a target (Table CM-3, R372); MAINTENANCE holds no composition. -/
def State.deviceTargetLegal (s : State) (target : Nat) : Nat :=
  if target = 0 then 0x240
  else if target = 1 then 0x030
  else if target = 2 then if s.comps.isEmpty then 0x150 else 0x010
  else 0xFFFF

/-- READY or SERVING, by whether any composition exists (Table CM-3). -/
def State.activeState (s : State) : DevState := if s.comps.isEmpty then .ready else .serving

/-- DEVICE_STATE_SET's effect. Leaving FAULTED lifts FAULT_N; its credits flow again (R371, State.withholds). -/
def deviceStateBody (target : Nat) (s : State) : Res :=
  if 2 < target then invalid 0 s
  else
    let d : DevState := if target = 1 then .draining else if target = 2 then .maintenance else s.activeState
    let s := if s.dev.state = .faulted then
        { s with pins := { s.pins with faultLow := false } } else s
    let s := s.enter d
    ok [.num d.code] s

/-- DEVICE_STATE_SET (0x0005). -/
def execDeviceStateSet (c : Ctx) (target : Nat) (s : State) : Out :=
  .next <| nirodFull (.deviceStateSet c target) c (Cmd.f 0x0005 0) Target.none (fun s => s.deviceTargetLegal target)
    (deviceStateBody target) s

/-! ### Registers (R374) -/

/-- CSR_READ (0x0010): an address that is no register fails the whole command. -/
def execCsrRead (c : Ctx) (addrs : List Nat) (s : State) : Out :=
  .next <| nirod (.csrRead c addrs) c (Cmd.f 0x0010 Legal.R) Target.none (fun s =>
    if addrs.isEmpty ∨ 256 < addrs.length then invalid 0 s
    else match addrs.findIdx? fun a => (regKind a).isNone with
      | some i => invalid i s
      | none =>
        let r := s.csrReads addrs
        ok r.1 r.2) s

/-- A tray that was up in `before` and is no longer counts TRAY_DOWN for what waits there (R58). -/
def State.dropTrays (s before : State) : State :=
  ((List.range 24).filter fun t => before.trayUp t && !s.trayUp t).foldl (fun s t => s.trayLost t) s

/-- A CSR_WRITE's effect: every entry runs, in order; ST_OK when every one is WRITTEN. -/
def csrWriteBody (pairs : List (Nat × Word)) (s : State) : Res :=
  if pairs.isEmpty ∨ 256 < pairs.length then invalid 0 s
  else
    let r := s.csrWrites pairs
    (r.2.dropTrays s, some (if r.1.all (· == 0) then St.OK else St.CSR_REFUSED, r.1.map .num))

/-- CSR_WRITE (0x0011). -/
def execCsrWrite (c : Ctx) (pairs : List (Nat × Word)) (s : State) : Out :=
  .next <| nirod (.csrWrite c pairs) c (Cmd.f 0x0011 Legal.C) Target.none (csrWriteBody pairs) s

/-- LOCK_SET: a write of a block's LOCK register (R9). -/
def execLockSet (c : Ctx) (addr : Nat) (value : Word) (s : State) : Out :=
  .next <| nirod (.lockSet c addr value) c (Cmd.f 0x0011 Legal.C) Target.none (csrWriteBody [(addr, value)]) s

/-- EVC_SOFT_SET_WRITE (R379). -/
def execEvcSoftSetWrite (c : Ctx) (value : Word) (s : State) : Out :=
  .next <| nirod (.evcSoftSetWrite c value) c (Cmd.f 0x0011 Legal.C) Target.none
    (csrWriteBody [(Reg.EVC_SOFT_SET, value)]) s

/-- EVC_PENDING_CLEAR (R383): the operand says whether hardware sets the bit in the same MGMT cycle. -/
def execEvcPendingClear (c : Ctx) (value : Word) (setInSameCycle : Bool) (s : State) : Out :=
  .next <| nirod (.evcPendingClear c value setInSameCycle) c (Cmd.f 0x0011 Legal.C) Target.none (fun s =>
    let r := s.clearPending value.toNat setInSameCycle
    ok [.num r.2] r.1) s

/-- EVC_TGT_CLAIM_READ: a read by core `core` claims the offer (R386). Only a running core reads. -/
def execEvcTgtClaimRead (core : Nat) (s : State) : Out :=
  .next <| if core < 8 ∧ s.targetPresent core then (s.claim core none).2 else s

/-- EVC_TGT_COMPLETE_WRITE: a write by core `core` completes an event it holds (R387). -/
def execEvcTgtCompleteWrite (core : Nat) (value : Word) (s : State) : Out :=
  .next <| if core < 8 ∧ s.targetPresent core then s.complete core (bits value.toNat 9 0) else s

/-- SW_HIST_CLEAR (R238). -/
def execSwHistClear (c : Ctx) (value : Word) (s : State) : Out :=
  .next <| nirod (.swHistClear c value) c (Cmd.f 0x0011 Legal.C) Target.none (csrWriteBody [(Reg.SW_HIST_CTL, value)]) s

/-- SW_Q_SHAPER_WRITE: a write of SW_Q_SHAPER or SW_Q_BURST (R237). -/
def execSwQShaperWrite (c : Ctx) (addr : Nat) (value : Word) (s : State) : Out :=
  .next <| nirod (.swQShaperWrite c addr value) c (Cmd.f 0x0011 Legal.C) Target.none (csrWriteBody [(addr, value)]) s

/-- FURROW_SLOT_WRITE (R242): the register changes now; slots change owner at the next frame boundary. -/
def execFurrowSlotWrite (c : Ctx) (slot : Nat) (value : Word) (s : State) : Out :=
  .next <| nirod (.furrowSlotWrite c slot value) c (Cmd.f 0x0011 Legal.C) Target.none (fun s =>
    if 64 ≤ slot then (s, some (St.CSR_REFUSED, [.num Wr.NO_REGISTER]))
    else csrWriteBody [(Reg.FURROW_SLOT + 4 * slot, value)] s) s

/-- JRN_CLEAR_PATHS (R405). -/
def execJrnClearPaths (c : Ctx) (value : Word) (s : State) : Out :=
  .next <| nirod (.jrnClearPaths c value) c (Cmd.f 0x0011 Legal.C) Target.none (csrWriteBody [(Reg.JRN_CTL, value)]) s

/-- JRN_SEL_WRITE (R416). -/
def execJrnSelWrite (c : Ctx) (value : Word) (s : State) : Out :=
  .next <| nirod (.jrnSelWrite c value) c (Cmd.f 0x0011 Legal.C) Target.none (csrWriteBody [(Reg.JRN_SEL, value)]) s

/-- REC_CLOG_SEL_WRITE (R423). -/
def execRecClogSelWrite (c : Ctx) (value : Word) (s : State) : Out :=
  .next <| nirod (.recClogSelWrite c value) c (Cmd.f 0x0011 Legal.C) Target.none (csrWriteBody [(Reg.REC_CLOG_SEL, value)]) s

/-- LK_PORT_ENABLE: a write of LK_PORT_CFG with ENABLE 1 (R250). -/
def execLkPortEnable (c : Ctx) (value : Word) (s : State) : Out :=
  .next <| nirod (.lkPortEnable c value) c (Cmd.f 0x0011 Legal.C) Target.none (csrWriteBody [(Reg.LK_PORT_CFG, value)]) s

/-- LK_PORT_DISABLE: a write of LK_PORT_CFG with ENABLE 0 (R250). -/
def execLkPortDisable (c : Ctx) (value : Word) (s : State) : Out :=
  .next <| nirod (.lkPortDisable c value) c (Cmd.f 0x0011 Legal.C) Target.none (csrWriteBody [(Reg.LK_PORT_CFG, value)]) s

/-- LK_SPLIT_SET: a write of LK_PORT_CFG with a new SPLIT (R247). -/
def execLkSplitSet (c : Ctx) (value : Word) (s : State) : Out :=
  .next <| nirod (.lkSplitSet c value) c (Cmd.f 0x0011 Legal.C) Target.none (csrWriteBody [(Reg.LK_PORT_CFG, value)]) s

end Sys2Proof.Machine
end

