-- ==== Sys2Proof/Machine/Coherence.lean ====
section
/-! DEFINITION. Coherence domains (chapter 09): the commands of Table CH-1, the coherence requests of Table CH-5, and the
answers to snoops. -/

namespace Sys2Proof.Machine

/-! ### Requests of agents -/

/-- CH_READ_SHARED (0x40). -/
def execChReadShared (h : Hdr) (s : State) : Out := .next (s.cohRequest { opcode := 0x40, hdr := h, data := [] })

/-- CH_READ_OWN (0x41). -/
def execChReadOwn (h : Hdr) (s : State) : Out := .next (s.cohRequest { opcode := 0x41, hdr := h, data := [] })

/-- CH_UPGRADE (0x42). -/
def execChUpgrade (h : Hdr) (s : State) : Out := .next (s.cohRequest { opcode := 0x42, hdr := h, data := [] })

/-- CH_WRITEBACK (0x43). -/
def execChWriteback (h : Hdr) (data : List Byte) (s : State) : Out :=
  .next (s.cohRequest { opcode := 0x43, hdr := h, data := data })

/-- CH_EVICT_CLEAN (0x44). -/
def execChEvictClean (h : Hdr) (s : State) : Out := .next (s.cohRequest { opcode := 0x44, hdr := h, data := [] })

/-- Agent `agent` of domain `d` answers SNP_INVALIDATE for a line: no data, or the 128 bytes of a D line (Table CH-3). -/
def execSnpInvalidateResp (d agent line : Nat) (data : List Byte) (s : State) : Out :=
  .next (s.answerSnoop d agent line (some 0) (data.take 128) false)

/-- An answer to SNP_SHARE. -/
def execSnpShareResp (d agent line : Nat) (data : List Byte) (s : State) : Out :=
  .next (s.answerSnoop d agent line (some 1) (data.take 128) false)

/-- An answer to SNP_OWN. -/
def execSnpOwnResp (d agent line : Nat) (data : List Byte) (s : State) : Out :=
  .next (s.answerSnoop d agent line (some 2) (data.take 128) false)

/-- SNOOP_TIMEOUT: the snoop is sent again with RETRY set, up to TX_RETRY_LIMIT times; after the last the agent is marked
UNRESPONSIVE and CH_AGENT_UNRESPONSIVE is raised (R219). -/
def execSnoopTimeout (d agent line : Nat) (s : State) : Out :=
  .next <|
    match (s.coh.look d).bind fun x => x.snoops.find? fun q => q.line == line && q.agent == agent with
    | none => s
    | some q =>
      let s := s.bumpDom d Reg.CHCNT_SNOOP_TIMEOUT
      let node := ((s.coh.look d).bind fun x => x.agents.look agent).map Agent.node
      if q.tries < s.field Reg.TX_RETRY_LIMIT 3 0 then
        let s := s.modDom d fun x => { x with snoops := x.snoops.map fun y => if y = q then { y with tries := y.tries + 1 } else y }
        match s.tx.own.find? fun o => o.2.purpose == 3 && o.2.object == line && some o.2.pkt.hdr.dst == node
            && o.2.pkt.opcode == 0x50 + q.kind with
        | some (tag, o) =>
          let p := { o.pkt with hdr := ({ o.pkt.hdr with retry := true }).sealed o.pkt.opcode }
          (s.modTx fun x => { x with own := x.own.put tag { o with pkt := p, tries := o.tries + 1 } }).route p none
        | none => s
      else
        let was := ((s.coh.look d).bind fun x => x.agents.look agent).any Agent.unresponsive
        let s := s.modDom d fun x => { x with agents := x.agents.change agent fun a => { a with unresponsive := true } }
        if was then s else s.occur Ev.CH_AGENT_UNRESPONSIVE d agent

/-! ### Commands (Table CH-1) -/

/-- Entries allotted to domains, on chip and in overflow (R212). -/
def State.cohAllotted (s : State) : Nat × Nat :=
  (sumOf s.coh.vals Domain.onchip, sumOf s.coh.vals Domain.overflow)

/-- COH_DOMAIN_CREATE (0x1101). -/
def execCohDomainCreate (c : Ctx) (h onchip overflow : Nat) (s : State) : Out :=
  .next <| nirod (.cohDomainCreate c h onchip overflow) c (Cmd.fo 0x1101 Legal.S) (Target.ofComp h) (fun s =>
    if (s.comp h).isNone then fail St.NOT_FOUND s
    else if 2097152 < onchip then invalid 1 s
    else if overflow < 1024 ∨ 134217728 < overflow then invalid 2 s
    else match s.coh.lowestFree 0 64 with
      | none => fail St.NO_CAPACITY s
      | some d =>
        if 2097152 < s.cohAllotted.1 + onchip ∨ 134217728 < s.cohAllotted.2 + overflow then fail St.NO_CAPACITY s
        else
          let x : Domain := { comp := h, agents := [], extents := [], onchip := onchip, overflow := overflow, dir := [],
                              snoops := [], grants := [], nextGrant := 0, cnt := [], recaller := none }
          ok [.num d] { s with coh := s.coh.put d x }) s

/-- Start recalling lines for a command; it waits for COH_RECALL_DONE, unless there is no line with a holder. -/
def State.startRecall (d agent : Nat) (lines : List Nat) (c : Ctx) (op what : Nat) (s : State) : State :=
  let s := s.modDom d fun x => { x with recaller := some (c.session, c.seq, op, what, lines.length) }
  lines.foldl (fun s q => s.recallLine d agent q) s

/-- Are recall snoops of a domain still unanswered? -/
def Domain.recalling (x : Domain) : Bool := x.grants.any fun g => decide (g.why = .recall)

/-- The lines of an extent in a domain's directory. -/
def State.linesOf (s : State) (d e : Nat) : List Nat :=
  match s.coh.look d, s.extent e with
  | some dm, some x => (dm.dir.filter fun q => decide (x.base ≤ 128 * q.1 ∧ 128 * q.1 < x.base + x.size)).map Prod.fst
  | _, _ => []

/-- The end of a recall: the domain, extent or agent goes, and the reply is made (Table CH-1). -/
def State.endRecall (d op what n : Nat) (s : State) : State × List Item :=
  if op = 0x1102 then
    let gone := ((s.coh.look d).map fun x => countIf x.dir.vals fun y => decide (y.state = .reclaimed)).getD 0
    ({ s with coh := s.coh.del d }, [.num n, .num gone])
  else if op = 0x1106 then
    let lines := s.linesOf d what
    (s.modDom d fun x => { x with
      extents := x.extents.filter (· != what)
      dir := x.dir.keep fun k _ => !lines.contains k }, [.num n])
  else if op = 0x1104 then (s.modDom d fun x => { x with agents := x.agents.del what }, [.num n])
  else
    -- COMP_MEMBER_REMOVE in RECALL mode: the agents of the ports that are bound no longer
    let bound (c : Nat) (a : Agent) : Bool := (s.comp c).any fun y => y.members.any fun m => m.lport == a.lport && m.node == a.node
    (s.modDom d fun x => { x with agents := x.agents.keep fun _ a => bound x.comp a }, [])

/-- Run a recalling command: at once when nothing is held, else until COH_RECALL_DONE. -/
def State.recallCommand (d agent : Nat) (lines : List Nat) (c : Ctx) (op what : Nat) (s : State) : Res :=
  let s := s.startRecall d agent lines c op what
  if (s.coh.look d).any Domain.recalling then wait s
  else
    let r := s.endRecall d op what lines.length
    ok r.2 (r.1.modDom d fun x => { x with recaller := none })

/-- COH_RECALL_DONE: every recalled line is answered or reclaimed; the waiting command replies. -/
def execCohRecallDone (d : Nat) (s : State) : Out :=
  .next <|
    match s.coh.look d with
    | none => s
    | some x =>
      match x.recaller with
      | none => s
      | some (sess, seq, op, what, n) =>
        if x.recalling then s
        else
          let s := s.modDom d fun x => { x with recaller := none }
          let r := s.endRecall d op what n
          if op = 0x1004 then r.1.settle
          else (r.1.reply { session := sess, seq := seq, badItem := none } op St.OK r.2).settle

/-- A domain command's body: the domain must exist. -/
def withDomain (d : Nat) (f : Domain → State → Res) (s : State) : Res :=
  match s.coh.look d with
  | none => fail St.NOT_FOUND s
  | some x => f x s

/-- COH_DOMAIN_DESTROY (0x1102). -/
def execCohDomainDestroy (c : Ctx) (d : Nat) (s : State) : Out :=
  .next <| nirod (.cohDomainDestroy c d) c (Cmd.fo 0x1102 Legal.L) (s.targetDom d) (withDomain d fun x s =>
    if x.recaller.isSome then fail St.EXTENT_BUSY s
    else s.recallCommand d 16 ((x.dir.filter fun q => decide (q.2.state ≠ .reclaimed)).map Prod.fst) c 0x1102 0) s

/-- COH_AGENT_ADD (0x1103): a (node, port) pair bound to the composition; an index in use with the same pair updates HOPS. -/
def execCohAgentAdd (c : Ctx) (d idx node lport hops : Nat) (s : State) : Out :=
  .next <| nirod (.cohAgentAdd c d idx node lport hops) c (Cmd.fo 0x1103 Legal.L) (s.targetDom d) (withDomain d fun x s =>
    if 15 < idx then invalid 1 s
    else if 15 < hops then invalid 4 s
    else if !((s.comp x.comp).any fun y => y.members.any fun m => m.lport == lport && m.node == node) then invalid 2 s
    else match x.agents.look idx with
      | some a =>
        if a.node = node ∧ a.lport = lport then
          ok [] (s.modDom d fun x => { x with agents := x.agents.put idx { a with hops := hops } })
        else fail St.EXTENT_BUSY s
      | none =>
        ok [] (s.modDom d fun x => { x with
          agents := x.agents.put idx { node := node, lport := lport, hops := hops, unresponsive := false } })) s

/-- COH_AGENT_REMOVE (0x1104): RECALL snoops the agent's lines back, RECLAIM takes them without a snoop (R220). -/
def execCohAgentRemove (c : Ctx) (d idx : Nat) (reclaim : Bool) (s : State) : Out :=
  .next <| nirod (.cohAgentRemove c d idx reclaim) c (Cmd.fo 0x1104 Legal.L) (s.targetDom d) (withDomain d fun x s =>
    if !x.agents.has idx then fail St.NOT_FOUND s
    else if reclaim then
      let r := s.reclaimAgent d idx
      ok [.num r.2] r.1
    else if x.recaller.isSome then fail St.EXTENT_BUSY s
    else s.recallCommand d idx ((x.dir.filter fun q => q.2.holders.contains idx).map Prod.fst) c 0x1104 idx) s

/-- COH_EXTENT_ATTACH (0x1105), with the refusals of R207. -/
def execCohExtentAttach (c : Ctx) (d e : Nat) (s : State) : Out :=
  .next <| nirod (.cohExtentAttach c d e) c (Cmd.fo 0x1105 Legal.L) { s.targetDom d with extent := some e }
    (withDomain d fun x s =>
      match s.extent e with
      | none => invalid 1 s
      | some y =>
        if y.comp ≠ x.comp ∨ (y.state ≠ .active ∧ y.state ≠ .sealed) then invalid 1 s
        else if y.vq then fail St.LAYOUT_MISMATCH s
        else if (s.domainOf e).isSome then fail St.EXTENT_BUSY s
        else ok [] (s.modDom d fun x => { x with extents := insertAsc e x.extents })) s

/-- COH_EXTENT_DETACH (0x1106). -/
def execCohExtentDetach (c : Ctx) (d e : Nat) (s : State) : Out :=
  .next <| nirod (.cohExtentDetach c d e) c (Cmd.fo 0x1106 Legal.L) { s.targetDom d with extent := some e }
    (withDomain d fun x s =>
      if !x.extents.contains e then invalid 1 s
      else if x.recaller.isSome then fail St.EXTENT_BUSY s
      else s.recallCommand d 16 (s.linesOf d e) c 0x1106 e) s

/-- COH_RECLAIM_CLEAR (0x1107): RECLAIMED entries of an extent, or of all, are freed unanswered. -/
def execCohReclaimClear (c : Ctx) (d e : Nat) (s : State) : Out :=
  .next <| nirod (.cohReclaimClear c d e) c (Cmd.fo 0x1107 Legal.L)
    { s.targetDom d with extent := if e = 0 then none else some e } (withDomain d fun x s =>
      if e ≠ 0 ∧ !x.extents.contains e then invalid 1 s
      else
        let lines := s.linesOf d e
        let hit (k : Nat) (y : DirEntry) : Bool := decide (y.state = .reclaimed) && (e == 0 || lines.contains k)
        let n := countIf x.dir fun q => hit q.1 q.2
        ok [.num n] ((s.modDom d fun x => { x with dir := x.dir.keep fun k y => !hit k y }).settle)) s

/-- COH_DOMAIN_INFO (0x1108): agents with HOPS, the unresponsive mask, extents, entries in use, RECLAIMED entries. -/
def execCohDomainInfo (c : Ctx) (d : Nat) (s : State) : Out :=
  .next <| nirod (.cohDomainInfo c d) c (Cmd.fo 0x1108 Legal.R) (s.targetDom d) (withDomain d fun x s =>
    let mask := x.agents.foldl (fun n q => if q.2.unresponsive then n + 2 ^ q.1 else n) 0
    ok (x.agents.flatMap (fun q => [.num q.1, .num q.2.node, .num q.2.lport, .num q.2.hops]) ++ [.num mask]
      ++ x.extents.map .num ++ [.num x.dir.length, .num (countIf x.dir.vals fun y => decide (y.state = .reclaimed))]) s) s

end Sys2Proof.Machine
end

