-- ==== Sys2Proof/Machine/Flash.lean ====
section
/-! DEFINITION. Flash media management (chapter 03): tray attach, the retry ladder, programming, relocation, erasure, wear,
retention, retirement and checkpoints. A superblock that `Tray.sbs` does not list has never been used. The numbers of the
two checkpoint superblocks are the last two (log entry 23). -/

namespace Sys2Proof.Machine

/-! ### Superblocks -/

/-- A superblock that was never used. -/
def Superblock.fresh : Superblock where
  closed := false
  valid := []
  next := 0
  erases := 0
  reads := 0
  ageNs := 0
  retire := []
  moving := 0

/-- Superblock `n` of a tray. -/
def Tray.sb (t : Tray) (n : Nat) : Superblock := (t.sbs.look n).getD Superblock.fresh

/-- Change a superblock. -/
def State.modSb (t n : Nat) (f : Superblock → Superblock) (s : State) : State :=
  s.modTray t fun r => { r with sbs := r.sbs.put n (f (r.sb n)) }

/-- May superblock `n` be opened? -/
def Tray.sbFree (t : Tray) (n : Nat) : Bool :=
  t.openWrite != some n && t.openMove != some n && !(t.sb n).closed && decide ((t.sb n).next = 0)

/-- The free superblock to open (R74): lowest erase count, then lowest number. One that is not listed has count 0. -/
def Tray.pickSb (t : Tray) : Option Nat :=
  let unlisted := (List.range (t.sbs.length + 1)).find? fun n => !t.sbs.has n && decide (n + 2 < t.goodSb)
  let listed := (t.sbs.filter fun q => t.sbFree q.1).map fun q => (q.1, q.2.erases)
  let all := (unlisted.map fun n => (n, 0)).toList ++ listed
  (all.foldl (fun (b : Option (Nat × Nat)) q => match b with
    | none => some q
    | some p => if q.2 < p.2 ∨ (q.2 = p.2 ∧ q.1 < p.1) then some q else some p) none).map Prod.fst

/-- Start to move the valid sheaves of a superblock: 1 GC, 2 refresh, 3 read disturb, 4 wear. One without any is erased at
once. -/
def State.moveSb (t n why : Nat) (s : State) : State :=
  let b := (s.tray t).sb n
  if b.moving ≠ 0 then s
  else
    let s := s.modSb t n fun b => { b with moving := why }
    if b.valid.isEmpty then s.emit (.bridge t 5 [n])
    else b.valid.foldl (fun s k =>
      let slot := (s.mapEntry k).slot
      (s.modTray t fun r => { r with relocating := r.relocating ++ [(k, n, slot, why)] }).emit (.bridge t 4 [k, n, slot])) s

/-- The victim of garbage collection (R72). -/
def Tray.gcVictim (t : Tray) : Option Nat :=
  ((t.sbs.filter fun q => q.2.closed && q.2.moving == 0).foldl (fun (b : Option (Nat × Superblock)) q => match b with
    | none => some q
    | some p =>
      let less := q.2.valid.length < p.2.valid.length ∨ (q.2.valid.length = p.2.valid.length ∧ q.2.erases < p.2.erases)
      if less then some q else some p) none).map Prod.fst

/-- Garbage collection runs while the free superblocks are below GC_START_SB, one victim at a time (R72); below
GC_URGENT_SB the tray is urgent (R66). -/
def State.checkGc (t : Nat) (s : State) : State :=
  let s := s.modTray t fun r => { r with urgent := decide (r.freeSb < s.field Reg.FLASH_GC_CFG 15 0) }
  let r := s.tray t
  if r.freeSb < s.field Reg.FLASH_GC_CFG 31 16 ∧ !(r.sbs.vals.any fun b => b.moving == 1) then
    match r.gcVictim with
    | some n => s.moveSb t n 1
    | none => s
  else s

/-- The next slot of a stream of a tray (R70), opening a superblock when there is none. -/
def State.nextSlot (t : Nat) (moves : Bool) (s : State) : Option (Nat × Nat) × State :=
  let r := s.tray t
  let opened := if moves then r.openMove else r.openWrite
  let use (n : Nat) (s : State) : Option (Nat × Nat) × State :=
    let slot := ((s.tray t).sb n).next
    let s := s.modSb t n fun b => { b with next := slot + 1, closed := decide (1023 ≤ slot) }
    let s := if 1023 ≤ slot then s.modTray t fun r => if moves then { r with openMove := none } else { r with openWrite := none }
      else s
    (some (n, slot), s)
  match opened with
  | some n => use n s
  | none =>
    match r.pickSb with
    | none => (none, s)
    | some n =>
      let s := s.modTray t fun r => if moves then { r with openMove := some n, freeSb := r.freeSb - 1 }
        else { r with openWrite := some n, freeSb := r.freeSb - 1 }
      use n (s.checkGc t)

/-- The map entry of a sheaf moves to a new slot, and the old slot becomes invalid (R70). -/
def State.mapTo (t n sb slot : Nat) (s : State) : State :=
  let old := s.mapEntry n
  let s := if old.valid then s.modSb old.tray old.sb fun b => { b with valid := b.valid.filter (· != n) } else s
  let s := s.modSb t sb fun b => { b with valid := insertAsc n b.valid }
  let s := s.modTray t fun r => { r with writeSeq := r.writeSeq + 1, sinceCkpt := r.sinceCkpt + 1 }
  s.modMap n fun m => { m with valid := true, tray := t, sb := sb, slot := slot }

/-! ### Retirement and tray states (R78, Table FM-5) -/

/-- The state a reserve gives; it never rises while the tray stays attached. -/
def trayStateOf (reserve : Nat) : TrayState :=
  if 4096 ≤ reserve then .normal else if 512 ≤ reserve then .spareLow else .worn

/-- Lower the state of an attached tray to what its reserve gives, raising the event of the state entered. -/
def State.checkReserve (t : Nat) (s : State) : State :=
  let r := s.tray t
  let n := trayStateOf r.reserve
  if r.state = .absent ∨ r.state = .rejected ∨ n.code ≤ r.state.code then s
  else
    let s := s.modTray t fun r => { r with state := n }
    if n = .worn then s.occur Ev.FLASH_WORN t r.reserve else s.occur Ev.FLASH_SPARE_LOW t r.reserve

/-- The blocks marked for retirement in an empty superblock: a spare of the same die takes each one's place; without one
the whole superblock is retired and the reserve falls. -/
def State.retireBlocks (t n : Nat) (s : State) : State :=
  let dies := ((s.tray t).sb n).retire.eraseDups
  let s := s.bumpTrayBy t Reg.FLASH_CNT_RETIRED_BLOCKS dies.length
  let short := dies.any fun d => (s.tray t).spares.num d == 0
  let s := dies.foldl (fun s d => s.modTray t fun r => { r with spares := r.spares.put d (r.spares.num d - 1) }) s
  if short then
    (s.modTray t fun r => { r with
      goodSb := r.goodSb - 1
      reserve := r.reserve - 1
      sbs := r.sbs.put n { (r.sb n) with closed := true, valid := [], next := 1024, moving := 5 } }).checkReserve t
  else (s.modSb t n fun b => { b with retire := [] }).modTray t fun r => { r with freeSb := r.freeSb + 1 }

/-- A block of die `d` of a superblock is to be retired once its sheaves have moved (R78). -/
def State.markRetire (t n d : Nat) (s : State) : State := s.modSb t n fun b => { b with retire := b.retire ++ [d % 64] }

/-- The block that holds page `p` of a sheaf: the sheaf's superblock is refreshed, and the block retired (R76, R78). -/
def State.retirePage (n p : Nat) (s : State) : State :=
  let m := s.mapEntry n
  if m.valid then (s.markRetire m.tray m.sb p).moveSb m.tray m.sb 2 else s

/-- A superblock whose last valid sheaf has moved away is erased. -/
def State.eraseIfEmpty (t n : Nat) (s : State) : State :=
  let b := (s.tray t).sb n
  if b.moving ≠ 0 ∧ b.valid.isEmpty ∧ !((s.tray t).relocating.any fun q => q.2.1 == n) then s.emit (.bridge t 5 [n]) else s

/-! ### Reads (R75 to R80) -/

/-- A sheaf read counts against its superblock; at READ_DISTURB_LIMIT the superblock is moved (R77). -/
def State.countRead (n : Nat) (s : State) : State :=
  let m := s.mapEntry n
  if !m.valid then s
  else
    let s := s.modSb m.tray m.sb fun b => { b with reads := b.reads + 1 }
    if s.reg Reg.FLASH_DISTURB_CFG ≤ ((s.tray m.tray).sb m.sb).reads then s.moveSb m.tray m.sb 3 else s

/-- Is any page of leaf `k` of a sheaf on the ladder? -/
def Tray.leafOnLadder (t : Tray) (n k : Nat) : Bool := t.ladder.any fun q => q.sheaf == n && q.page / 2 == k

/-- Leaf `k` of a sheaf has been read: it lands in T1 and those that wait for it are served; the mirror's copy also
restores the home's. -/
def State.leafRead (n k : Nat) (s : State) : State :=
  match s.ofSheaf n with
  | none => s
  | some (e, c, h, mirror) =>
    let l := 64 * c + 32 * h + k
    match s.extent e with
    | none => s
    | some x =>
      if x.leafPoisoned l then s
      else
        let s := if mirror then
            let missing := (x.chunk c).any fun q => q.arriving.contains (l % 64)
            let s := s.landLeaf e l
            if missing then s.modChunk e c fun q => { q with t1Dirty := true } else s
          else s.landLeaf e l
        let s := s.dropItem e (2 * l + b2n mirror)
        let s := if mirror then s else s.dropItem e (2 * l)
        s.settle.arrived e l

/-- PAGE_READ_RESULT: the leaves whose pages all decoded land; every failed page starts the ladder (R75). -/
def execPageReadResult (tray sheaf : Nat) (failed : List Nat) (s : State) : Out :=
  .next <|
    match s.ofSheaf sheaf with
    | none => s
    | some (e, c, _, mirror) =>
      let t := ((s.extent e).bind fun x => x.chunk c).bind fun q => if mirror then q.mirror else some q.tray
      if t ≠ some tray then s
      else
        let s := s.countRead sheaf
        let bad := (failed.filter (· < 64)).eraseDups
        let s := bad.foldl (fun s p =>
          if (s.tray tray).ladder.any fun q => q.sheaf == sheaf && q.page == p then s
          else (s.modTray tray fun r => { r with
            ladder := r.ladder ++ [{ tray := tray, sheaf := sheaf, page := p, step := 1 }] }).emit
              (.bridge tray 1 [sheaf, p, 1])) s
        ((List.range 32).filter fun k => !(s.tray tray).leafOnLadder sheaf k).foldl (fun s k => s.leafRead sheaf k) s

/-- A page leaves the ladder. -/
def State.offLadder (t n p : Nat) (s : State) : State :=
  s.modTray t fun r => { r with ladder := r.ladder.filter fun q => !(q.sheaf == n && q.page == p) }

/-- A page is recovered at a step of the ladder: its leaf lands when its other page is good too. A read at step
REFRESH_RETRY_LEVEL or higher refreshes the superblock (R76). -/
def State.pageGood (t n p step : Nat) (s : State) : State :=
  let s := (s.offLadder t n p).bumpTray t (if step = 9 then Reg.FLASH_CNT_SOFT_READS else Reg.FLASH_CNT_RETRY_READS)
  let m := s.mapEntry n
  let s := if (step = 9 ∨ s.field Reg.FLASH_REFRESH_CFG 19 16 ≤ step) ∧ m.valid then s.moveSb m.tray m.sb 2 else s
  if (s.tray t).leafOnLadder n (p / 2) then s else s.leafRead n (p / 2)

/-- A page is uncorrectable (R78 to R80). -/
def State.pageLost (t n p : Nat) (s : State) : State :=
  let s := (s.offLadder t n p).bumpTray t Reg.FLASH_CNT_UE_PAGES
  let s := s.retirePage n p
  match s.ofSheaf n with
  | none => s
  | some (e, c, h, mirror) => (s.ueT2 e (64 * c + 32 * h + p / 2) mirror).settle

/-- The ladder entry of a page. -/
def State.ladderOf (s : State) (t n p : Nat) : Option Ladder := (s.tray t).ladder.find? fun q => q.sheaf == n && q.page == p

/-- RETRY_STEP_RESULT: steps 1 to 8 of Table FM-3. -/
def execRetryStepResult (tray sheaf page : Nat) (ok : Bool) (s : State) : Out :=
  .next <|
    match s.ladderOf tray sheaf page with
    | none => s
    | some q =>
      if 9 ≤ q.step then s
      else if ok then s.pageGood tray sheaf page q.step
      else
        let up (w : Ladder) : Ladder := if w = q then { w with step := w.step + 1 } else w
        (s.modTray tray fun r => { r with ladder := r.ladder.map up }).emit
          (if q.step = 8 then .bridge tray 2 [sheaf, page] else .bridge tray 1 [sheaf, page, q.step + 1])

/-- SOFT_READ_RESULT: step 9, or the page is uncorrectable. -/
def execSoftReadResult (tray sheaf page : Nat) (ok : Bool) (s : State) : Out :=
  .next <|
    match s.ladderOf tray sheaf page with
    | none => s
    | some q =>
      if q.step ≠ 9 then s
      else if ok then s.pageGood tray sheaf page 9
      else s.pageLost tray sheaf page

/-! ### Programs, relocations and erasures -/

/-- When no sheaf of a chunk is being programmed any more, its T1 copy is clean, and dropped if that was asked for. -/
def State.chunkClean (e c : Nat) (s : State) : State :=
  match s.extent e, (s.extent e).bind fun x => x.chunk c with
  | some x, some k =>
    let busy (t i : Nat) (m : Bool) : Bool := (s.tray t).programming.any fun q => q.1 == x.sheaf c i m
    if [0, 1].any fun i => busy k.tray i false || k.mirror.any fun t => busy t i true then s
    else
      let s := s.modChunk e c fun k => { k with t1Dirty := false }
      if k.dropT1 then s.dropT1 e c else s
  | _, _ => s

/-- PAGE_PROGRAM_RESULT: the map moves once all 64 pages report success (R70); a failed program is made again in the next
slot from the T1 copy, and the failed block is retired (R71). -/
def execPageProgramResult (tray sheaf : Nat) (failedDie : Option Nat) (s : State) : Out :=
  .next <|
    if !((s.tray tray).programming.any fun q => q.1 == sheaf) then s
    else
      match s.nextSlot tray false with
      | (none, s) => s
      | (some (n, slot), s) =>
        match failedDie with
        | some d =>
          (((s.bumpTray tray Reg.FLASH_CNT_PROGRAM_FAILS).markRetire tray n d).emit (.bridge tray 3 [sheaf]))
        | none =>
          let s := s.mapTo tray sheaf n slot
          let s := s.modTray tray fun r => { r with programming := r.programming.filter fun q => q.1 != sheaf }
          match s.ofSheaf sheaf with
          | some (e, c, _, _) => s.chunkClean e c
          | none => s

/-- The counter of a relocation by its reason. -/
def moveCounter (why : Nat) : Nat :=
  if why = 1 then Reg.FLASH_CNT_GC_SHEAVES else if why = 2 then Reg.FLASH_CNT_REFRESH_SHEAVES
  else if why = 3 then Reg.FLASH_CNT_DISTURB_SHEAVES else Reg.FLASH_CNT_WEAR_SHEAVES

/-- PAGE_RELOCATE_RESULT: the map switches only if its entry still points at the source (R73); a page that is uncorrectable
after the full ladder is handled in the background, and the rest of the sheaf moves (R80). -/
def execPageRelocateResult (tray sheaf : Nat) (failedPage : Option Nat) (s : State) : Out :=
  .next <|
    match (s.tray tray).relocating.find? fun q => q.1 == sheaf with
    | none => s
    | some (k, sb, slot, why) =>
      let s := s.modTray tray fun r => { r with relocating := r.relocating.erase (k, sb, slot, why) }
      let s := match failedPage with
        | some p =>
          let s := (s.bumpTray tray Reg.FLASH_CNT_UE_PAGES).markRetire tray sb p
          match s.ofSheaf sheaf with
          | some (e, c, h, mirror) => (s.ueT2 e (64 * c + 32 * h + p / 2 % 32) mirror).settle
          | none => s
        | none => s
      match s.nextSlot tray true with
      | (none, s) => s
      | (some (n, place), s) =>
        let m := s.mapEntry sheaf
        let s := if m.valid ∧ m.tray = tray ∧ m.sb = sb ∧ m.slot = slot then
            (s.mapTo tray sheaf n place).bumpTray tray (moveCounter why)
          else s
        s.eraseIfEmpty tray sb

/-- The highest and lowest erase counts of a tray: those of its listed superblocks, and 0 while one was never used. -/
def Tray.eraseSpan (t : Tray) : Nat × Nat :=
  let es := t.sbs.vals.map Superblock.erases
  let lo := if t.sbs.length + 2 < t.goodSb then 0 else match es with
    | [] => 0
    | e :: r => r.foldl min e
  (es.foldl max 0, lo)

/-- The mean of the erase counts reaches the rated cycles (R74). -/
def Tray.wornOut (t : Tray) : Bool :=
  decide (0 < t.ratedCycles ∧ t.ratedCycles * (t.goodSb - 2) ≤ sumOf t.sbs.vals Superblock.erases)

/-- Wear levelling (R74): the closed superblock with the lowest erase count moves when the spread is too wide. -/
def State.checkWear (t : Nat) (s : State) : State :=
  let r := s.tray t
  let s := if r.wornOut ∧ !r.endurance then
      (s.modTray t fun r => { r with endurance := true }).occur Ev.FLASH_ENDURANCE t 0 else s
  if s.field Reg.FLASH_WEAR_CFG 15 0 < r.eraseSpan.1 - r.eraseSpan.2 then
    match ((r.sbs.filter fun q => q.2.closed && q.2.moving == 0).foldl (fun (b : Option (Nat × Nat)) q => match b with
      | none => some (q.1, q.2.erases)
      | some p => if q.2.erases < p.2 then some (q.1, q.2.erases) else some p) none) with
    | some (n, _) => s.moveSb t n 4
    | none => s
  else s

/-- BLOCK_ERASE_RESULT: the superblock is free again, after any block marked for retirement has been replaced (R71, R78). -/
def execBlockEraseResult (tray sb : Nat) (failedDie : Option Nat) (s : State) : Out :=
  .next <|
    let b := (s.tray tray).sb sb
    if b.moving = 0 ∨ 5 ≤ b.moving ∨ !b.valid.isEmpty then s
    else
      let s := match failedDie with
        | some d => (s.bumpTray tray Reg.FLASH_CNT_ERASE_FAILS).markRetire tray sb d
        | none => s
      let s := s.modSb tray sb fun b => { b with
        closed := false
        next := 0
        erases := b.erases + 1
        reads := 0
        ageNs := 0
        moving := 0 }
      ((s.retireBlocks tray sb).checkGc tray).checkWear tray

/-! ### Age, patrol and checkpoints -/

/-- Table FM-4. -/
def ageFactor (deciC : Nat) : Nat := if deciC ≤ 400 then 1 else if deciC ≤ 550 then 2 else if deciC ≤ 700 then 4 else 8

/-- TEMP_READ_POLL: every 60 s the equivalent ages advance by the factor of the temperature; a superblock older than
REFRESH_AGE_DAYS is refreshed (R76). -/
def execTempReadPoll (tray deciC : Nat) (s : State) : Out :=
  .next <|
    if (s.tray tray).state = .absent then s
    else
      let d := 60000000000 * ageFactor deciC
      let s := (s.modTray tray fun r => { r with
        tempDeciC := deciC
        sbs := r.sbs.each fun _ b => if b.valid.isEmpty then b else { b with ageNs := b.ageNs + d } }).emit (.bridge tray 9 [])
      let limit := s.field Reg.FLASH_REFRESH_CFG 15 0 * 86400000000000
      (((s.tray tray).sbs.filter fun q => decide (limit < q.2.ageNs) && !q.2.valid.isEmpty).map Prod.fst).foldl
        (fun s n => s.moveSb tray n 2) s

/-- PATROL_DUE: one sheaf of the superblock is read (R76). -/
def execPatrolDue (tray sb : Nat) (s : State) : Out :=
  .next <|
    match ((s.tray tray).sb sb).valid with
    | [] => s
    | n :: _ => if !s.trayUp tray then s else s.emit (.bridge tray 0 [n])

/-- CHECKPOINT_DUE: after 64 GiB programmed or 300 s the tray's share of the map is written to its checkpoint superblocks,
alternating between the two (R69). -/
def execCheckpointDue (tray : Nat) (s : State) : Out :=
  .next <|
    let r := s.tray tray
    if !s.trayUp tray ∨ r.state = .rejected then s
    else
      let s := if 65536 ≤ r.sinceCkpt then s else s.advanceTo (r.ckptNs + 300000000000)
      (s.modTray tray fun r => { r with sinceCkpt := 0, ckptNs := s.clk.timeNs, ckptWhich := 1 - r.ckptWhich }).emit
        (.bridge tray 3 [r.goodSb - 2 + r.ckptWhich])

/-! ### Tray attach (R65, R69, R75) -/

/-- Does a geometry pass R65? -/
def geometryOk (g : Geometry) : Bool := g.dies % 64 == 0 && g.pageKiB == 16 && g.pagesPerBlock == 1024 && decide (2 ≤ g.goodSb)

/-- Accesses that wait for stale copies on a tray that is up again go to the other copies: a stale copy is not read (R47). -/
def State.leaveStale (t : Nat) (s : State) : State :=
  (s.tx.steps.flatMap fun q => q.2.items.map fun i => (q.2.extent, i)).eraseDups.foldl (fun s p =>
    match s.extent p.1 with
    | none => s
    | some x =>
      match x.otherCopy p.2 with
      | some j => if x.lacksCopy p.2 ∧ x.itemTray p.2 = some t then s.passOver p.1 p.2 j [] else s
      | none => s) s

/-- What was under way on a tray is issued again after link-up (R75), and so are the accesses that wait for it. -/
def State.reissue (t : Nat) (s : State) : State :=
  let s := s.leaveStale t
  let s := (s.tray t).ladder.foldl (fun s q =>
    s.emit (if q.step = 9 then .bridge t 2 [q.sheaf, q.page] else .bridge t 1 [q.sheaf, q.page, q.step])) s
  let s := (s.tray t).programming.foldl (fun s q => s.emit (.bridge t 3 [q.1])) s
  let s := (s.tray t).relocating.foldl (fun s q => s.emit (.bridge t 4 [q.1, q.2.1, q.2.2.1])) s
  s.tx.steps.foldl (fun s q =>
    (q.2.items.filter fun i => ((s.extent q.2.extent).bind fun x => x.itemTray i) == some t).foldl
      (fun s i => s.issue q.2.extent i (writeClass q.2.pkt.opcode)) s) s

/-- TRAY_ATTACH: the port of a tray is up and its geometry is read. A tray that fails R65 is REJECTED, and its DRAM still
serves as T1; the counters of the tray start again, the factory bad blocks counted as retired. A tray that comes back
keeps its state; its accesses were reissued at link-up (LINK_INIT_DONE). -/
def execTrayAttach (tray : Nat) (g : Geometry) (s : State) : Out :=
  .next <|
    match s.links.findKey fun _ l => decide (l.role = .tray) && l.trayIndex == tray && (decide (l.st = .up) || decide (l.st = .fallow)) with
    | none => s
    | some lp =>
      if 24 ≤ tray then s
      else if (s.tray tray).state ≠ .absent then s.modTray tray fun r => { r with lport := some lp }
      else
        let s := s.emit (.bridge tray 6 [])
        let good := geometryOk g
        let reserve := g.goodSb - 119212
        let s := s.modTray tray fun r => { r with
          state := if good then .normal else .rejected
          lport := some lp
          geom := g
          goodSb := g.goodSb
          reserve := reserve
          freeSb := g.goodSb - 2 - countIf r.sbs.vals fun b => b.closed || decide (0 < b.next)
          ratedCycles := g.ratedCycles
          spares := if r.sbs.isEmpty then (List.range 64).map fun d => (d, g.sparePerDie) else r.spares
          ckptNs := s.clk.timeNs
          sinceCkpt := 0
          cnt := if g.factoryBad = 0 then [] else [(Reg.FLASH_CNT_RETIRED_BLOCKS, g.factoryBad)] }
        ((s.checkReserve tray).reissue tray).settle

end Sys2Proof.Machine
end

