-- ==== Sys2Proof/Machine/Links.lean ====
section
/-! DEFINITION. Fabric links (R245 to R265): training, flits with their acknowledgement, replay and credits, link keys,
fallow and wake. -/

namespace Sys2Proof.Machine

/-- Send something of the link layer's own. -/
def State.linkSend (lp kind value : Nat) (s : State) : State := s.emit (.linkCtl lp kind value)

/-- Is a port in a state? -/
def State.portIs (s : State) (lp : Nat) (st : LkState) : Bool := (s.links.look lp).any fun l => decide (l.st = st)

/-- A port moves to a training state. -/
def State.train (lp : Nat) (st : LkState) (s : State) : State := s.modPort lp fun l => { l with st := st }

/-- A port goes to FAILED, and LINK_FAILED is raised (R250, R259, R260, R262, Table FT-6). -/
def State.failPort (lp : Nat) (s : State) : State := (s.leaveUp lp .failed).occur Ev.LINK_FAILED lp 0

/-! ### Training (R250 to R252) -/

/-- SIGNAL_DETECT: signal appears on the lanes of a port in DETECT. -/
def execSignalDetect (lport : Nat) (s : State) : Out :=
  .next <| if s.portIs lport .detect then s.modPort lport fun l => { l with signal := true } else s

/-- A port that carried flits leaves for DETECT (R261). -/
def State.linkDown (lp : Nat) (s : State) : State :=
  match s.links.look lp with
  | none => s
  | some l =>
    let s := s.leaveUp lp .detect
    if l.role = Role.tray then s.trayLost l.trayIndex else s

/-- SIGNAL_LOSS: 1 us without signal takes an UP port to DETECT and counts LK_CNT_DOWN (R261). -/
def execSignalLoss (lport : Nat) (s : State) : Out :=
  .next <|
    let s := s.modPort lport fun l => { l with signal := false }
    if s.portIs lport .up then (s.linkDown lport).bumpPort lport Reg.LK_CNT_DOWN else s

/-- DETECT_DONE: clock recovery on every lane. -/
def execDetectDone (lport : Nat) (s : State) : Out :=
  .next <| if s.portIs lport .detect && (s.links.look lport).any LPort.signal then s.train lport .laneLock else s

/-- LANE_LOCK_DONE: symbol lock; the inverted lanes are corrected (R249). -/
def execLaneLockDone (lport : Nat) (polInv : BitVec 8) (s : State) : Out :=
  .next <| if s.portIs lport .laneLock then (s.train lport .align).modPort lport fun l => { l with polInv := polInv } else s

/-- A training step that fails returns the port to DETECT and counts LK_CNT_TRAIN_FAIL (R250). -/
def State.trainFail (lp : Nat) (s : State) : State := (s.train lp .detect).bumpPort lp Reg.LK_CNT_TRAIN_FAIL

/-- The stored preset for a key (R252). -/
def State.presetFor (s : State) (id : Word64) (far lp : Nat) : Option Preset :=
  s.sw.presets.find? fun p => p.linkId == id && p.farPort == far && p.lport == lp

/-- Forget the stored preset for a key. -/
def State.dropPreset (id : Word64) (far lp : Nat) (s : State) : State :=
  s.modSw fun w => { w with presets := w.presets.filter fun p => !(p.linkId == id && p.farPort == far && p.lport == lp) }

/-- Store a preset as the one used last; the store holds 1,024 (R252). -/
def State.keepPreset (p : Preset) (s : State) : State :=
  (s.dropPreset p.linkId p.farPort p.lport).modSw fun w => { w with presets := (p :: w.presets).take 1024 }

/-- ALIGN_DONE: a lane order that is neither straight nor reversed fails ALIGN (R249); an expelled LINK_ID sends the port
to FAILED (Table FT-6); a stored entry takes the fast path (R252). -/
def execAlignDone (lport : Nat) (linkId : Word64) (farPort : Nat) (reversed orderOk : Bool) (s : State) : Out :=
  .next <|
    if !s.portIs lport .align then s
    else if !orderOk then s.trainFail lport
    else
      let s := s.modPort lport fun l => { l with farId := linkId, farPort := farPort, reversed := reversed }
      if s.ft.expelled.any fun e => e.linkId == linkId && !e.quarantine then s.failPort lport
      else
        let s := s.train lport .equalize
        match s.presetFor linkId farPort lport with
        | none => s.modPort lport fun l => { l with fast := false }
        | some p => (s.keepPreset p).modPort lport fun l => { l with fast := true, preset := p.preset }

/-- EQUALIZE_DONE: the error ratio is met; a fast path counts LK_CNT_FAST_RETRAINS. A reserved preset is P0 (R251). -/
def execEqualizeDone (lport preset : Nat) (s : State) : Out :=
  .next <|
    if !s.portIs lport .equalize then s
    else
      let s := s.train lport .linkInit
      if (s.links.look lport).any LPort.fast then s.bumpPort lport Reg.LK_CNT_FAST_RETRAINS
      else s.modPort lport fun l => { l with preset := if preset < 8 then preset else 0 }

/-- FAST_EQUALIZE_FAIL: the entry is deleted, and full EQUALIZE runs in place of the fast one (R252). -/
def execFastEqualizeFail (lport : Nat) (s : State) : Out :=
  .next <|
    match s.links.look lport with
    | none => s
    | some l =>
      if l.st ≠ .equalize ∨ !l.fast then s
      else (s.dropPreset l.farId l.farPort lport).modPort lport fun l => { l with fast := false }

/-- TRAINING_STEP_TIMEOUT (R250). DETECT waits without limit for signal. -/
def execTrainingStepTimeout (lport : Nat) (s : State) : Out :=
  .next <|
    match s.links.look lport with
    | none => s
    | some l =>
      match l.st with
      | .detect => if l.signal then s.trainFail lport else s
      | .laneLock | .align | .equalize | .linkInit => s.trainFail lport
      | _ => s

/-- A port is UP: its settings are stored, LINK_UP is raised, a PEER neighbour is probed (R270), a TRAY port's accesses are
reissued (R261), and the routes that have a member again are announced. -/
def State.portUp (lp : Nat) (s : State) : State :=
  match s.links.look lp with
  | none => s
  | some l =>
    let s := s.keepPreset { linkId := l.farId, farPort := l.farPort, lport := lp, preset := l.preset }
    let s := s.occur Ev.LINK_UP lp 0
    let s := if l.role = Role.peer then (s.modNbr lp fun n => { n with state := .none }).sendProbe lp else s
    let s := if l.role = Role.tray ∧ (s.tray l.trayIndex).state ≠ .absent then
        ((s.modTray l.trayIndex fun r => { r with lport := some lp }).reissue l.trayIndex).settle
      else s
    s.announceRoutes

/-- LINK_INIT_DONE: the roles must pair (R250), encryption be agreed (R262), and every VC have a credit (R260); else the
port goes to FAILED. LOW_LATENCY runs only when both ends ask for it (R253). -/
def execLinkInitDone (lport : Nat) (far : FarEnd) (s : State) : Out :=
  .next <|
    match s.links.look lport with
    | none => s
    | some l =>
      if l.st ≠ .linkInit then s
      else
        let s := s.modPort lport fun l => { l with farRole := far.role % 4, farFallow := far.fallow }
        if far.role ≠ l.role.code ∨ (l.crypt ∧ !far.crypt) ∨ !((List.range 8).all fun v => decide (1 ≤ (far.credits[v]?).getD 0)) then
          s.failPort lport
        else
          let s := s.modPort lport fun l => { l with
            st := .up
            fecOn := l.fecLow && far.fecLow
            cryptOn := false
            txSeq := 0
            txAcked := 0
            rxSeq := 0
            credits := (List.range 8).map fun v => (v, ((far.credits[v]?).getD 0 : Int))
            lastTotal := []
            owed := []
            retTotal := [] }
          s.portUp lport

/-! ### Flits (R255 to R260) -/

/-- Retraining under R259: LK_CNT_RETRAINS counts; RETRAIN_LIMIT of them in 1 s send the port to FAILED. -/
def State.retrain (lp : Nat) (s : State) : State :=
  let now := s.clk.timeNs
  let s := (s.bumpPort lp Reg.LK_CNT_RETRAINS).modPort lp fun l => { l with
    retrainNs := now :: l.retrainNs.filter fun t => decide (now < t + 1000000000) }
  let many := (s.links.look lp).any fun l => decide (s.field Reg.LK_REPLAY_CFG 7 0 ≤ l.retrainNs.length)
  let s := s.linkDown lp
  if many then s.failPort lp else s

/-- The sender sends every unacknowledged flit again (R259), or retrains when it has done so REPLAY_LIMIT times without
ACK_SEQ advancing. -/
def State.replay (lp : Nat) (s : State) : State :=
  match s.links.look lp with
  | none => s
  | some l =>
    if l.flitsOut = 0 then s
    else if s.field Reg.LK_REPLAY_CFG 15 8 ≤ l.replays then s.retrain lp
    else
      let s := (s.bumpPort lp Reg.LK_CNT_REPLAYS).modPort lp fun l => { l with replays := l.replays + 1, replaying := true }
      s.linkSend lp 7 l.txAcked

/-- ACK_SEQ is cumulative: it releases the flits up to it, and the hold of R202 on the packets that end in them (R258). -/
def LPort.takeAck (ack : Nat) (l : LPort) : LPort :=
  let d := (ack + 4096 - l.txAcked) % 4096
  if l.flitsOut ≤ d then l
  else { l with
    txAcked := (ack + 1) % 4096
    unacked := l.unacked.filter fun u => decide (d < (u.1 + 4096 - l.txAcked) % 4096)
    replays := 0
    replaying := false }

/-- The amount by which a credit total is ahead of the last one taken is returned, when it is 1 to 4,096 (R260). -/
def LPort.takeCredit (vc total : Nat) (l : LPort) : LPort :=
  let d := (total % 8192 + 8192 - l.lastTotal.num vc) % 8192
  if 1 ≤ d ∧ d ≤ 4096 ∧ vc < 8 then
    { l with credits := l.credits.put vc (l.credit vc + (d : Int)), lastTotal := l.lastTotal.put vc (total % 8192) }
  else l

/-- A NAK: duplicates during a replay are ignored (R259). -/
def State.takeNak (lp : Nat) (s : State) : State :=
  if (s.links.look lp).any LPort.replaying then s else s.replay lp

/-- The fields every good flit carries: acknowledgement, credit total, and a NAK. -/
def State.takeFields (lp : Nat) (t : Trailer) (s : State) : State :=
  let s := s.modPort lp fun l => (if t.ackValid then l.takeAck t.ackSeq else l).takeCredit t.creditVc t.creditTotal
  if t.nak then s.takeNak lp else s

/-- Ask for a replay once, until the expected SEQ arrives (R259). -/
def State.sendNak (lp : Nat) (s : State) : State :=
  match s.links.look lp with
  | none => s
  | some l =>
    if l.nakSent then s
    else (s.modPort lp fun l => { l with nakSent := true }).linkSend lp 0 ((l.rxSeq + 4095) % 4096)

/-- Is a flit's tag wrong: an encrypted class whose tag fails, or has no key, or the reserved class (R262, Table LK-6)? -/
def LPort.tagBad (l : LPort) (t : Trailer) : Bool :=
  decide (t.keyClass = 3) || (decide (t.keyClass = 1 ∨ t.keyClass = 2) && (!t.checkOk || !l.cryptOn))

/-- A flit at a port: the FEC verdict (R253), then CHECK (R257) or the tag (R262). Answers whether its fields may be used.
A flit that fails is counted, and a NAK asks for it again (R259). -/
def State.flitGood (lp : Nat) (t : Trailer) (s : State) : Bool × State :=
  match s.links.look lp with
  | none => (false, s)
  | some l =>
    if l.st ≠ .up then (false, s)
    else
      let s := if t.fecCorrected then s.bumpPort lp Reg.LK_CNT_FEC_CORR_LO else s
      let s := if t.fecUncorr then s.bumpPort lp Reg.LK_CNT_FEC_UNCORR else s
      let tag := !t.fecUncorr && l.tagBad t
      let bad := t.fecUncorr || tag || !t.checkOk || decide (2 < t.ftype)
      if !bad then (true, s)
      else
        let s := s.bumpPort lp Reg.LK_CNT_CRC
        let now := s.clk.timeNs
        let s := if !tag then s
          else
            let s := s.bumpPort lp Reg.LK_CNT_TAG_FAIL
            let again := l.tagFailNs.any fun n => decide (now < n + 1000000000)
            if again then s
            else (s.modPort lp fun l => { l with tagFailNs := some now }).occur Ev.LINK_TAG_FAIL lp 0
        (false, s.sendNak lp)

/-- DATA_FLIT_RECEIVE: `packets` are those whose last byte the flit carries. It is accepted only with the SEQ expected
(R258); its packets join the ingress buffer, and an ANALYSIS port discards them (Table LK-2). It refuses a FALLOW_REQ that
is out (R265). -/
def execDataFlitReceive (lport : Nat) (t : Trailer) (packets : List Packet) (s : State) : Out :=
  .next <|
    let r := s.flitGood lport t
    if !r.1 then r.2
    else
      let s := (r.2.takeFields lport t).modPort lport fun l => { l with fallowReq := false }
      match s.links.look lport with
      | none => s
      | some l =>
        if l.st ≠ .up then s
        else if t.seq ≠ l.rxSeq then s.sendNak lport
        else
          let s := s.modPort lport fun l => { l with rxSeq := (l.rxSeq + 1) % 4096, nakSent := false }
          let s := s.linkSend lport 1 l.rxSeq
          if l.role = .analysis then s.bumpPort lport Reg.LK_CNT_RX_DISCARD
          else s.modPort lport fun l => { l with
            ingress := l.ingress ++ packets.map fun p => { p with hdr := { p.hdr with lport := lport } } }

/-- IDLE_FLIT_RECEIVE: its acknowledgement and credit total (R258, R260). -/
def execIdleFlitReceive (lport : Nat) (t : Trailer) (s : State) : Out :=
  .next <|
    let r := s.flitGood lport t
    if r.1 then r.2.takeFields lport t else r.2

/-- NAK_RECEIVE: a NAK acknowledges what was accepted and replays the rest from ACK_SEQ + 1 (R259). -/
def execNakReceive (lport ackSeq : Nat) (s : State) : Out :=
  .next <|
    if !s.portIs lport .up then s
    else
      -- the acknowledgement alone must not end the replay that a duplicate NAK belongs to
      let was := (s.links.look lport).any LPort.replaying
      let before := ((s.links.look lport).map LPort.txAcked).getD 0
      let s := s.modPort lport (LPort.takeAck ackSeq)
      if was && ((s.links.look lport).any fun l => l.txAcked == before) then s else s.takeNak lport

/-- ACK_STALL_TIMEOUT: no acknowledgement for 2 us with flits out is handled as a NAK (R259). -/
def execAckStallTimeout (lport : Nat) (s : State) : Out :=
  .next <| if s.portIs lport .up then s.replay lport else s

/-- NAK_RESEND_TIMEOUT: the expected SEQ has not come within 2 us of the NAK (R259). -/
def execNakResendTimeout (lport : Nat) (s : State) : Out :=
  .next <|
    match s.links.look lport with
    | none => s
    | some l => if l.st = .up ∧ l.nakSent then s.linkSend lport 0 ((l.rxSeq + 4095) % 4096) else s

/-! ### Link keys (R262 to R264) -/

/-- LINK_KEY_ESTABLISHED: both keys of both directions are installed, and the port joins its port sets (R263). A key
that replaces one is announced by KEY_SWITCH (R264). -/
def execLinkKeyEstablished (lport : Nat) (s : State) : Out :=
  .next <|
    match s.links.look lport with
    | none => s
    | some l =>
      if !s.portRuns lport ∨ !l.crypt then s
      else if !l.cryptOn then (s.modPort lport fun l => { l with cryptOn := true }).announceRoutes
      else if !l.rekeying then s
      else (s.modPort lport fun l => { l with rekeying := false, keyGenTx := l.keyGenTx + 1 }).linkSend lport 4 (l.keyGenTx + 1)

/-- REKEY_DUE: a new key is established while the old one stays in use (R264). -/
def execRekeyDue (lport : Nat) (s : State) : Out :=
  .next <| s.modPort lport fun l => if l.cryptOn then { l with rekeying := true } else l

/-- KEY_SWITCH_RECEIVE: the next DATA flit of a key class uses the new key; the one before it is kept for replays (R264). -/
def execKeySwitchReceive (lport keyClass : Nat) (s : State) : Out :=
  .next <| s.modPort lport fun l =>
    if l.st = .up ∧ l.cryptOn ∧ (keyClass = 1 ∨ keyClass = 2) then
      { l with keyGenRx := l.keyGenRx.put keyClass (l.keyGenRx.num keyClass + 1) }
    else l

/-! ### Fallow and wake (R265) -/

/-- Does a port hold nothing to send and nothing unacknowledged? -/
def LPort.idle (l : LPort) : Bool :=
  decide (l.flitsOut = 0) && l.prio.isEmpty && l.queues.all fun q => q.2.packets.isEmpty

/-- The port enters FALLOW; a packet that reached it during the entry wakes it at once. -/
def State.enterFallow (lp : Nat) (s : State) : State :=
  let s := (s.modPort lp fun l => { l with st := .fallow, fallowReq := false }).bumpPort lp Reg.LK_CNT_FALLOW_ENTRIES
  if (s.links.look lp).any LPort.idle then s
  else (s.modPort lp fun l => { l with waking := true }).linkSend lp 5 0

/-- May a port take part in fallow: FALLOW_EN, and the far end's capability? -/
def LPort.mayFallow (l : LPort) : Bool := decide (l.st = .up) && l.fallowEn && l.farFallow

/-- PORT_IDLE_TIMEOUT: no DATA flit for IDLE_NS. -/
def execPortIdleTimeout (lport : Nat) (s : State) : Out :=
  .next <|
    if (s.links.look lport).any fun l => l.mayFallow && l.idle && !l.fallowReq then
      (s.modPort lport fun l => { l with fallowReq := true }).linkSend lport 2 0
    else s

/-- FALLOW_REQ_RECEIVE: agreement with a request of this end's own, or a request that an idle port agrees to. -/
def execFallowReqReceive (lport : Nat) (s : State) : Out :=
  .next <|
    match s.links.look lport with
    | none => s
    | some l =>
      if !l.mayFallow then s
      else if l.fallowReq then s.enterFallow lport
      else if l.idle then (s.linkSend lport 3 0).enterFallow lport
      else s

/-- FALLOW_ACK_RECEIVE: the far end agrees. -/
def execFallowAckReceive (lport : Nat) (s : State) : Out :=
  .next <| if (s.links.look lport).any fun l => decide (l.st = .up) && l.fallowReq then s.enterFallow lport else s

/-- FALLOW_LOCK_BURST: every 50 us. -/
def execFallowLockBurst (lport : Nat) (s : State) : Out :=
  .next <| if s.portIs lport .fallow then s.linkSend lport 6 0 else s

/-- WAKE_TONE_RECEIVE: the far end wakes the port. -/
def execWakeToneReceive (lport : Nat) (s : State) : Out :=
  .next <| if s.portIs lport .fallow then s.modPort lport fun l => { l with waking := true } else s

/-- PORT_WAKE_DONE: the port carries flits again (R19). -/
def execPortWakeDone (lport : Nat) (s : State) : Out :=
  .next <| s.modPort lport fun l => if l.st = .fallow ∧ l.waking then { l with st := .up, waking := false } else l

/-- PORT_WAKE_TIMEOUT: a wake not finished within 400 ns. -/
def execPortWakeTimeout (lport : Nat) (s : State) : Out :=
  .next <|
    if (s.links.look lport).any fun l => decide (l.st = .fallow) && l.waking then
      (s.linkDown lport).bumpPort lport Reg.LK_CNT_WAKE_FAIL
    else s

/-- TRANSMITTER_HOLD_OFF_END: the 1 ms of a PEER_PATH rehearsal injection is over (Table FT-7). -/
def execTransmitterHoldOffEnd (lport : Nat) (s : State) : Out :=
  .next <| s.modPort lport fun l => { l with holdOff := false }

end Sys2Proof.Machine
end

