-- ==== Sys2Proof/Machine/Ft.lean ====
section
/-! DEFINITION. Health scores, fault managers with EXPEL and READMIT, and rehearsal fault injection (R352 to R356). -/

namespace Sys2Proof.Machine

/-! ### Health scores (R352) -/

/-- Table FT-5. -/
def healthPenalties : List (Nat × Nat) :=
  [(Reg.LK_CNT_FEC_UNCORR, 20), (Reg.LK_CNT_CRC, 5), (Reg.LK_CNT_REPLAYS, 2), (Reg.LK_CNT_TAG_FAIL, 100),
    (Reg.LK_CNT_RETRAINS, 200), (Reg.LK_CNT_DOWN, 300), (Reg.LK_CNT_WAKE_FAIL, 50), (Reg.LK_CNT_LOST_PKTS, 10)]

/-- The penalties of the second that ends. -/
def LPort.newPenalties (l : LPort) : List Nat := healthPenalties.map fun q => q.2 * (l.cnt.num q.1 - l.lastCnt.num q.1)

/-- Score a port's second: 1,000 less the penalties, at least 0; 0 for a port that is not UP. The last `windows` scores
are kept. -/
def LPort.scoreSecond (windows : Nat) (l : LPort) : LPort :=
  let ps := l.newPenalties
  { l with
    lastCnt := healthPenalties.foldl (fun (m : NMap Nat) q => m.put q.1 (l.cnt.num q.1)) []
    penalties := ps
    scores := ((if l.st = .up then 1000 - ps.sum else 0) :: l.scores).take windows }

/-- PORT_SCORE: the lowest score of the windows kept; 0 before the first second. -/
def LPort.portScore (l : LPort) : Nat :=
  match l.scores with
  | [] => 0
  | x :: t => t.foldl min x

/-- PORT_SCORE of a logical port. -/
def State.portScore (s : State) (lp : Nat) : Nat := ((s.links.look lp).map LPort.portScore).getD 0

/-- NEIGHBOUR_SCORE of the neighbour on a PEER port: the lowest PORT_SCORE among its LIVE ports, less 100 for each of
its unanswered PROBEs of the second; 0 for a neighbour without a LIVE port. -/
def State.neighbourScore (s : State) (n : Nbr) : Nat :=
  let its := List.filter (fun (q : Nat × Nbr) => q.2.linkId == n.linkId) s.topo.nbrs
  let live := List.filter (fun (q : Nat × Nbr) => decide (q.2.state = .live)) its
  if live.isEmpty ∨ n.state = .lost then 0
  else live.foldl (fun m q => min m (s.portScore q.1)) 1000 - 100 * sumOf its fun q => q.2.unanswered

/-- FT_HEALTH_LOW, once for each crossing of THRESHOLD. -/
def State.healthLow (unit before now : Nat) (s : State) : State :=
  let t := s.field Reg.FT_HEALTH_CFG 25 16
  if t ≤ before ∧ now < t then s.occur Ev.FT_HEALTH_LOW unit now else s

/-- The end of a port's second. -/
def State.scorePort (lp : Nat) (s : State) : State :=
  let before := s.portScore lp
  let s := s.modPort lp fun l => l.scoreSecond (s.field Reg.FT_HEALTH_CFG 7 0)
  s.healthLow lp before (s.portScore lp)

/-- The end of a PEER neighbour's second; a neighbour on several ports is reported at the lowest of them. -/
def State.scoreNbr (lp : Nat) (n : Nbr) (score : Nat) (s : State) : State :=
  let first := s.topo.nbrs.findKey fun _ m => m.linkId == n.linkId
  let s := { s with topo := { s.topo with nbrs := s.topo.nbrs.change lp fun m => { m with score := score, unanswered := 0 } } }
  if first = some lp then s.healthLow lp n.score score else s

/-- HEALTH_SCORE_TICK: a second of TIME_NS ends. -/
def execHealthScoreTick (s : State) : Out :=
  .next <|
    let s := s.links.foldl (fun s q => s.scorePort q.1) s
    let scored := s.topo.nbrs.map fun (q : Nat × Nbr) => (q.1, q.2, s.neighbourScore q.2)
    scored.foldl (fun s q => s.scoreNbr q.1 q.2.1 q.2.2) s

/-- The PEER ports' numbers. -/
def State.peerLinks (s : State) : List Nat :=
  (List.filter (fun (q : Nat × LPort) => decide (q.2.role = .peer)) s.links).map Prod.fst

/-- NEIGHBOUR_SCORE of a PEER port. -/
def State.nbrScore (s : State) (lp : Nat) : Nat := ((s.topo.nbrs.look lp).map Nbr.score).getD 0

/-- FT_HEALTH_GET (0x4105): each logical port with its PORT_SCORE and penalties, and each PEER port's NEIGHBOUR_SCORE. -/
def execFtHealthGet (c : Ctx) (s : State) : Out :=
  .next <| nirod (.ftHealthGet c) c (Cmd.f 0x4105 Legal.R) Target.none (fun s =>
    let ports := s.links.flatMap fun (q : Nat × LPort) => [q.1, q.2.portScore] ++ q.2.penalties
    let peers := s.peerLinks.flatMap fun lp => [lp, s.nbrScore lp]
    ok ((ports ++ peers).map .num) s) s

/-! ### Fault managers (R353) -/

/-- How many distinct registered managers signed validly. -/
def State.validSigners (s : State) (sigs : List Signed) : Nat :=
  ((sigs.filter fun g => g.ok && s.ft.managers.contains g.signer).map Signed.signer).eraseDups.length

/-- FT_MANAGER_SET (0x4101): 1 to 7 managers and a quorum of more than half; every set after the first is signed
by a quorum of the present one. -/
def execFtManagerSet (c : Ctx) (digests : List Digest) (quorum : Nat) (sigs : List Signed) (s : State) : Out :=
  .next <| nirod (.ftManagerSet c digests quorum sigs) c (Cmd.f 0x4101 Legal.C) Target.none (fun s =>
    let n := digests.length
    if n < 1 ∨ 7 < n then invalid 0 s
    else if quorum < n / 2 + 1 ∨ n < quorum then invalid 1 s
    else if !s.ft.managers.isEmpty && decide (s.validSigners sigs < s.ft.quorum) then
      fail St.BAD_SIGNATURE (s.bump Reg.SE_CNT_AUTH_FAIL)
    else ok [] (s.modFt fun f => { f with managers := digests, quorum := quorum })) s

/-! ### EXPEL and READMIT (R354, R355) -/

/-- ACTION as the reply carries it: 0 EXPEL, 1 QUARANTINE. -/
def ExpelEntry.action (e : ExpelEntry) : Nat := b2n e.quarantine

/-- The expel-list entry of a target. -/
def State.expelFor (s : State) (r : ExpelReq) : Option ExpelEntry :=
  s.ft.expelled.find? fun e => e.node == r.node && e.linkId == r.linkId

/-- Drop the expel-list entry of a target. -/
def State.dropEntry (r : ExpelReq) (s : State) : State :=
  s.modFt fun f => { f with expelled := f.expelled.filter fun e => !(e.node == r.node && e.linkId == r.linkId) }

/-- Two requests carry the same signed message: the signatures apart. -/
def sameMessage (a b : ExpelReq) : Bool := a.node == b.node && a.linkId == b.linkId && a.expiry == b.expiry

/-- The ACTION of a target's entry; where it has none the reply's value is free. -/
def State.actionItem (s : State) (r : ExpelReq) : State × List Item :=
  match s.expelFor r with
  | some e => (s, [.num e.action])
  | none => (s.drawn, [.num s.free])

/-- R354's checks; `none` when the message is to be applied. `action` is 0 for EXPEL, 1 for READMIT. -/
def expelCheck (action : Nat) (r : ExpelReq) (s : State) : Option Res :=
  if 0xFFF < r.node then some (invalid 0 s)
  else if s.topo.assigned ∧ r.node = s.topo.node then some (invalid 0 s)
  else if r.linkId = s.linkId then some (invalid 1 s)
  else if r.expiry < s.clk.timeNs ∨ s.clk.timeNs + 60000000000 < r.expiry then some (invalid 2 s)
  else if s.ft.managers.isEmpty ∨ s.validSigners r.sigs < s.ft.quorum then
    some (fail St.BAD_SIGNATURE (s.bump Reg.SE_CNT_AUTH_FAIL))
  else if s.ft.applied.any fun q => q.1 == action && sameMessage q.2 r then
    let p := s.actionItem r
    some (ok p.2 p.1)
  else none

/-- Keep a signed message as applied; the last 64 are kept. -/
def State.keepApplied (action : Nat) (r : ExpelReq) (s : State) : State :=
  s.modFt fun f => { f with applied := ((action, r) :: f.applied).take 64 }

/-- Distinct peers expelled in the preceding 3,600 s, the target left out (R355). -/
def State.budgetUsed (s : State) (r : ExpelReq) : Nat :=
  ((s.ft.recent.filter fun q => decide (s.clk.timeNs < q.2.2 + 3600000000000)
      && !(q.1 == r.node && q.2.1 == r.linkId)).map fun q => (q.1, q.2.1)).eraseDups.length

/-- WITHDRAW for a node, unless leaving UP has already sent it (Table FT-6, R274). -/
def State.withdrawNode (node : Nat) (before : Bool) (s : State) : State :=
  let s := s.announceRoutes
  if !before && (s.topo.routes.look node).any Route.announced then s else s.sendRouteUpdate 0 [node]

/-- Apply an EXPEL to the ports (Table FT-6): an expelled target's ports are DISABLED, and its routes withdrawn. -/
def State.cutOff (r : ExpelReq) (quarantine : Bool) (s : State) : State :=
  let before := (s.topo.routes.look r.node).any Route.announced
  let its := (List.filter (fun (q : Nat × LPort) => decide (q.2.role = .peer) && q.2.farId == r.linkId) s.links).map Prod.fst
  let s := if quarantine then s else its.foldl (fun s lp => s.setEnable lp false) s
  s.withdrawNode r.node before

/-- EXPEL (0x4102). -/
def execExpel (c : Ctx) (r : ExpelReq) (s : State) : Out :=
  .next <| nirod (.expel c r) c (Cmd.f 0x4102 Legal.C) Target.none (fun s =>
    match expelCheck 0 r s with
    | some x => x
    | none =>
      if 64 ≤ (s.dropEntry r).ft.expelled.length then fail St.NO_CAPACITY s
      else
        let demoted := decide (s.field Reg.FT_EXPEL_CFG 7 0 ≤ s.budgetUsed r)
        let e : ExpelEntry := { node := r.node, linkId := r.linkId, quarantine := demoted, timeNs := s.clk.timeNs }
        let s := ((s.dropEntry r).keepApplied 0 r).bump Reg.FT_CNT_EXPEL
        let s := if demoted then s.bump Reg.FT_CNT_DEMOTED
          else s.modFt fun f => { f with
            recent := f.recent.filter (fun q => decide (s.clk.timeNs < q.2.2 + 3600000000000))
              ++ [(r.node, r.linkId, s.clk.timeNs)] }
        let s := s.modFt fun f => { f with expelled := f.expelled ++ [e] }
        let s := s.cutOff r demoted
        ok [.num e.action] (s.occur (if demoted then Ev.FT_QUARANTINE_APPLIED else Ev.FT_EXPEL_APPLIED) r.node 0)) s

/-- READMIT (0x4103): the entry goes; the budget gets nothing back. Members that are eligible again are announced. -/
def execReadmit (c : Ctx) (r : ExpelReq) (s : State) : Out :=
  .next <| nirod (.readmit c r) c (Cmd.f 0x4103 Legal.C) Target.none (fun s =>
    match expelCheck 1 r s with
    | some x => x
    | none =>
      let p := s.actionItem r
      ok p.2 (((p.1.dropEntry r).keepApplied 1 r).announceRoutes)) s

/-- FT_EXPEL_LIST (0x4104). -/
def execFtExpelList (c : Ctx) (s : State) : Out :=
  .next <| nirod (.ftExpelList c) c (Cmd.f 0x4104 Legal.R) Target.none (fun s =>
    ok (s.ft.expelled.flatMap fun e => [.num e.node, .num e.linkId.toNat, .num e.action, .num e.timeNs]) s) s

/-! ### Rehearsal (R356, Table FT-7) -/

/-- Does every routing entry that holds a port have another eligible member? -/
def State.spareRoutes (s : State) (lp : Nat) : Bool :=
  List.all s.topo.routes fun (q : Nat × Route) =>
    match q.2.members.findIdx? (· == lp) with
    | none => true
    | some i => !q.2.valid || s.reachable { q.2 with withdrawn := q.2.withdrawn ||| BitVec.ofNat 16 (2 ^ i) }

/-- Is a unit eligible? -/
def State.rehearsable (s : State) (cls unit leaf : Nat) : Bool :=
  if cls = 0 then
    (s.presses.look unit).any fun p =>
      decide (p.state = .lit) && !p.fenced.getLsbD 4
        && decide (2 ≤ countIf (List.range 4) fun k => !p.fenced.getLsbD k)
  else if cls = 1 then
    (s.links.look unit).any fun l => decide (l.role = .peer) && decide (l.st = .up) && s.spareRoutes unit
  else if cls = 2 then
    (s.extent unit).any fun x =>
      decide (x.durability = .mirrored) && !x.leafPoisoned leaf && !x.inT0 leaf
        && (x.chunks.look (leaf / 64)).any fun k =>
          k.stale.isNone && s.trayUp k.tray && k.mirror.any fun t => s.trayUp t
  else false

/-- FT_INJECT (0xF002). -/
def execFtInject (c : Ctx) (cls unit leaf start count interval : Nat) (s : State) : Out :=
  .next <| nirod (.ftInject c cls unit leaf start count interval) c (Cmd.f 0xF002 Legal.RS) Target.none (fun s =>
    if count < 1 ∨ 1000 < count then invalid 4 s
    else if interval < 1 ∨ 16777215 < interval then invalid 5 s
    else if !s.rehearsable cls unit leaf then fail St.NOT_ELIGIBLE s
    else
      let h := s.ft.nextInject
      let i : Inject := { cls := cls, unit := unit, leaf := leaf, nextNs := start, left := count, intervalUs := interval }
      ok [.num h] (s.modFt fun f => { f with injects := f.injects.put h i, nextInject := h + 1 })) s

/-- Carry an injection out (Table FT-7). -/
def State.inject (i : Inject) (s : State) : State :=
  if i.cls = 0 then s.modPress i.unit fun p => { p with forceMismatch := true }
  else if i.cls = 1 then
    ((s.modPort i.unit fun l => { l with holdOff := true }).linkDown i.unit).bumpPort i.unit Reg.LK_CNT_DOWN
  else s.modFt fun f => { f with
    forcedUe := if f.forcedUe.contains (i.unit, i.leaf) then f.forcedUe else f.forcedUe ++ [(i.unit, i.leaf)] }

/-- REHEARSAL_INJECTION: an injection's time comes; eligibility is checked again. -/
def execRehearsalInjection (handle : Nat) (s : State) : Out :=
  .next <|
    match s.ft.injects.look handle with
    | none => s
    | some i =>
      let s := s.advanceTo i.nextNs
      let rest := if i.left ≤ 1 then s.ft.injects.del handle
        else s.ft.injects.put handle { i with left := i.left - 1, nextNs := i.nextNs + 1000 * i.intervalUs }
      let s := s.modFt fun f => { f with injects := rest }
      if s.rehearsable i.cls i.unit i.leaf then (s.inject i).bump Reg.FT_CNT_REHEARSAL
      else s.bump Reg.FT_CNT_REHEARSAL_SKIPPED

end Sys2Proof.Machine
end

