-- ==== Sys2Proof/Machine/RecOps.lean ====
section
/-! DEFINITION. The event recorder's shared operations (R417 to R420): the records of Table ER-1, their bins, sampling,
counting, flushing, and the 128-byte form of Table ER-2. -/

namespace Sys2Proof.Machine

/-! ### The records (Table ER-1) -/

/-- Every REC_ID, ascending. -/
def recIds : List Nat :=
  [0x0001, 0x0002] ++ List.range' 0x0010 12 ++ List.range' 0x0100 32 ++ List.range' 0x0200 32 ++ [0x0300]
    ++ List.range' 0x0400 8 ++ List.range' 0x0500 24 ++ List.range' 0x0600 24 ++ [0x0700, 0x0800]

/-- KIND: 0 HIST, 1 DIST, 2 COUNT. -/
def recKind (id : Nat) : Nat := if id / 256 = 5 then 1 else if id = 0x0800 then 2 else 0

/-- Bins in use. -/
def recBins (id : Nat) : Nat := if id = 0x0700 then 4 else 16

/-- Decimal digits of a number below 10^15, 15 for larger ones; 0 for zero. -/
def decimalBin (n : Nat) : Nat := ((List.range 15).filter fun k => decide (10 ^ k ≤ n)).length

/-- Five-degree bins from `lo`, in 0.1 C: bin 0 below it, bin 15 from `lo` + 70 C. -/
def tempBin (lo v : Int) : Nat := if v < lo then 0 else if lo + 700 ≤ v then 15 else ((v - lo) / 50).toNat + 1

/-- The bin of a sample. -/
def recBin (id : Nat) (v : Int) : Nat :=
  if id ≤ 2 then tempBin 300 v
  else if id < 0x0100 then if v < -400 then 0 else min 15 ((v + 400) / 50).toNat
  else if 0x0600 ≤ id ∧ id < 0x0700 then tempBin 200 v
  else if id = 0x0700 then min 3 v.toNat
  else decimalBin v.toNat

/-- A record with no sample. -/
def Rec.reset : Rec where
  sinceSec := 0
  sinceCyc := 0
  samples := 0
  bins := []
  hi := none
  lo := none

/-- A record. -/
def State.rcrd (s : State) (id : Nat) : Rec := (s.rcd.recs.look id).getD Rec.reset

/-- Put a record. -/
def State.setRec (id : Nat) (r : Rec) (s : State) : State := { s with rcd := { s.rcd with recs := s.rcd.recs.put id r } }

/-- Add one to a bin, which saturates; reaching saturation counts REC_CNT_SATURATED (R420). -/
def State.addBin (id bin : Nat) (s : State) : State :=
  let r := s.rcrd id
  let n := r.bins.num bin
  let s := s.setRec id { r with
    samples := r.samples + 1
    bins := if n < 0xFFFFFFFF then r.bins.put bin (n + 1) else r.bins }
  if n + 1 = 0xFFFFFFFF then s.bump Reg.REC_CNT_SATURATED else s

/-- A HIST sample: its bin and the extremes. -/
def State.sampleRec (id : Nat) (v : Int) (s : State) : State :=
  let s := s.addBin id (recBin id v)
  let r := s.rcrd id
  let stamp := (v, s.rcd.opSeconds, s.rcd.cycles)
  s.setRec id { r with
    hi := if (r.hi.map Prod.fst).any fun h => decide (v ≤ h) then r.hi else some stamp
    lo := if (r.lo.map Prod.fst).any fun l => decide (l ≤ v) then r.lo else some stamp }

/-- A COUNT event of the BOOT record: HI is the most recent event. -/
def State.countBoot (bin : Nat) (s : State) : State :=
  let s := s.addBin 0x0800 bin
  s.setRec 0x0800 { s.rcrd 0x0800 with hi := some (bin, s.rcd.opSeconds, s.rcd.cycles) }

/-- A DIST record, recomputed whole: the erase counts of a tray's good superblocks. -/
def State.distRec (t : Nat) (s : State) : State :=
  let y := s.tray t
  if y.state = .absent ∨ y.ratedCycles = 0 then s
  else
    let es := (y.sbs.vals.filter fun b => b.moving != 5).map Superblock.erases
    let all := es ++ (if es.length < y.goodSb then [0] else [])
    let one (m : NMap Nat) (e : Nat) : NMap Nat := m.put (min 15 (16 * e / y.ratedCycles)) (m.num (min 15 (16 * e / y.ratedCycles)) + 1)
    let bins := es.foldl one []
    let bins := if es.length < y.goodSb then bins.put 0 (bins.num 0 + (y.goodSb - es.length)) else bins
    let id := 0x0500 + t
    let hi : Nat := all.foldl max 0
    let lo : Nat := all.foldl min hi
    s.setRec id { s.rcrd id with
      samples := y.cnt.num Reg.FLASH_CNT_RETIRED_BLOCKS
      bins := bins
      hi := some ((hi : Int), s.rcd.opSeconds, s.rcd.cycles)
      lo := some ((lo : Int), s.rcd.opSeconds, s.rcd.cycles) }

/-- A flush: the DIST records are recomputed, and every record is written to the package flash (R418). -/
def State.flushRecords (s : State) : State :=
  let s := (List.range 24).foldl (fun s t => s.distRec t) s
  { s with rcd := { s.rcd with flash := s.rcd.recs } }.bump Reg.REC_CNT_FLUSH

/-! ### Table ER-2 -/

/-- A value, its OP_SECONDS and its POWER_CYCLES. -/
def stampBytes : Option (Int × Nat × Nat) → List Byte
  | none => leBytes 12 0
  | some (v, op, cyc) => leBytes 4 (v % 2 ^ 32).toNat ++ leBytes 4 op ++ leBytes 4 cyc

/-- A record as read. -/
def Rec.bytes (id : Nat) (r : Rec) : List Byte :=
  leBytes 2 id ++ leBytes 1 (recKind id) ++ leBytes 1 (recBins id) ++ leBytes 4 0 ++ leBytes 4 r.sinceSec
    ++ leBytes 4 r.sinceCyc ++ leBytes 8 r.samples ++ leBytes 8 0
    ++ ((List.range 16).flatMap fun k => leBytes 4 (if k < recBins id then r.bins.num k else 0))
    ++ stampBytes r.hi ++ leBytes 4 0 ++ stampBytes r.lo ++ leBytes 4 0

/-- The bytes of a list of records, in the order given. -/
def State.recordBytes (s : State) (l : List Nat) : List Byte := l.flatMap fun id => (s.rcrd id).bytes id

end Sys2Proof.Machine
end

