-- ==== Sys2Proof/Machine/Reduce.lean ====
section
/-! DEFINITION. Reduce operations (R115 to R127): contributions, the combination of a block, its delivery, and the end of an
instance. -/

namespace Sys2Proof.Machine

/-- Fields of Table CO-4. -/
def redGroup (d : List Byte) : Nat := leAt d 32 2
def redIndex (d : List Byte) : Nat := leAt d 34 2
def redInst (d : List Byte) : Nat := leAt d 36 4
def redOp (d : List Byte) : Nat := leAt d 40 1 % 16
def redIn (d : List Byte) : Nat := leAt d 41 1 % 16
def redOut (d : List Byte) : Nat := leAt d 41 1 / 16
def redCount (d : List Byte) : Nat := leAt d 44 4
def redScale (d : List Byte) : Nat := leAt d 48 4
def redDest (d : List Byte) : Nat := leAt d 56 8

/-- Step 3 of R113 for a reduce body (R117, Table CO-4); the REDUCE_SCATTER multiple of the member count is checked with
the group. -/
def redBodyBad (k : OpKind) (d : List Byte) : Option Nat :=
  if 15 < leAt d 40 1 ∨ 2 < redOp d ∨ 3 < redIn d ∨ 3 < redOut d ∨ (redIn d = 3 ∧ redOut d ≠ 3) ∨ (redIn d ≠ 3 ∧ redOut d = 3)
      ∨ !zeros d 42 44 ∨ redCount d < 32 ∨ 1073741824 < redCount d ∨ redCount d % 32 ≠ 0 ∨ (redIn d = 3 ∧ redScale d ≠ 0)
      ∨ !zeros d 52 56 ∨ !addrOk d 56 ∨ !zeros d 64 256
      ∨ (k = .reduceToMem ∧ inlineResult d) ∨ (k ≠ .reduceToMem ∧ (!inlineResult d ∨ redDest d ≠ 0)) then
    some St.INVALID_PARAM
  else none

/-- The group a descriptor names in its composition. -/
def State.groupFor (s : State) (c gid : Nat) : Option (Nat × Group) :=
  s.work.groups.find? fun g => g.2.comp == c && g.2.gid == gid

/-- Step 4 of R113 for a reduce body (R118): membership, completed and aborted instances, the destination. -/
def State.redRangesBad (s : State) (c : Nat) (k : OpKind) (h : Hdr) (d : List Byte) : Option Nat :=
  match s.groupFor c (redGroup d) with
  | none => some St.GROUP_MISMATCH
  | some (_, g) =>
    if g.members[redIndex d]? ≠ some (h.src, h.lport) then some St.GROUP_MISMATCH
    else if g.done.contains (redInst d) then some St.GROUP_MISMATCH
    else match g.aborted.look (redInst d) with
      | some st => some st
      | none =>
        if k = .reduceScatter ∧ redCount d % (32 * g.members.length) ≠ 0 then some St.INVALID_PARAM
        else if k = .reduceToMem then
          let n := redCount d * elemBytes (redOut d)
          match s.rangeBad c (redDest d) n true with
          | some st => some st
          | none => if s.rangeIs c (redDest d) n Extent.vq then some St.LAYOUT_MISMATCH else none
        else none

/-- The open instance of a group. -/
def State.openInstance (s : State) (g i : Nat) : Option (Nat × Op) :=
  s.work.ops.find? fun o => o.2.group == g && o.2.inst == i && decide (o.2.phase = .running)
    && (decide (o.2.kind = .allReduce) || decide (o.2.kind = .reduceScatter) || decide (o.2.kind = .reduceToMem))

/-- Open instances of a group: at most four (R116). -/
def State.openInstances (s : State) (g : Nat) : Nat :=
  countIf s.work.ops.vals fun o => o.group == g && decide (o.phase = .running)
    && (decide (o.kind = .allReduce) || decide (o.kind = .reduceScatter) || decide (o.kind = .reduceToMem))

/-- Reduce blocks of an instance: 8,192 elements each, the last may be shorter. -/
def redBlocks (d : List Byte) : Nat := ceilDiv (redCount d) 8192

/-- The first byte at which two descriptors differ in a field that the first of an instance fixes (R118): KIND, REDUCE_OP,
the formats, ELEM_COUNT, POST_SCALE, DEST_ADDR. -/
def redDiffers (a b : List Byte) : Option Nat :=
  ([0, 40, 41, 44, 45, 46, 47, 48, 49, 50, 51, 56, 57, 58, 59, 60, 61, 62, 63].find? fun i => leAt a i 1 != leAt b i 1)

/-- A packet of a result to one contributor. -/
def State.redSend (q : Contrib) (st flags result detail off : Nat) (data : List Byte) (mute : Bool) (s : State) : State :=
  match q.hdr with
  | none => s
  | some h => if mute then s else s.opResult h q.opId st flags result detail off data

/-- A contributor's step of a job goes to the ledger before its final packet leaves (R351): it goes on as an operation record
of its own. -/
def State.redLedger (x : Op) (q : Contrib) (h : Hdr) (st result detail : Nat) (s : State) : State :=
  let y : Op := { x with
    hdr := h
    desc := x.desc.take 4 ++ leBytes 4 q.opId ++ x.desc.drop 8
    phase := .ledger
    seeds := []
    todo := []
    status := st
    result := result
    detail := detail
    contribs := []
    spilled := 0
    job := q.job
    stepSeq := q.stepSeq
    mute := x.mute || q.mute
    finalData := []
    finalOffset := 0 }
  s.modWork fun w => { w with ops := w.ops.put w.nextOp y, nextOp := w.nextOp + 1 }

/-- End an instance: every member that has submitted gets the final packet; the group records it. A RESULT or DETAIL of none
is one that the spec does not state. -/
def State.redEnd (o st : Nat) (result : Contrib → Option Nat) (detail : Option Nat) (s : State) : State :=
  match s.work.ops.look o with
  | none => s
  | some x =>
    let s := x.contribs.foldl (fun s q =>
      match q.hdr with
      | none => s
      | some h =>
        s.withOpen fun r s => s.withOpen fun d s =>
          if (q.job.bind s.work.jobs.look).isSome then s.redLedger x q h st ((result q).getD r) (detail.getD d)
          else s.redSend q st (b2n x.replayed) ((result q).getD r) (detail.getD d) 0 [] (x.mute || q.mute)) s
    let note (g : Group) : Group :=
      if st = St.OK then { g with done := insertAsc x.inst g.done } else { g with aborted := g.aborted.put x.inst st }
    let s := s.modWork fun w => { w with groups := w.groups.change x.group note }
    s.removeOp o

/-- Abort an instance (R118, R120, R125). -/
def State.redAbort (o st : Nat) (result detail : Option Nat) (s : State) : State := s.redEnd o st (fun _ => result) detail

/-- 64-byte words of a contribution. -/
def redWords (x : Op) : Nat := redCount x.desc * elemBytes (redIn x.desc) / 64

/-- Words of block `b`. -/
def redBlockWords (x : Op) (b : Nat) : List Nat :=
  let w := 8192 * elemBytes (redIn x.desc) / 64
  List.range' (b * w) (min ((b + 1) * w) (redWords x) - b * w)

/-- Has every contributor's every word of a block arrived? -/
def redReady (x : Op) (b : Nat) : Bool :=
  x.contribs.all fun q => q.hdr.isSome && (redBlockWords x b).all fun w => q.words.has w

/-- The contributors that are incomplete. -/
def redMissing (x : Op) : List Nat :=
  (x.contribs.filter fun q => q.hdr.isNone || decide (q.words.length < redWords x)).map Contrib.index

/-- The combined elements of a block, as FP32 or INT32: the tree of R121 over the contributors. -/
def redCombine (x : Op) (b : Nat) : List Nat :=
  let fmt := redIn x.desc
  let cols := x.contribs.map fun q => elements fmt ((redBlockWords x b).flatMap fun w => (q.words.look w).getD [])
  tree (fun p q => List.zipWith (combine (redOp x.desc) fmt) p q) [] cols

/-- The output bytes of a block: POST_SCALE, then one rounding (R121). -/
def redOutput (x : Op) (b : Nat) : List Byte :=
  let r := redCombine x b
  let r := if redScale x.desc = 0 ∨ redIn x.desc = 3 then r else r.map fun v => f32mul v (redScale x.desc)
  elementBytes (redOut x.desc) r

/-- A reduce group spanning K9s sends its partial to the root as FP32 segments (R127): 4,032 bytes at most each. OP_ID is
this device's number for the instance, `o`. -/
def State.sendSegments (x : Op) (o root off : Nat) : Nat → List Byte → State → State
  | 0, _, s => s
  | n + 1, data, s =>
    if data.isEmpty then s
    else
      let part := data.take 4032
      let hd := leBytes 1 0x13 ++ leBytes 1 1 ++ leBytes 2 0 ++ leBytes 4 o ++ leBytes 20 0
      let tl := leBytes 8 off ++ leBytes 2 part.length ++ leBytes 22 0
      let crc := crc32 (hd ++ leBytes 4 0 ++ tl)
      let seg := hd ++ leBytes 4 crc.toNat ++ tl
      let p := s.ownPacket 0x30 root x.hdr.compId 0 (s.epochByte x.hdr.compId) 0 0 0 (seg ++ part)
      State.sendSegments x o root (off + 4032) n (data.drop 4032) (s.route p none)

/-- Deliver a block (R123). -/
def State.redDeliver (o b : Nat) (s : State) : State :=
  match s.work.ops.look o with
  | none => s
  | some x =>
    let w := elemBytes (redOut x.desc)
    let off := b * 8192 * w
    match (s.work.groups.look x.group).bind Group.parent with
    | some (root, _) =>
      let f := (redCombine x b).flatMap (leBytes 4)
      s.sendSegments x o root (b * 32768) (f.length / 4032 + 1) f
    | none =>
      let data := redOutput x b
      match x.kind with
      | .reduceToMem => s.writeRange x.comp (redDest x.desc + off) data
      | .reduceScatter =>
        let part := redCount x.desc * w / x.contribs.length
        x.contribs.foldl (fun s q =>
          let lo := max off (q.index * part)
          let hi := min (off + data.length) ((q.index + 1) * part)
          match q.hdr with
          | some h => if x.mute ∨ q.mute ∨ hi ≤ lo then s
              else s.sendInline h q.opId (data.length / 4064 + 1) (lo - q.index * part) ((data.drop (lo - off)).take (hi - lo))
          | none => s) s
      | _ => x.contribs.foldl (fun s q =>
          match q.hdr with
          | some h => if x.mute ∨ q.mute then s else s.sendInline h q.opId (data.length / 4064 + 1) off data
          | none => s) s

/-- The end of a complete instance (Table CO-10). -/
def State.redFinish (o : Nat) (s : State) : State :=
  match s.work.ops.look o with
  | none => s
  | some x =>
    let total := redCount x.desc * elemBytes (redOut x.desc)
    let n := x.contribs.length
    s.redEnd o St.OK (fun _ => some (if x.kind = .reduceScatter then total / n else total)) (some n)

/-- Take the words of a segment that are not here yet: the number of words that were, and the new record (R120). -/
def takeWords (q : Contrib) (off : Nat) (data : List Byte) : Nat × Contrib :=
  (List.range (data.length / 64)).foldl (fun r i =>
    let k := off / 64 + i
    if r.2.words.has k then (r.1 + 1, r.2)
    else (r.1, { r.2 with words := r.2.words.put k ((data.drop (64 * i)).take 64) })) (0, q)

/-- A segment for a contributor of an open instance (R119, R120). -/
def State.takeSegment (o i : Nat) (seg data : List Byte) (s : State) : State :=
  match s.work.ops.look o with
  | none => s
  | some x =>
    let off := leAt seg 32 8
    let n := leAt seg 40 2
    if leAt seg 1 1 ≠ 1 ∨ !zeros seg 2 4 ∨ !zeros seg 8 28 ∨ !zeros seg 42 64 ∨ 2 ^ 40 ≤ off ∨ off % 64 ≠ 0 ∨ n < 64 ∨ 4032 < n
        ∨ n % 64 ≠ 0 ∨ n ≠ data.length ∨ 64 * redWords x < off + n then s.redAbort o St.INVALID_PARAM none (some i)
    else match x.contribs.find? fun q => q.index == i with
      | none => s
      | some q =>
        let r := takeWords q off data
        let s := s.bumpCompBy x.comp Reg.CCNT_DUP_SEGMENTS r.1
        s.modOp o fun y => { y with contribs := y.contribs.map fun z => if z.index = i then r.2 else z }

/-- The contributor record of each member, before any descriptor. -/
def newContribs (n : Nat) : List Contrib :=
  (List.range n).map fun i => { index := i, hdr := none, opId := 0, words := [], job := none, stepSeq := 0, mute := false }

/-- A member joins an open instance: its descriptor must agree with the first (R118); segments that came early are taken. -/
def State.redJoin (o : Nat) (h : Hdr) (d : List Byte) (job : Option Nat) (step : Nat) (s : State) : State :=
  match s.work.ops.look o with
  | none => s
  | some x =>
    let i := redIndex d
    let s := s.modOp o fun y => { y with contribs := y.contribs.map fun q =>
      if q.index = i then { q with hdr := some h, opId := opId d, job := job, stepSeq := step } else q }
    match redDiffers x.desc d with
    | some b => (s.bumpComp x.comp Reg.CCNT_GROUP_MISMATCH).redAbort o St.GROUP_MISMATCH (some b) (some i)
    | none =>
      let mine (e : Nat × Nat × Nat × List Byte × List Byte) : Bool := e.1 == x.comp && e.2.1 == h.src && e.2.2.1 == opId d
      let early := s.work.early.filter mine
      let s := s.modWork fun w => { w with early := w.early.filter fun e => !mine e }
      early.foldl (fun s e => s.takeSegment o i e.2.2.2.1 e.2.2.2.2) s

/-- The descriptor by which a K9 of a group that spans K9s joins the root's instance as contributor `idx` (R127): its own
number for the instance as OP_ID, and FP32 (or INT32) input. -/
def redParentDesc (x : Op) (o idx : Nat) : List Byte :=
  let d := x.desc
  let fmt := (if redIn d = 3 then 3 else 2) + 16 * redOut d
  let head := d.take 4 ++ leBytes 4 o ++ (d.drop 8).take 20
  let tail := (d.drop 32).take 2 ++ leBytes 2 idx ++ (d.drop 36).take 5 ++ leBytes 1 fmt ++ d.drop 42
  head ++ leBytes 4 (crc32 (head ++ leBytes 4 0 ++ tail)).toNat ++ tail

/-- Submit this K9's part of an instance to the root K9 (R127). -/
def State.redParent (o : Nat) (s : State) : State :=
  match s.work.ops.look o with
  | none => s
  | some x =>
    match (s.work.groups.look x.group).bind Group.parent with
    | none => s
    | some (root, idx) =>
      s.openOwn 2 o fun tag =>
        s.ownPacket 0x30 root x.hdr.compId tag (s.epochByte x.hdr.compId) 0 0 0 (redParentDesc x o idx)

/-- An OP_RESULT packet of the root K9 goes on to every member that has submitted; the final one ends the instance. The
Bool says whether it was the final one (R127). -/
def State.redRelay (o : Nat) (b : List Byte) (s : State) : State × Bool :=
  match s.work.ops.look o with
  | none => (s, true)
  | some x =>
    let st := leAt b 4 1
    let flags := leAt b 5 1
    if bit flags 1 then
      (x.contribs.foldl (fun s q => s.redSend q St.OK flags 0 0 (leAt b 24 8) (b.drop 32) (x.mute || q.mute)) s, false)
    else
      let s := if bit flags 0 then s.modOp o fun y => { y with replayed := true } else s
      (s.redEnd o st (fun _ => some (leAt b 8 8)) (some (leAt b 16 8)), true)

/-- Reduce-pool slots a press uses: one for each contribution to a block that has words here and is not combined yet (R85,
R124). -/
def State.reduceSlotsUsed (s : State) (n : Nat) : Nat :=
  sumOf s.work.ops.vals fun x =>
    if (s.work.groups.look x.group).any fun g => g.press == n then
      sumOf x.contribs fun q => countIf x.todo fun b => (redBlockWords x b).any fun w => q.words.has w
    else 0

/-- REDUCE_SEGMENT: a contribution segment (KIND 0x13), matched by source node and OP_ID (R119, R120). One that fails
its epoch is counted and discarded; one before its descriptor is held; one for no open operation counts as a duplicate. -/
def execReduceSegment (h : Hdr) (seg data : List Byte) (s : State) : Out :=
  .next <|
    let r := s.ingress { opcode := 0x30, hdr := h, data := seg ++ data }
    let s := r.1
    match r.2 with
    | none => s
    | some c =>
      if (s.epochFor c h.epoch).isNone then s.bumpComp c Reg.TX_CNT_STALE_EPOCH
      else if !descCrcOk seg 64 then s.bumpComp c Reg.CCNT_DESC_CRC
      else
        let id := opId seg
        match s.work.ops.findSome? fun q =>
            if q.2.comp = c ∧ q.2.phase = .running then
              (q.2.contribs.find? fun z => z.opId == id && z.hdr.any fun g => g.src == h.src).map fun z => (q.1, z.index)
            else none with
        | some (o, i) =>
          -- a contribution that finds the reduce pool full waits in the overflow region (R124)
          let home := ((s.work.ops.look o).bind fun x => s.work.groups.look x.group).map Group.press
          let s := if home.any fun n => (s.presses.look n).any fun p => decide (p.reduceSlots ≤ s.reduceSlotsUsed n) then
              let used := s.redSpill c + data.length
              if s.field Reg.COLL_SPILL_LIMIT 15 0 * 1048576 < used then s.bumpComp c Reg.CCNT_SPILL_HELD
              else (s.modOp o fun y => { y with spilled := y.spilled + data.length }).bumpComp c Reg.CCNT_REDUCE_SPILL
            else s
          s.takeSegment o i seg data
        | none =>
          let group (q : Group) : Bool := q.comp == c && q.members.any fun m => m.1 == h.src
          let ended := s.work.groups.vals.any fun g => group g && (!g.done.isEmpty || !g.aborted.isEmpty)
          let waiting := s.work.ops.vals.any fun x => x.comp == c && x.hdr.src == h.src && opId x.desc == id
          if ended && !waiting then s.bumpCompBy c Reg.CCNT_DUP_SEGMENTS (data.length / 64)
          else s.modWork fun w => { w with early := w.early ++ [(c, h.src, id, seg, data)] }

/-- A seed of a reduce instance reaches DONE. -/
def State.redSeedDone (i c : Nat) (s : State) : State :=
  (s.modSeed i fun z => { z with state := .done, commitNs := s.clk.timeNs }).bumpComp c Reg.PCNT_SEEDS_DONE

/-- The seed of an instance that covers a block (R116: 64 consecutive blocks each). -/
def State.redSeed (s : State) (x : Op) (b : Nat) : Option (Nat × Seed) :=
  (x.seeds.filterMap fun i => (s.work.seeds.look i).map fun z => (i, z)).find? fun q =>
    decide (q.2.kind = .block (b / 64 * 64))

/-- Seeds whose blocks are all combined are DONE; when every block is, so is the final seed (R116). -/
def State.redSeeds (o b : Nat) (s : State) : State :=
  match s.work.ops.look o with
  | none => s
  | some x =>
    let s := if x.todo.any fun k => k / 64 == b / 64 then s else match s.redSeed x b with
      | some q => s.redSeedDone q.1 x.comp
      | none => s
    if x.todo.isEmpty then
      match (x.seeds.filterMap fun i => (s.work.seeds.look i).map fun z => (i, z)).find? fun q => decide (q.2.kind = .final) with
      | some q => s.redSeedDone q.1 x.comp
      | none => s
    else s

/-- REDUCE_BLOCK_DONE: a block whose every contribution is here is combined by its ACTIVE seed and delivered; the last one
ends the instance (R121, R123), unless a root K9 has still to answer (R127). -/
def execReduceBlockDone (op block : Nat) (s : State) : Out :=
  .next <|
    match s.work.ops.look op with
    | none => s
    | some x =>
      if x.phase ≠ .running ∨ !x.todo.contains block ∨ !redReady x block
          ∨ !(s.redSeed x block).any (fun q => decide (q.2.state = .active)) then s
      else
        let s := (s.redDeliver op block).modOp op fun y => { y with todo := y.todo.filter (· != block) }
        let s := s.redSeeds op block
        let parent := ((s.work.groups.look x.group).bind Group.parent).isSome
        if x.todo.all (· == block) && !parent then s.redFinish op else s

/-- REDUCE_INSTANCE_TIMEOUT: an instance that lacks a word of a contribution aborts with ST_OP_TIMEOUT (R125). -/
def execReduceInstanceTimeout (op : Nat) (s : State) : Out :=
  .next <|
    match s.work.ops.look op with
    | none => s
    | some x =>
      let miss := redMissing x
      if x.phase ≠ .running ∨ x.contribs.isEmpty then s
      else match x.timeoutAt, miss with
        | some t, low :: _ =>
          ((s.advanceTo t).bumpComp x.comp Reg.CCNT_OP_TIMEOUT).redAbort op St.OP_TIMEOUT (some low) (some miss.length)
        | _, _ => s

end Sys2Proof.Machine
end

