-- ==== Sys2Proof/Machine/Pool.lean ====
section
/-! DEFINITION. Extents (R29 to R48, R296 to R298): the commands EXTENT_CREATE to EXTENT_INFO and the rows that end a
seal and a drain. Items of EXTENT_CREATE are numbered as Table CM-4 and Table MT-2 list them (log entry 24). -/

namespace Sys2Proof.Machine

/-! ### The map epoch (R291) -/

/-- Is a drain window open? -/
def Comp.windowOpen (c : Comp) : Bool := c.windowEnd.isSome

/-- The refusal of a map change inside a drain window: the microseconds left (R291). -/
def mapBusy (h : Nat) (s : State) : Res :=
  let left := ((s.comp h).bind Comp.windowEnd).map fun t => ceilDiv (t - s.clk.timeNs) 1000
  (s.bumpComp h Reg.CPCNT_MAP_BUSY, some (St.MAP_BUSY, [.detail Det.REMAINING_US (left.getD 0)]))

/-- A map change (R291, R292): the epoch goes up, a drain window opens, and the extent table as it was is kept for it. It
runs before the change. -/
def State.mapChange (h : Nat) (s : State) : State :=
  let old := (s.extentsOf h).map fun q => (q.1, q.2.base, q.2.size)
  (s.modComp h fun c => { c with
    epoch := (c.epoch + 1) % 2 ^ 32
    windowEnd := some (s.clk.timeNs + 1000 * c.drainUs)
    prevMap := old }).bumpComp h Reg.CPCNT_MAP_CHANGES

/-- A body on an extent that must exist. -/
def withExtent (e : Nat) (f : Extent → State → Res) (s : State) : Res :=
  match s.extent e with
  | none => fail St.NOT_FOUND s
  | some x => f x s

/-- A body on a composition that must exist. -/
def withComp (h : Nat) (f : Comp → State → Res) (s : State) : Res :=
  match s.comp h with
  | none => fail St.NOT_FOUND s
  | some x => f x s

/-! ### EXTENT_CREATE -/

def tierOf : Nat → TierPolicy
  | 0 => .t1Home
  | 1 => .t1NoCache
  | 2 => .t2Home
  | _ => .t2T1Only

def durOf : Nat → Durability
  | 0 => .single
  | 1 => .mirrored
  | _ => .replicated

def hintOf : Nat → Hint
  | 0 => .pinHot
  | 1 => .warm
  | _ => .cold

/-- The trays a slice may name: those whose TRAY ports lie in its FP_MASK (R284). -/
def State.sliceTrays (s : State) (c : Comp) (mask : BitVec 24) : Bool :=
  (setBits mask.toNat 24).all fun t => (s.tray t).lport.any fun p => c.fpMask.getLsbD (p / 8)

/-- The first item of an EXTENT_CREATE that breaks a rule of R29 to R31, R284, R285 or R316. -/
def State.extentItemBad (s : State) (c : Comp) (r : ExtentReq) : Option Nat :=
  let size := 2097152
  let replica := (r.replica.getD 0).toNat
  let noCache := r.tier = 1 ∨ r.tier = 3
  if r.base % size ≠ 0 ∨ 2 ^ 57 ≤ r.base then some 1
  else if r.size % size ≠ 0 ∨ r.size < size ∨ 2 ^ 46 < r.size ∨ 2 ^ 57 < r.base + r.size then some 2
  else if 3 < r.tier then some 3
  else if 1 < r.layout then some 4
  else if 1 < r.protection then some 5
  else if 2 < r.durability then some 6
  else if 2 < r.affinity.getD 0 then some 7
  else if 2 < r.hint then some 8
  else if r.layout = 0 ∧ r.slotLines.getD 0 ≠ 0 then some 9
  else if r.layout = 1 ∧ (r.slotLines.getD 0 < 51 ∨ 257 < r.slotLines.getD 0) then some 9
  else if r.durability = 2 ∧ (r.replica.isNone ∨ bits replica 31 28 ≠ 0 ∨ bits replica 15 5 ≠ 0) then some 11
  else if r.durability ≠ 2 ∧ replica ≠ 0 then some 11
  else if r.durability = 1 ∧ (setBits r.homeTrays.toNat 24).length < 2 then some 10
  else if r.durability = 2 ∧ bits replica 27 16 = s.topo.node ∧ bit r.homeTrays.toNat (bits replica 4 0) then some 11
  else if c.slice ∧ r.affinity.getD 0 ≠ 0 then some 7
  else if c.slice ∧ !s.sliceTrays c r.homeTrays then some 10
  else if r.protection = 1 ∧ !c.confidential then some 5
  else if r.protection = 1 ∧ noCache then some 3
  else if r.hint = 0 ∧ noCache then some 8
  else none

/-- Does a range overlap another extent of the composition? -/
def State.extentOverlaps (s : State) (h base size : Nat) : Bool :=
  (s.extentsOf h).vals.any fun x => decide (base < x.base + x.size) && decide (x.base < base + size)

/-- The chunk record of a new home. -/
def newChunk (hint : Hint) (tick : BitVec 16) (q : Nat × Option Nat) : Chunk where
  tray := q.1
  mirror := q.2
  stale := none
  hint := hint
  stamp := tick
  t0 := []
  inT1 := false
  t1Dirty := false
  arriving := []
  dropT1 := false

/-- The extent a request describes, before it is placed. -/
def newExtent (r : ExtentReq) (h store : Nat) : Extent where
  comp := h
  base := r.base
  size := r.size
  tier := tierOf r.tier
  vq := decide (r.layout = 1)
  isProtected := decide (r.protection = 1)
  durability := durOf r.durability
  affinity := r.affinity.getD 0
  slotLines := r.slotLines.getD 0
  homeTrays := r.homeTrays
  replica := r.replica.getD 0
  initialHint := hintOf r.hint
  state := .active
  store := store
  sheafBase := none
  chunks := []
  written := []
  poison := []
  marks := []
  sealer := none
  drainers := []
  counters := []
  macGen := 0
  rekeying := false
  replicaFetch := []

/-- Room for another extent apart from its homes: the counts of R29, the pin quota (R44), the roots (R316) and the
tree-node frames (R318). -/
def State.extentRoom (s : State) (h : Nat) (c : Comp) (x : Extent) : Bool :=
  decide ((s.extentsOf h).length < 4096) && decide (s.pool.extents.length < 65536)
    && (decide (x.initialHint ≠ .pinHot) || decide (s.pinnedOf h + 64 * x.chunkCount ≤ c.pinQuota))
    && (!x.isProtected || decide (s.rootsUsed < 4096)) && decide (x.tree ≤ s.t0Free)

/-- Place every chunk of a new extent, and its logical sheaves (R39, R32). -/
def State.placeExtent (s : State) (x : Extent) : Option Extent :=
  let free : NMap Nat := (List.range 24).map fun t => (t, if x.tier.isT2 then s.t2Free x.comp t else s.t1Free x.comp t)
  let mir := decide (x.durability = .mirrored)
  (placeChunks (setBits x.homeTrays.toNat 24) (weightOf x.isProtected) mir x.chunkCount 0 free).bind fun l =>
    let chunks : NMap Chunk := l.zipIdx.map fun q => (q.2, newChunk x.initialHint s.clk.tick q.1)
    if x.tier.isT2 then
      (s.sheafRange (x.chunkCount * (if mir then 4 else 2))).map fun b => { x with chunks := chunks, sheafBase := some b }
    else some { x with chunks := chunks }

/-- EXTENT_CREATE (0x2001): the rules of R29 to R31, R284, R285, R316 and R318, then every home chunk placed (R39). -/
def execExtentCreate (c : Ctx) (h : Nat) (r : ExtentReq) (s : State) : Out :=
  .next <| nirod (.extentCreate c h r) c (Cmd.fo 0x2001 Legal.S) (Target.ofComp h) (withComp h fun y s =>
    match s.extentItemBad y r with
    | some i => invalid i s
    | none =>
      if r.layout = 1 ∧ r.protection = 1 then fail St.PROTECTED_NO_COMPRESS s
      else if s.extentOverlaps h r.base r.size then invalid 1 s
      else
        let x := newExtent r h s.pool.nextStore
        if !s.extentRoom h y x then fail St.NO_CAPACITY s
        else match s.placeExtent x with
          | none => fail St.NO_CAPACITY s
          | some x =>
            let id := s.pool.nextExtent
            ok [.num id] (s.modPool fun p => { p with
              extents := p.extents.put id x
              nextExtent := id + 1
              nextStore := p.nextStore + 1 })) s

/-! ### EXTENT_DESTROY and EXTENT_INFO -/

/-- EXTENT_DESTROY (0x2002): REVOKED or HELD only (R34), under the map rule of R291. -/
def execExtentDestroy (c : Ctx) (e : Nat) (s : State) : Out :=
  .next <| nirod (.extentDestroy c e) c { Cmd.fo 0x2002 Legal.L with compFm := 3 } (s.targetExtent e) (withExtent e fun x s =>
    if x.state ≠ .revoked ∧ x.state ≠ .held then fail St.EXTENT_BUSY s
    else if (s.comp x.comp).any Comp.windowOpen then mapBusy x.comp s
    else ok [] ((s.mapChange x.comp).freeExtent e)) s

def ExtState.code : ExtState → Nat
  | .active => 0
  | .sealed => 1
  | .revoking => 2
  | .revoked => 3
  | .held => 4

def TierPolicy.code : TierPolicy → Nat
  | .t1Home => 0
  | .t1NoCache => 1
  | .t2Home => 2
  | .t2T1Only => 3

def Durability.code : Durability → Nat
  | .single => 0
  | .mirrored => 1
  | .replicated => 2

def Hint.code : Hint → Nat
  | .pinHot => 0
  | .warm => 1
  | .cold => 2

/-- The fields of Table MT-2 and the state of Table MT-3, in the order of the tables. -/
def Extent.attributes (x : Extent) : List Nat :=
  [x.base, x.size, x.tier.code, b2n x.vq, b2n x.isProtected, x.durability.code, x.affinity, x.initialHint.code, x.slotLines,
   x.homeTrays.toNat, x.replica.toNat, x.state.code]

/-- EXTENT_INFO (0x2008). -/
def execExtentInfo (c : Ctx) (e : Nat) (s : State) : Out :=
  .next <| nirod (.extentInfo c e) c { Cmd.fob 0x2008 Legal.R with compFm := 1 } (s.targetExtent e)
    (withExtent e fun x s => ok (x.attributes.map .num) s) s

/-! ### Hints (R42 to R45) -/

/-- Give one chunk a hint (Table MT-5, R45): a later hint stops the background work of an earlier one. -/
def State.hintChunk (e hint ch : Nat) (s : State) : State :=
  match s.extent e with
  | none => s
  | some x =>
    let s := s.modPool fun p => { p with background := p.background.filter fun b =>
      !(b.extent == e && b.leaf / 64 == ch && decide (b.kind ≠ .writeBack)) }
    let s := s.modChunk e ch fun k => { k with hint := hintOf hint, dropT1 := false }
    if hint = 0 then
      (x.written.filter fun l => l / 64 == ch && !x.inT0 l).foldl (fun s l =>
        s.queueMove e l .promote (((x.chunk ch).map Chunk.tray).getD 0)) s
    else if hint = 3 then
      let s := s.evictChunk e ch
      match (s.extent e).bind fun x => x.chunk ch with
      | none => s
      | some k =>
        if !x.tier.isT2 ∨ !k.inT1 then s
        else if !k.t1Dirty ∧ k.t0.isEmpty then s.dropT1 e ch
        else
          let s := s.modChunk e ch fun k => { k with dropT1 := true }
          if k.t0.isEmpty then s.programChunk e ch else s
    else s

/-- A hint for chunks `first` to `first + count - 1`, all or none (R42, R44). -/
def State.giveHint (e first count hint item : Nat) (x : Extent) (s : State) : Res :=
  if x.state = .revoking ∨ x.state = .revoked then fail St.EXTENT_REVOKED s
  else if 3 < hint then invalid item s
  else
    let range := List.range' first count
    let pinned := 64 * countIf range fun ch => (x.chunk ch).any fun k => decide (k.hint = .pinHot)
    let quota := ((s.comp x.comp).map Comp.pinQuota).getD 0
    if hint = 0 ∧ !x.tier.caches then invalid item s
    else if hint = 0 ∧ quota < s.pinnedOf x.comp - pinned + 64 * count then fail St.NO_CAPACITY s
    else ok [] (range.foldl (fun s ch => s.hintChunk e hint ch) s)

/-- EXTENT_HINT (0x2003). -/
def execExtentHint (c : Ctx) (e first count hint : Nat) (s : State) : Out :=
  .next <| nirod (.extentHint c e first count hint) c (Cmd.fo 0x2003 Legal.L) (s.targetExtent e) (withExtent e fun x s =>
    if count = 0 ∨ x.chunkCount < first + count then invalid 2 s else s.giveHint e first count hint 3 x) s

/-! ### Seal (R48) -/

/-- The tray of a replica on this K9, when the REPLICA names one. -/
def State.replicaHere (s : State) (x : Extent) : Option Nat :=
  if bits x.replica.toNat 27 16 = s.topo.node then some (bits x.replica.toNat 4 0) else none

/-- EXTENT_SEAL (0x2004): an ACTIVE REPLICATED extent starts its copy; stores and atomics get ST_READ_ONLY meanwhile. -/
def execExtentSeal (c : Ctx) (e : Nat) (s : State) : Out :=
  .next <| nirod (.extentSeal c e) c (Cmd.fo 0x2004 Legal.L) (s.targetExtent e) (withExtent e fun x s =>
    if x.durability ≠ .replicated then invalid 0 s
    else if x.state ≠ .active ∨ x.sealer.isSome then fail St.EXTENT_BUSY s
    else
      let need := weightOf x.isProtected * x.chunkCount
      let noRoom := (s.replicaHere x).any fun t =>
        decide ((s.tray t).state = .absent) || decide ((if x.tier.isT2 then s.t2Free x.comp t else s.t1Free x.comp t) < need)
      if noRoom then fail St.NO_CAPACITY s
      else wait (s.modExtent e fun x => { x with sealer := some (c.session, c.seq) })) s

/-- A sealed REPLICATED extent is never dirty in T0 (R47). -/
def Extent.cleanT0 (x : Extent) : Extent :=
  let one (_ : Nat) (k : Chunk) : Chunk :=
    let dirty := k.t0.vals.any T0Leaf.dirty
    { k with
      t0 := k.t0.each fun _ f => { f with dirty := false }
      inT1 := k.inT1 || (x.tier.isT2 && dirty)
      t1Dirty := k.t1Dirty || (x.tier.isT2 && dirty) }
  { x with chunks := x.chunks.each one }

/-- EXTENT_SEAL_DONE: the replica's digest matches the home's; the extent is SEALED and the command replies (R48). -/
def execExtentSealDone (e : Nat) (replicaDigest : Digest) (s : State) : Out :=
  .next <|
    match s.extent e with
    | none => s
    | some x =>
      match x.sealer with
      | none => s
      | some (sess, seq) =>
        if s.tx.steps.vals.any fun t => t.extent == e && writeClass t.pkt.opcode && t.decided.isNone then s
        else if Config.sha3 (s.readPool e 0 x.size) ≠ replicaDigest then s
        else
          let s := s.modExtent e fun x => { x.cleanT0 with state := .sealed, sealer := none }
          s.reply { session := sess, seq := seq, badItem := none } 0x2004 St.OK [.digest replicaDigest]

/-! ### Revocation (R296, R297) -/

/-- The operations that have been accepted and name an extent. -/
def State.opsOn (s : State) (e : Nat) : List Nat :=
  (s.work.ops.filter fun o => decide (o.2.phase = .running) && o.2.extents.contains e).map Prod.fst

/-- The requests past step 6 that have not begun. -/
def State.stepsOn (s : State) (e : Nat) : List Nat :=
  (s.tx.steps.filter fun t => t.2.extent == e && t.2.decided.isNone).map Prod.fst

/-- The coherence grants of an extent that still owe their requester an answer: domain and grant. -/
def State.grantsOn (s : State) (e : Nat) : List (Nat × Grant) :=
  match s.extent e with
  | none => []
  | some x => s.coh.flatMap fun d =>
      if d.2.comp = x.comp then
        (d.2.grants.filter fun g => g.pkt.isSome && decide (x.base ≤ 128 * g.line ∧ 128 * g.line < x.base + x.size)).map
          fun g => (d.1, g)
      else []

/-- The byte offset of the first range of an operation that has not been served (Table CP-2). -/
def State.unserved (s : State) (x : Op) : Nat :=
  match x.kind with
  | .fill | .copy | .compare | .nmReduce =>
    ((x.todo.map fun l => (s.nmPiece x.comp x.desc l).1).foldl (fun (b : Option Nat) n => match b with
      | none => some n
      | some m => some (min m n)) none).getD 0
  | .allReduce | .reduceScatter | .reduceToMem => (x.todo.headD 0) * 8192 * elemBytes (redOut x.desc)
  | .encode => 32768 * ((x.seeds.filterMap fun i => (s.work.seeds.look i).map Seed.index).headD 0)
  | _ => 0

/-- End an accepted operation with ST_EXTENT_REVOKED. -/
def State.revokeOp (o : Nat) (s : State) : State :=
  match s.work.ops.look o with
  | none => s
  | some x =>
    let n := s.unserved x
    match x.kind with
    | .allReduce | .reduceScatter | .reduceToMem => s.redAbort o St.EXTENT_REVOKED (some n) none
    | _ => s.failOp o St.EXTENT_REVOKED n

/-- Revoke an extent: the number of requests and operations that were in flight, and the state after Table CP-2. -/
def State.revokeExtent (e : Nat) (s : State) : Nat × State :=
  match s.extent e with
  | none => (0, s)
  | some x =>
    let steps := s.stepsOn e
    let grants := s.grantsOn e
    let ops := s.opsOn e
    let n := steps.length + grants.length + ops.length
    let s := match x.sealer with
      | some (sess, seq) => s.reply { session := sess, seq := seq, badItem := none } 0x2004 St.EXTENT_REVOKED []
      | none => s
    let s := (s.modExtent e fun x => { x with state := .revoking, sealer := none }).bumpCompBy
      x.comp Reg.CPCNT_REVOKED_INFLIGHT n
    let s := steps.foldl (fun s i => s.modStep i fun t => { t with decided := some St.EXTENT_REVOKED, items := [] }) s
    let s := grants.foldl (fun s q =>
      let s := s.modDom q.1 fun d => { d with grants := d.grants.map fun g => if g.id = q.2.id then { g with pkt := none } else g }
      match q.2.pkt with
      | some p => s.respond p.opcode p.hdr St.EXTENT_REVOKED []
      | none => s) s
    let s := ops.foldl (fun s o => s.revokeOp o) s
    (n, s.settle)

/-- EXTENT_REVOKE (0x2005). -/
def execExtentRevoke (c : Ctx) (e : Nat) (s : State) : Out :=
  .next <| nirod (.extentRevoke c e) c (Cmd.fo 0x2005 Legal.L) (s.targetExtent e) (withExtent e fun x s =>
    if x.state ≠ .active ∧ x.state ≠ .sealed then fail St.EXTENT_BUSY s
    else
      let r := s.revokeExtent e
      ok [.num r.1] r.2) s

/-- Has the drain of an extent ended: no request or operation touches it any longer? -/
def State.drained (s : State) (e : Nat) : Bool :=
  (s.tx.steps.vals.all fun t => t.extent != e) && (s.opsOn e).isEmpty && (s.grantsOn e).isEmpty

/-- A drained extent is REVOKED: its coherence entries go, its dirty leaves are written back in the background, and the
EXTENT_DRAINs that wait reply (R297). -/
def State.endDrain (e : Nat) (s : State) : State :=
  match s.extent e with
  | none => s
  | some x =>
    let s := (s.freeExtentLines e).modExtent e fun x => { x with state := .revoked, drainers := [] }
    let s := s.writeBackExtent e .evict
    x.drainers.foldl (fun s q => s.reply { session := q.1, seq := q.2, badItem := none } 0x2006 St.OK []) s

/-- EXTENT_DRAIN (0x2006). -/
def execExtentDrain (c : Ctx) (e : Nat) (s : State) : Out :=
  .next <| nirod (.extentDrain c e) c (Cmd.fo 0x2006 Legal.L) (s.targetExtent e) (withExtent e fun x s =>
    match x.state with
    | .revoked => ok [] s
    | .revoking => wait (s.modExtent e fun x => { x with drainers := x.drainers ++ [(c.session, c.seq)] })
    | _ => invalid 0 s) s

/-- EXTENT_DRAIN_DONE. -/
def execExtentDrainDone (e : Nat) (s : State) : Out :=
  .next <|
    if (s.extent e).any fun x => decide (x.state = .revoking) && s.drained e then s.endDrain e else s

/-! ### Adoption (R298) -/

/-- Move a HELD extent into composition `h` under a new EXTENT_ID. -/
def State.adopt (e h : Nat) (s : State) : Nat × State :=
  match s.extent e with
  | none => (0, s)
  | some x =>
    let id := s.pool.nextExtent
    let s := (s.mapChange x.comp).mapChange h
    let s := { s with
      coh := s.coh.each fun _ d => { d with extents := d.extents.filter (· != e) }
      ft := { s.ft with forcedUe := s.ft.forcedUe.map fun q => if q.1 = e then (id, q.2) else q }
      pool := { s.pool with
        extents := (s.pool.extents.del e).put id { x with comp := h, state := .active, replicaFetch := [] }
        nextExtent := id + 1
        kv := s.pool.kv.each fun _ k => if k.extent = e then { k with extent := id } else k
        moves := s.pool.moves.map fun m => if m.extent = e then { m with extent := id } else m
        background := s.pool.background.map fun m => if m.extent = e then { m with extent := id } else m } }
    let pin (l : Nat) : Bool := (x.chunkOf l).any fun k => decide (k.hint = .pinHot)
    (id, (x.written.filter pin).foldl (fun s l =>
      s.queueMove id l .promote (((x.chunkOf l).map Chunk.tray).getD 0)) s)

/-- The refusals of an adoption into composition `h`. -/
def State.adoptRefused (s : State) (x : Extent) (h : Nat) (y : Comp) : Option (State → Res) :=
  let sameOwner := (s.comp x.comp).any fun z => z.ownerId == y.ownerId
  if y.state ≠ .active then
    some fun s => (s.bump Reg.CM_CNT_WRONG_STATE, some (St.WRONG_STATE, [.detail Det.COMP_CURRENT_STATE y.state.code, .detail Det.COMP_LEGAL_STATES 1]))
  else if x.state ≠ .held then some (fail St.EXTENT_BUSY)
  else if (s.comp x.comp).any Comp.windowOpen then some (mapBusy x.comp)
  else if y.windowOpen then some (mapBusy h)
  else if x.isProtected ∧ !sameOwner then some (fail St.PROTECTION_DOWNGRADE)
  else if s.extentOverlaps h x.base x.size ∨ (x.isProtected ∧ !y.confidential)
      ∨ (y.slice ∧ (x.affinity ≠ 0 ∨ !s.sliceTrays y x.homeTrays)) then some (invalid 1)
  else if 4096 ≤ (s.extentsOf h).length ∨ (x.pinned ≠ 0 ∧ y.pinQuota < s.pinnedOf h + x.pinned) then some (fail St.NO_CAPACITY)
  else none

/-- EXTENT_ADOPT (0x2007). -/
def execExtentAdopt (c : Ctx) (e h : Nat) (s : State) : Out :=
  .next <| nirod (.extentAdopt c e h) c { Cmd.f 0x2007 Legal.L with compFm := 3 } (s.targetExtent e) (withExtent e fun x s =>
    withComp h (fun y s =>
      match s.adoptRefused x h y with
      | some f => f s
      | none =>
        let r := s.adopt e h
        ok [.num r.1] r.2) s) s

end Sys2Proof.Machine
end

