-- ==== Sys2Proof/Machine/KvVq.lean ====
section
/-! DEFINITION. KV objects (R54 to R57) and the codebook and slot commands (R165 to R168, R174). -/

namespace Sys2Proof.Machine

/-! ### KV objects -/

/-- Bytes of one quire (R54). -/
def Kv.quireBytes (k : Kv) (x : Extent) : Nat := k.perQuire * (if x.vq then x.slotLines * 128 else 32768)

/-- Merge ascending quire indices into ranges: first and count (R57). -/
def rangesOf : List Nat → List (Nat × Nat)
  | [] => []
  | q :: t =>
    match rangesOf t with
    | (f, n) :: r => if q + 1 = f then (q, n + 1) :: r else (q, 1) :: (f, n) :: r
    | [] => [(q, 1)]

/-- The lost-quire ranges of an object; beyond 1,024 the whole quire range (R57). -/
def Kv.lostRanges (k : Kv) : List (Nat × Nat) :=
  let r := rangesOf k.lost
  if 1024 < r.length then [(0, k.quires)] else r

/-- Ranges as reply items. -/
def rangeItems (l : List (Nat × Nat)) : List Item := l.flatMap fun r => [.num r.1, .num r.2]

def KvState.code : KvState → Nat
  | .filling => 0
  | .ready => 1
  | .retiring => 2

/-- The object of a composition with a key. -/
def State.kvByKey (s : State) (h : Nat) (key : BitVec 128) : Option (Nat × Kv) :=
  s.pool.kv.find? fun q => q.2.key == key && (s.extent q.2.extent).any fun x => x.comp == h

/-- Is an extent past use (R296)? -/
def Extent.gone (x : Extent) : Bool := decide (x.state = .revoking) || decide (x.state = .revoked)

/-- Does a D fit R54? -/
def dimOk (d : Nat) : Bool := d == 64 || d == 128 || d == 256

/-- The record of a new object. -/
def newKv (r : KvReq) (now : Nat) : Kv where
  key := r.key
  extent := r.extent
  objOffset := r.objOffset
  layers := r.layers
  heads := r.heads
  pages := r.pages
  dim := r.dim
  bf16 := r.bf16
  state := .filling
  refs := 0
  implicit := 0
  leaseEnd := now + 1000000000 * r.leaseS.getD 30
  lost := []

/-- KV_CREATE (0x2101): the alignment, size and key rules of R54 and R55. A poisoned leaf of the range is lost from the
start (R57). -/
def execKvCreate (c : Ctx) (r : KvReq) (s : State) : Out :=
  .next <| nirod (.kvCreate c r) c (Cmd.fo 0x2101 Legal.S) (s.targetExtent r.extent) (withExtent r.extent fun x s =>
    let k := newKv r s.clk.timeNs
    let unit := if x.vq then x.slotLines * 128 else 32768
    if r.layers = 0 then invalid 3 s
    else if r.heads = 0 then invalid 4 s
    else if r.pages = 0 then invalid 5 s
    else if !dimOk r.dim then invalid 6 s
    else if r.leaseS.any fun t => decide (t < 1 ∨ 3600 < t) then invalid 8 s
    else if r.objOffset % unit ≠ 0 then invalid 2 s
    else if x.gone then fail St.EXTENT_REVOKED s
    else if x.size < r.objOffset + k.quires * k.quireBytes x then fail St.OUT_OF_EXTENT s
    else match s.kvByKey x.comp r.key with
      | some q => (s, some (St.KEY_EXISTS, [.num q.1]))
      | none =>
        let id := s.pool.nextKv
        let k := { k with lost := (x.poison.keys.filterMap fun u => k.quireOf x u).foldl (fun l q => insertAsc q l) [] }
        ok [.num id] (s.modPool fun p => { p with kv := p.kv.put id k, nextKv := id + 1 })) s

/-- A body on a KV object that is FILLING or READY and whose extent is not revoked. -/
def withKv (k : Nat) (f : Kv → Extent → State → Res) (s : State) : Res :=
  match s.pool.kv.look k with
  | none => fail St.NOT_FOUND s
  | some o =>
    match s.extent o.extent with
    | none => fail St.NOT_FOUND s
    | some x => if o.state = .retiring then fail St.NOT_FOUND s else f o x s

/-- Change a KV object. -/
def State.modKv (k : Nat) (f : Kv → Kv) (s : State) : State := s.modPool fun p => { p with kv := p.kv.change k f }

/-- KV_PUBLISH (0x2102): the object is READY. -/
def execKvPublish (c : Ctx) (k : Nat) (s : State) : Out :=
  .next <| nirod (.kvPublish c k) c (Cmd.fo 0x2102 Legal.L) (s.targetKv k) (withKv k fun _ _ s =>
    ok [.num KvState.ready.code] (s.modKv k fun o => { o with state := .ready })) s

/-- KV_LOOKUP (0x2103): within the composition only (R55); handle, state, geometry
(L, H, P, D, format), lost ranges. -/
def execKvLookup (c : Ctx) (h : Nat) (key : BitVec 128) (s : State) : Out :=
  .next <| nirod (.kvLookup c h key) c (Cmd.fo 0x2103 Legal.R) (Target.ofComp h) (withComp h fun _ s =>
    match s.kvByKey h key with
    | none => fail St.NOT_FOUND s
    | some (k, _) => withKv k (fun o x s =>
        if x.gone then fail St.EXTENT_REVOKED s
        else ok ([k, o.state.code, o.layers, o.heads, o.pages, o.dim, b2n o.bf16].map .num
          ++ rangeItems o.lostRanges) s) s) s

/-- KV_ACQUIRE (0x2104): one more reference, at most 65,535 (R56). -/
def execKvAcquire (c : Ctx) (k : Nat) (s : State) : Out :=
  .next <| nirod (.kvAcquire c k) c (Cmd.fo 0x2104 Legal.L) (s.targetKv k) (withKv k fun o x s =>
    if x.gone then fail St.EXTENT_REVOKED s
    else if 65535 ≤ o.refs then fail St.NO_CAPACITY s
    else ok (.num (o.refs + 1) :: rangeItems o.lostRanges) (s.modKv k fun o => { o with refs := o.refs + 1 })) s

/-- KV_RELEASE (0x2105): one reference less; a RETIRING record without references is freed. -/
def execKvRelease (c : Ctx) (k : Nat) (s : State) : Out :=
  .next <| nirod (.kvRelease c k) c (Cmd.fo 0x2105 Legal.L) (s.targetKv k) (fun s =>
    match s.pool.kv.look k with
    | none => fail St.NOT_FOUND s
    | some o =>
      if o.refs = 0 then invalid 0 s
      else ok [.num (o.refs - 1)] ((s.modKv k fun o => { o with refs := o.refs - 1 }).freeKvIfDone k)) s

/-- KV_RENEW (0x2106): the lease runs anew; the reply is its new expiry in TIME_NS. -/
def execKvRenew (c : Ctx) (k leaseS : Nat) (s : State) : Out :=
  .next <| nirod (.kvRenew c k leaseS) c (Cmd.fo 0x2106 Legal.L) (s.targetKv k) (withKv k fun _ _ s =>
    if leaseS < 1 ∨ 3600 < leaseS then invalid 1 s
    else
      let t := s.clk.timeNs + 1000000000 * leaseS
      ok [.num t] (s.modKv k fun o => { o with leaseEnd := t })) s

/-- KV_HINT (0x2107): a hint for the chunks the object lies in (R42). -/
def execKvHint (c : Ctx) (k hint : Nat) (s : State) : Out :=
  .next <| nirod (.kvHint c k hint) c (Cmd.fo 0x2107 Legal.L) (s.targetKv k) (withKv k fun o x s =>
    let n := o.quires * o.quireBytes x
    let first := o.objOffset / 2097152
    let count := if n = 0 then 0 else (o.objOffset + n - 1) / 2097152 + 1 - first
    s.giveHint o.extent first count hint 1 x) s

/-- KV_DESTROY (0x2108): refused with ST_EXTENT_BUSY while references are held. -/
def execKvDestroy (c : Ctx) (k : Nat) (s : State) : Out :=
  .next <| nirod (.kvDestroy c k) c (Cmd.fo 0x2108 Legal.L) (s.targetKv k) (fun s =>
    match s.pool.kv.look k with
    | none => fail St.NOT_FOUND s
    | some o =>
      if o.refs ≠ 0 ∨ o.implicit ≠ 0 then fail St.EXTENT_BUSY s
      else ok [] (s.modPool fun p => { p with kv := p.kv.del k })) s

/-- KV_LEASE_EXPIRY: the record is freed, or RETIRING while references are held (R56). Leases stand still while the device
sleeps (R290), and a HELD extent keeps its records (R62). -/
def execKvLeaseExpiry (k : Nat) (s : State) : Out :=
  .next <|
    match s.pool.kv.look k with
    | none => s
    | some o =>
      if o.state = .retiring ∨ s.dev.pausedAt.isSome ∨ (s.extent o.extent).any fun x => decide (x.state = .held) then s
      else
        let s := s.advanceTo o.leaseEnd
        (s.modKv k fun o => { o with state := .retiring }).freeKvIfDone k

/-! ### Codebooks and slots -/

/-- Is an OP_ATTEND or ENCODE of a composition accepted and not complete (R167)? -/
def State.codebooksBusy (s : State) (h : Nat) : Bool :=
  s.work.ops.vals.any fun o => o.comp == h && decide (o.phase ≠ .waiting) && (decide (o.kind = .attend) || decide (o.kind = .encode))

/-- A codebook that has changed leaves the stores of the presses (R168). -/
def State.forgetCodebook (h cb : Nat) (s : State) : State :=
  { s with presses := s.presses.each fun _ p =>
      if p.ctx = some h then { p with
        store := p.store.filter (· != cb)
        norms := if p.norms = some cb then none else p.norms }
      else p }

/-- Are all FP16 elements of a codebook finite (R166)? -/
def codebookFinite (b : List Byte) : Bool := (List.range (b.length / 2)).all fun i => leAt b (2 * i) 2 / 1024 % 32 != 31

/-- The generation after one (R167): 1 at first, 65,535 wraps to 1. -/
def nextGen (g : Nat) : Nat := if g = 65535 then 1 else g + 1

/-- VQ_CODEBOOK_SET (0x2201): the checks of R166 in order, then a copy of the 64 KiB under the next generation. -/
def execVqCodebookSet (c : Ctx) (h cb addr : Nat) (s : State) : Out :=
  .next <| nirod (.vqCodebookSet c h cb addr) c (Cmd.fo 0x2201 Legal.L) (Target.ofComp h) (withComp h fun y s =>
    if 63 < cb then invalid 1 s
    else if addr % 128 ≠ 0 ∨ 2 ^ 57 ≤ addr then invalid 2 s
    else if s.codebooksBusy h then fail St.EXTENT_BUSY s
    else match s.findExtent h addr 65536 with
      | none => fail St.OUT_OF_EXTENT s
      | some (e, off) =>
        match s.extent e with
        | none => fail St.OUT_OF_EXTENT s
        | some x =>
          let b := s.readPool e off 65536
          let old := y.codebooks.look cb
          let had := old.any Codebook.registered
          if x.gone then fail St.EXTENT_REVOKED s
          else if x.isProtected then fail St.PROTECTED_NO_COMPRESS s
          else if x.vq then fail St.LAYOUT_MISMATCH s
          else if !codebookFinite b then invalid 2 s
          else if !had ∧ (y.pinQuota < s.pinnedOf h + 2 ∨ s.t0Free < 2) then fail St.NO_CAPACITY s
          else if x.poisoned off 65536 then fail St.TIER_LOST s
          else
            let g := nextGen ((old.map Codebook.gen).getD 0)
            let s := s.modComp h fun y => { y with codebooks := y.codebooks.put cb { gen := g, registered := true, bytes := b } }
            ok [.num g] (s.forgetCodebook h cb)) s

/-- VQ_CODEBOOK_CLEAR (0x2202): the codebook's frames are freed; its generation count stays. -/
def execVqCodebookClear (c : Ctx) (h cb : Nat) (s : State) : Out :=
  .next <| nirod (.vqCodebookClear c h cb) c (Cmd.fo 0x2202 Legal.L) (Target.ofComp h) (withComp h fun y s =>
    if 63 < cb then invalid 1 s
    else if s.codebooksBusy h then fail St.EXTENT_BUSY s
    else match y.codebooks.look cb with
      | none => fail St.NOT_FOUND s
      | some b =>
        if !b.registered then fail St.NOT_FOUND s
        else ok [] ((s.modComp h fun y => { y with
          codebooks := y.codebooks.put cb { gen := b.gen, registered := false, bytes := [] } }).forgetCodebook h cb)) s

/-- VQ_CODEBOOK_INFO (0x2203): the registered mask and 64 generations. -/
def execVqCodebookInfo (c : Ctx) (h : Nat) (s : State) : Out :=
  .next <| nirod (.vqCodebookInfo c h) c (Cmd.fo 0x2203 Legal.R) (Target.ofComp h) (withComp h fun y s =>
    let mask := sumOf y.codebooks fun q => if q.2.registered then 2 ^ q.1 else 0
    ok (.num mask :: (List.range 64).map fun i => .num (((y.codebooks.look i).map Codebook.gen).getD 0)) s) s

/-- The status code of a slot's mark (R174). -/
def Mark.code : Mark → Nat
  | .tierLost => St.TIER_LOST
  | .lengthFault => St.LENGTH_FAULT
  | .blockFormat => St.BLOCK_FORMAT

/-- Is a slot never-written: none of the leaves it overlaps has been written (R32)? -/
def Extent.slotFresh (x : Extent) (k : Nat) : Bool :=
  (leavesOf (k * x.slotLines * 128) (x.slotLines * 128)).all fun l => !x.written.contains l

/-- VQ_SLOT_STATUS (0x2204): the mark and the NEVER_WRITTEN flag of up to 1,024 slots. -/
def execVqSlotStatus (c : Ctx) (e first count : Nat) (s : State) : Out :=
  .next <| nirod (.vqSlotStatus c e first count) c (Cmd.fo 0x2204 Legal.R) (s.targetExtent e) (withExtent e fun x s =>
    if !x.vq then fail St.LAYOUT_MISMATCH s
    else if count = 0 ∨ 1024 < count then invalid 2 s
    else if x.size < (first + count) * x.slotLines * 128 then invalid 1 s
    else
      let one (k : Nat) : List Byte :=
        let m := if x.poison.has k then ((x.marks.look k).map Mark.code).getD St.TIER_LOST else St.OK
        leBytes 1 m ++ leBytes 1 (b2n (x.slotFresh k))
      ok [.bytes ((List.range' first count).flatMap one)] s) s

end Sys2Proof.Machine
end

