-- ==== Sys2Proof/Machine/Rows.lean ====
section
/-! DEFINITION. Gather and scatter (R128 to R132) and the filters (R133 to R137): their bodies, their ranges, and what they
compute. -/

namespace Sys2Proof.Machine

/-- The first of a list of range faults in the order of R113 step 4: outside, revoked, layout, protection, read-only. -/
def firstFault (bad : List (Option Nat)) (layout down : Bool) : Option Nat :=
  if bad.contains (some St.OUT_OF_EXTENT) then some St.OUT_OF_EXTENT
  else if bad.contains (some St.EXTENT_REVOKED) then some St.EXTENT_REVOKED
  else if bad.contains (some St.LAYOUT_MISMATCH) ∨ layout then some St.LAYOUT_MISMATCH
  else if down then some St.PROTECTION_DOWNGRADE
  else if bad.contains (some St.READ_ONLY) then some St.READ_ONLY
  else none

/-! ### Gather and scatter -/

def gsTable (d : List Byte) : Nat := leAt d 32 8
def gsIndex (d : List Byte) : Nat := leAt d 40 8
def gsData (d : List Byte) : Nat := leAt d 48 8
def gsRow (d : List Byte) : Nat := leAt d 56 4
def gsRows (d : List Byte) : Nat := leAt d 60 4
def gsCount (d : List Byte) : Nat := leAt d 64 4
def gsBag (d : List Byte) : Nat := leAt d 68 2
def gsAdd (d : List Byte) : Bool := leAt d 70 1 / 16 == 1
def gsFmt (d : List Byte) : Nat := leAt d 70 1 % 16

/-- Step 3 of R113 for Table CO-6; ELEM_FMT is ignored for a plain gather and for WRITE. -/
def gsBodyBad (gather : Bool) (d : List Byte) : Option Nat :=
  let sums := if gather then decide (1 < gsBag d) else gsAdd d
  if !addrOk d 32 ∨ !addrOk d 40 ∨ !addrOk d 48 ∨ gsRow d < 64 ∨ 1073741824 < gsRow d ∨ gsRow d % 64 ≠ 0 ∨ gsRows d = 0
      ∨ gsRows d = 0xFFFFFFFF ∨ gsCount d = 0 ∨ 16777216 < gsCount d ∨ gsBag d = 0 ∨ 256 < gsBag d ∨ (!gather ∧ gsBag d ≠ 1)
      ∨ (gather ∧ leAt d 70 1 / 16 ≠ 0) ∨ 1 < leAt d 70 1 / 16 ∨ (sums ∧ 3 < gsFmt d) ∨ !zeros d 71 256
      ∨ (gather ∧ inlineResult d ∧ gsData d ≠ 0) then some St.INVALID_PARAM
  else none

/-- Output rows of a gather, or source rows of a scatter. -/
def gsDataRows (gather : Bool) (d : List Byte) : Nat := if gather then ceilDiv (gsCount d) (gsBag d) else gsCount d

/-- The ranges a gather or scatter names, the written one first where there is one. -/
def gsRanges (gather : Bool) (d : List Byte) : List (Nat × Nat × Bool) :=
  let table := (gsTable d, gsRows d * gsRow d, !gather)
  let index := (gsIndex d, 4 * gsCount d, false)
  if gather && inlineResult d then [table, index]
  else [table, index, (gsData d, gsDataRows gather d * gsRow d, gather)]

/-- Step 4 of R113 (R131): a VQ table or data extent only with whole slots, and the index array PLAIN. -/
def State.gsRangesBad (s : State) (c : Nat) (gather : Bool) (d : List Byte) : Option Nat :=
  let rs := gsRanges gather d
  let n := gsRows d * gsRow d
  let m := gsDataRows gather d * gsRow d
  let useData := !(gather && inlineResult d)
  let tvq := s.rangeIs c (gsTable d) n Extent.vq
  let dvq := useData && s.rangeIs c (gsData d) m Extent.vq
  let slot (a k : Nat) : Bool := s.rangeIs c a k fun x => x.slotLines * 128 == gsRow d
  let sums := if gather then decide (1 < gsBag d) else gsAdd d
  let vqOk := s.rangeIs c (gsTable d) n (fun x => x.base == gsTable d) && tvq && slot (gsTable d) n
    && (!useData || (dvq && slot (gsData d) m)) && !sums
  let layout := s.rangeIs c (gsIndex d) (4 * gsCount d) Extent.vq || ((tvq || dvq) && !vqOk)
  let down := gather && useData && s.rangeIs c (gsTable d) n Extent.isProtected && !(s.rangeIs c (gsData d) m Extent.isProtected)
  firstFault (rs.map fun r => s.rangeBad c r.1 r.2.1 r.2.2) layout down

/-- What became of a position. -/
inductive RowFate where
  | skipped
  | outside
  | lost
  | row (n : Nat)
deriving DecidableEq, Repr

/-- Is a range lost to an operation: poisoned, or in a leaf it gave up at its deadline (R60)? The operation record keeps
those leaves as 2^32 times the EXTENT_ID plus the leaf index. -/
def State.rangeLost (s : State) (gone : List Nat) (c a n : Nat) : Bool :=
  s.rangePoisoned c a n || (!gone.isEmpty && (s.rangeLeaves c a n).any fun r => gone.contains (r.extent * 2 ^ 32 + r.leaf))

/-- The fate of position `p`, before its data side is looked at. -/
def State.rowFate (s : State) (gone : List Nat) (c : Nat) (d : List Byte) (reads : Bool) (p : Nat) : RowFate :=
  let i := leNat (s.readRange c (gsIndex d + 4 * p) 4)
  if i = 0xFFFFFFFF then .skipped
  else if gsRows d ≤ i then .outside
  else if reads && s.rangeLost gone c (gsTable d + i * gsRow d) (gsRow d) then .lost
  else .row i

/-- How far a gather or scatter has come: bytes or rows done, skipped, lost and out-of-range positions. -/
structure RowTally where
  amount : Nat
  skipped : Nat
  lost : List Nat
  outside : List Nat

/-- End a gather or scatter (R129, Table CO-10): lost rows take precedence over positions out of range. -/
def State.rowsEnd (o : Nat) (x : Op) (t : RowTally) (s : State) : State :=
  let bad := (t.lost ++ t.outside).foldl (fun l p => insertAsc p l) []
  let list := (bad.take 1016).flatMap (leBytes 4)
  let s := if t.outside.isEmpty then s else s.bumpComp x.comp Reg.CCNT_INDEX_RANGE
  let s := s.bumpCompBy x.comp Reg.CCNT_LOST_ROWS t.lost.length
  match t.lost, t.outside with
  | p :: _, _ => s.finishOp o St.TIER_LOST p t.lost.length list noOffset
  | [], p :: _ => s.withOpen fun d s => s.finishOp o St.INDEX_RANGE p d list noOffset
  | [], [] => s.finishOp o St.OK t.amount t.skipped [] 0

/-- Put output row `k` of a gather where it belongs: inline, or in the output extent. -/
def State.putRow (o : Nat) (x : Op) (k : Nat) (b : List Byte) (s : State) : State :=
  if inlineResult x.desc then s.opData o (k * gsRow x.desc) b else s.writeRange x.comp (gsData x.desc + k * gsRow x.desc) b

/-- GATHER (R129): each position, or each bag, in order. -/
def State.gatherRun (o : Nat) (x : Op) (s : State) : State :=
  let d := x.desc
  let w := gsRow d
  let row (i : Nat) (s : State) : List Byte := s.readRange x.comp (gsTable d + i * w) w
  let bag (r : RowTally × State) (k : Nat) : RowTally × State :=
    let ps := (List.range' (k * gsBag d) (gsBag d)).filter fun p => decide (p < gsCount d)
    let fates := ps.map fun p => (p, r.2.rowFate x.lost x.comp d true p)
    let lost := (fates.filter fun q => q.2 == .lost).map Prod.fst
    let outside := (fates.filter fun q => q.2 == .outside).map Prod.fst
    let rows := fates.filterMap fun q => match q.2 with
      | .row i => some i
      | _ => none
    let t : RowTally := { r.1 with
      skipped := r.1.skipped + countIf fates (fun q => q.2 == .skipped)
      lost := r.1.lost ++ lost
      outside := r.1.outside ++ outside }
    if rows.isEmpty ∨ !lost.isEmpty ∨ !outside.isEmpty then (t, r.2)
    else
      let data := match rows with
        | [i] => if gsBag d = 1 then row i r.2 else
            elementBytes (gsFmt d) (elements (gsFmt d) (row i r.2))
        | _ => elementBytes (gsFmt d) (tree (fun a b => List.zipWith (combine 0 (gsFmt d)) a b) []
            (rows.map fun i => elements (gsFmt d) (row i r.2)))
      ({ t with amount := t.amount + w }, r.2.putRow o x k data)
  let r := (List.range (gsDataRows true d)).foldl bag ({ amount := 0, skipped := 0, lost := [], outside := [] }, s)
  r.2.rowsEnd o x r.1

/-- SCATTER (R130): rows in ascending position order. -/
def State.scatterRun (o : Nat) (x : Op) (s : State) : State :=
  let d := x.desc
  let w := gsRow d
  let one (r : RowTally × State) (p : Nat) : RowTally × State :=
    let src := gsData d + p * w
    match r.2.rowFate x.lost x.comp d (gsAdd d) p with
    | .skipped => ({ r.1 with skipped := r.1.skipped + 1 }, r.2)
    | .outside => ({ r.1 with outside := r.1.outside ++ [p] }, r.2)
    | .lost => ({ r.1 with lost := r.1.lost ++ [p] }, r.2)
    | .row i =>
      if r.2.rangeLost x.lost x.comp src w then ({ r.1 with lost := r.1.lost ++ [p] }, r.2)
      else
        let a := gsTable d + i * w
        let b := r.2.readRange x.comp src w
        let b := if gsAdd d then elementBytes (gsFmt d) (List.zipWith (combine 0 (gsFmt d))
            (elements (gsFmt d) (r.2.readRange x.comp a w)) (elements (gsFmt d) b)) else b
        ({ r.1 with amount := r.1.amount + 1 }, r.2.writeRange x.comp a b)
  let r := (List.range (gsCount d)).foldl one ({ amount := 0, skipped := 0, lost := [], outside := [] }, s)
  r.2.rowsEnd o x r.1

/-- A gather or scatter runs once its leaves have been fetched; a lost index array writes nothing (R129). -/
def State.rowsRun (o : Nat) (s : State) : State :=
  match s.work.ops.look o with
  | none => s
  | some x =>
    if s.rangeLost x.lost x.comp (gsIndex x.desc) (4 * gsCount x.desc) then s.failOp o St.TIER_LOST noOffset
    else if x.kind = .gather then s.gatherRun o x
    else s.scatterRun o x

/-- The one seed of a gather or scatter: the leaves of the index array and of every row it reads, in position order. -/
def State.rowsPlan (s : State) (c : Nat) (gather : Bool) (d : List Byte) : List SeedPlan :=
  let w := gsRow d
  let row (p : Nat) : List LeafRef := match s.rowFate [] c d false p with
    | .row i =>
      (if gather || gsAdd d then s.rangeLeaves c (gsTable d + i * w) w else [])
        ++ (if gather then [] else s.rangeLeaves c (gsData d + p * w) w)
    | _ => []
  [{ kind := .rows 0 (gsCount d), deps := [], chains := 0,
     leaves := (s.rangeLeaves c (gsIndex d) (4 * gsCount d) ++ (List.range (gsCount d)).flatMap row).eraseDups }]

/-! ### Filters -/

def flIn (d : List Byte) : Nat := leAt d 32 8
def flOut (d : List Byte) : Nat := leAt d 40 8
def flCount (d : List Byte) : Nat := leAt d 48 4
def flFmt (d : List Byte) : Nat := leAt d 52 1
def flForm (d : List Byte) : Nat := leAt d 53 1
def flK (d : List Byte) : Nat := leAt d 54 2
def flSmallest (d : List Byte) : Bool := bit (leAt d 60 1) 0
def flOr (d : List Byte) : Bool := bit (leAt d 60 1) 1
def flQuery (d : List Byte) : Nat := leAt d 64 8
def flDim (d : List Byte) : Nat := leAt d 72 2
def flQueries (d : List Byte) : Nat := leAt d 74 1
def flSum (d : List Byte) : Bool := leAt d 75 1 == 1
def flSink (d : List Byte) : Nat := leAt d 76 2
def flRecent (d : List Byte) : Nat := leAt d 78 2
def flLimit (d : List Byte) : Nat := leAt d 80 4
def flTerm (d : List Byte) (i : Nat) : List Byte := (d.drop (128 + 16 * i)).take 16

/-- Size of a predicate TYPE. -/
def typeBytes (t : Nat) : Nat := if t = 0 then 1 else if t = 1 ∨ t = 6 ∨ t = 7 then 2 else if t = 3 ∨ t = 5 then 8 else 4

/-- Is a predicate term well formed (R134)? -/
def termOk (t : List Byte) : Bool :=
  let ty := leAt t 1 1
  let w := typeBytes ty
  decide (leAt t 0 1 < 64) && decide (ty ≤ 8) && decide (leAt t 2 1 < 8) && decide (leAt t 3 1 < 2) && zeros t 4 8
    && decide (leAt t 0 1 % w = 0) && !(decide (5 < ty) && decide (5 < leAt t 2 1))
    && (decide (ty ≤ 5) || zeros t (8 + w) 16)

/-- Step 3 of R113 for a filter (Tables CO-7 and CO-8): a field the kind does not use is zero. -/
def flBodyBad (k : OpKind) (d : List Byte) : Option Nat :=
  let inline := inlineResult d
  let common := addrOk d 32 && addrOk d 40 && (!inline || flOut d == 0) && decide (0 < flCount d) && zeros d 61 64 && zeros d 84 128
  let noTerms := zeros d 128 256
  let noBlocks := zeros d 64 80
  let ok := match k with
    | .filterPredicate =>
      flFmt d == 0 && (flForm d == 0 || flForm d == 1 || flForm d == 3) && flK d == 0 && zeros d 56 60
        && (leAt d 60 1 == 0 || leAt d 60 1 == 2) && noBlocks && decide (0 < flLimit d)
        && (List.range 8).all (fun i => termOk (flTerm d i)) && (List.range 8).any fun i => leAt (flTerm d i) 3 1 == 1
    | .filterThreshold =>
      decide (flFmt d < 4) && decide (1 ≤ flForm d ∧ flForm d ≤ 3) && flK d == 0 && decide (leAt d 60 1 < 2) && noBlocks
        && decide (0 < flLimit d) && noTerms
    | .filterTopk =>
      decide (flFmt d < 4) && flForm d == 0 && decide (1 ≤ flK d ∧ flK d ≤ 4096) && zeros d 56 60 && decide (leAt d 60 1 < 2)
        && noBlocks && flLimit d == 0 && noTerms
    | _ =>
      decide (flFmt d ≤ 4 ∧ flFmt d ≠ 3) && decide (1 ≤ flK d ∧ flK d ≤ 4096) && zeros d 56 61 && addrOk d 64
        && (flDim d == 64 || flDim d == 128 || flDim d == 256) && decide (1 ≤ flQueries d ∧ flQueries d ≤ 8)
        && decide (leAt d 75 1 < 2) && decide (flSink d ≤ 4096) && decide (flRecent d ≤ 4096) && flLimit d == 0 && noTerms
  if common && ok then none else some St.INVALID_PARAM

/-- Bytes of a key or summary element. -/
def keyBytes (fmt : Nat) : Nat := if fmt = 4 then 1 else elemBytes fmt

/-- Bytes of one input. -/
def flItem (k : OpKind) (d : List Byte) : Nat :=
  match k with
  | .filterPredicate => 64
  | .filterBlockSelect => flDim d * keyBytes (flFmt d)
  | _ => keyBytes (flFmt d)

/-- Bytes of one result. -/
def flResult (k : OpKind) (d : List Byte) : Nat :=
  match k with
  | .filterPredicate => if flForm d = 0 then 64 else if flForm d = 1 then 4 else 0
  | .filterThreshold => if flForm d = 1 then 4 else if flForm d = 2 then 8 else 0
  | .filterTopk => 8
  | _ => 4

/-- The most results a filter can output. -/
def flMost (k : OpKind) (d : List Byte) : Nat :=
  match k with
  | .filterPredicate | .filterThreshold => min (flLimit d) (flCount d)
  | .filterTopk => min (flK d) (flCount d)
  | _ => min (flSink d + flRecent d + flK d) (flCount d)

/-- The ranges a filter names. -/
def flRanges (k : OpKind) (d : List Byte) : List (Nat × Nat × Bool) :=
  (flIn d, flCount d * flItem k d, false)
    :: (if k = .filterBlockSelect then [(flQuery d, flQueries d * flDim d * 2, false)] else [])
    ++ (if inlineResult d || flResult k d == 0 then [] else [(flOut d, flMost k d * flResult k d, true)])

/-- Step 4 of R113 for a filter (R137). -/
def State.flRangesBad (s : State) (c : Nat) (k : OpKind) (d : List Byte) : Option Nat :=
  let rs := flRanges k d
  let vq := rs.any fun r => s.rangeIs c r.1 r.2.1 Extent.vq
  let prot (w : Bool) : Bool := rs.any fun r => r.2.2 == w && s.rangeIs c r.1 r.2.1 Extent.isProtected
  let writes := rs.any fun r => r.2.2
  firstFault (rs.map fun r => s.rangeBad c r.1 r.2.1 r.2.2) vq (writes && prot false && !prot true)

/-- The value of a float key, -0 taken as +0 (R135). -/
def keyVal (v : Nat) : FVal :=
  match Fmt.fp32.decode v with
  | .fin _ 0 _ => .fin false 0 0
  | x => x

/-- Is a widened key less than another; NaN is neither. -/
def keyLess (fmt a b : Nat) : Bool := if fmt = 3 then i32less a b else (keyVal a).lt (keyVal b)

/-- Is a widened key a NaN? -/
def keyNan (fmt v : Nat) : Bool := fmt != 3 && decide (Fmt.fp32.decode v = .nan)

/-- Does entry `a` come before entry `b` (index, widened value): by value, NaN last, then by lower index (R135)? -/
def topBefore (fmt : Nat) (smallest : Bool) (a b : Nat × Nat) : Bool :=
  let na := keyNan fmt a.2
  let nb := keyNan fmt b.2
  if na && nb then decide (a.1 < b.1)
  else if na then false
  else if nb then true
  else
    let x := if smallest then keyLess fmt a.2 b.2 else keyLess fmt b.2 a.2
    let y := if smallest then keyLess fmt b.2 a.2 else keyLess fmt a.2 b.2
    x || (!y && decide (a.1 < b.1))

/-- Put an entry into an ordered list. -/
def topInsert (f : Nat × Nat → Nat × Nat → Bool) (a : Nat × Nat) : List (Nat × Nat) → List (Nat × Nat)
  | [] => [a]
  | b :: t => if f a b then a :: b :: t else b :: topInsert f a t

/-- The first `k` entries of a list under an order. -/
def topK (f : Nat × Nat → Nat × Nat → Bool) (k : Nat) (l : List (Nat × Nat)) : List (Nat × Nat) :=
  l.foldl (fun best a => (topInsert f a best).take k) []

/-- The blocks R136 selects from the scores: the first `sink` and last `recent`, and the `k` highest of the rest. -/
def selectBlocks (scores : List Nat) (k sink recent : Nat) : List Nat :=
  let n := scores.length
  let always (b : Nat) : Bool := decide (b < sink) || decide (n - recent ≤ b)
  let rest := (scores.zipIdx.filter fun q => !always q.2 && !keyNan 2 q.1).map fun q => (q.2, q.1)
  let best := (topK (topBefore 2 false) k rest).map Prod.fst
  (List.range n).filter fun b => always b || best.contains b

/-- The values of `n` elements in a key format: BF16, FP16, FP32, INT32 or FP8 E4M3. -/
def keyValues (fmt : Nat) (b : List Byte) (n : Nat) : List FVal :=
  let f := if fmt = 4 then Fmt.fp8 else (elemFmt fmt).getD Fmt.fp32
  (List.range n).map fun i => f.decode (leAt b (i * keyBytes fmt) (keyBytes fmt))

/-- The score of a summary against a list of queries (R136): 0 MAX, 1 SUM in query order. -/
def blockScore (dim : Nat) (sum : Bool) (queries : List (List FVal)) (summary : List FVal) : Nat :=
  match queries.map fun q => scoreOf dim q summary with
  | [] => 0
  | a :: t => t.foldl (fun x y => if sum then f32add x y else f32max x y) a

/-- The bytes of input `i` of a filter. -/
def State.flInput (s : State) (x : Op) (i : Nat) : List Byte :=
  s.readRange x.comp (flIn x.desc + i * flItem x.kind x.desc) (flItem x.kind x.desc)

/-- The widened key of input `i`. -/
def State.flKey (s : State) (x : Op) (i : Nat) : Nat := widen (flFmt x.desc) (leNat (s.flInput x i))

/-- The matches of a PREDICATE or THRESHOLD filter, ascending (R134, R135). -/
def State.flMatches (s : State) (x : Op) : List Nat :=
  let d := x.desc
  let terms := ((List.range 8).map (flTerm d)).filter fun t => leAt t 3 1 == 1
  (List.range (flCount d)).filter fun i =>
    if x.kind = .filterPredicate then
      let r := s.flInput x i
      if flOr d then terms.any fun t => termHolds t r else terms.all fun t => termHolds t r
    else
      let v := s.flKey x i
      let t := leAt d 56 4
      if keyNan (flFmt d) v || keyNan (flFmt d) t then false
      else if flSmallest d then !(keyLess (flFmt d) t v) else !(keyLess (flFmt d) v t)

/-- What a filter outputs: the bytes, RESULT, DETAIL, and whether it was cut (R135, R136, Table CO-10). -/
def State.flCompute (s : State) (x : Op) : List Byte × Nat × Nat × Bool :=
  let d := x.desc
  match x.kind with
  | .filterPredicate | .filterThreshold =>
    let m := s.flMatches x
    if flForm d = 3 then ([], m.length, 0, false)
    else
      let l := m.take (flLimit d)
      let one (i : Nat) : List Byte :=
        if flForm d = 0 then s.flInput x i
        else leBytes 4 i ++ (if flForm d = 2 then leBytes 4 (s.flKey x i) else [])
      (l.flatMap one, m.length, l.length, decide (l.length < m.length))
  | .filterTopk =>
    let l := topK (topBefore (flFmt d) (flSmallest d)) (flK d) ((List.range (flCount d)).map fun i => (i, s.flKey x i))
    (l.flatMap fun q => leBytes 4 q.1 ++ leBytes 4 q.2, l.length, 0, false)
  | _ =>
    let qs := (List.range (flQueries d)).map fun q =>
      keyValues 0 (s.readRange x.comp (flQuery d + q * flDim d * 2) (flDim d * 2)) (flDim d)
    let scores := (List.range (flCount d)).map fun b =>
      blockScore (flDim d) (flSum d) qs (keyValues (flFmt d) (s.flInput x b) (flDim d))
    let l := selectBlocks scores (flK d) (flSink d) (flRecent d)
    (l.flatMap (leBytes 4), l.length, 0, false)

/-- The first input that touches a poisoned leaf of a range (R137). -/
def State.flLost (s : State) (x : Op) : Option Nat :=
  let d := x.desc
  let w := flItem x.kind d
  match s.rangeOf x.comp (flIn d) (flCount d * w) with
  | none => none
  | some e => match s.extent e with
    | none => none
    | some y => ((leavesOf (flIn d - y.base) (flCount d * w)).find? fun l => y.leafPoisoned l || x.lost.contains (e * 2 ^ 32 + l)).map fun l =>
        (l * 32768 - (flIn d - y.base)) / w

/-- A filter runs once every seed of it is done. -/
def State.filterRun (o : Nat) (s : State) : State :=
  match s.work.ops.look o with
  | none => s
  | some x =>
    let d := x.desc
    let queryLost := !x.lost.isEmpty || (decide (x.kind = .filterBlockSelect)
      && s.rangePoisoned x.comp (flQuery d) (flQueries d * flDim d * 2))
    match s.flLost x with
    | some i => s.failOp o St.TIER_LOST i
    | none =>
      if queryLost then s.withOpen fun r s => s.failOp o St.TIER_LOST r
      else
        let r := s.flCompute x
        let s := if r.2.2.2 then (s.bumpComp x.comp Reg.CCNT_FILTER_TRUNCATED).modOp o fun y => { y with truncated := true } else s
        let s := if inlineResult d then s.opData o 0 r.1 else s.writeRange x.comp (flOut d) r.1
        s.finishOp o St.OK r.2.1 r.2.2.1 [] 0

/-- The seeds of a filter: 1,048,576 inputs each (R135); block selection takes a band of a matrix engine. -/
def State.filterPlan (s : State) (c : Nat) (k : OpKind) (d : List Byte) : List SeedPlan :=
  (List.range (ceilDiv (flCount d) 1048576)).map fun i =>
    let first := i * 1048576
    let n := min 1048576 (flCount d - first)
    { kind := .filter first n, deps := [], chains := b2n (decide (k = .filterBlockSelect)),
      leaves := (if k = .filterBlockSelect then s.rangeLeaves c (flQuery d) (flQueries d * flDim d * 2) else [])
        ++ s.rangeLeaves c (flIn d + first * flItem k d) (n * flItem k d) }

end Sys2Proof.Machine
end

