-- ==== Sys2Proof/Machine/Attend.lean ====
section
/-! DEFINITION. Attention offload (R140 to R159) and ENCODE (R175 to R179): bodies, checks, the cut into seeds, what each
seed computes, and the end of the operation. -/

namespace Sys2Proof.Machine

/-! ### Fields of Table AT-1 -/

def atKv (d : List Byte) : Nat := leAt d 32 4
def atLayer (d : List Byte) : Nat := leAt d 36 2
def atHead (d : List Byte) : Nat := leAt d 38 2
def atHeads (d : List Byte) : Nat := leAt d 40 2
def atGroup (d : List Byte) : Nat := leAt d 42 1
def atPartials (d : List Byte) : Bool := leAt d 43 1 / 16 == 1
def atQfmt (d : List Byte) : Nat := leAt d 43 1 % 16
def atFirst (d : List Byte) : Nat := leAt d 44 4
def atEnd (d : List Byte) : Nat := leAt d 48 4
def atScale (d : List Byte) : Nat := leAt d 52 4
def atSoftcap (d : List Byte) : Nat := leAt d 56 4
def atSpan (d : List Byte) : Nat := leAt d 60 2
def atTailTokens (d : List Byte) : Nat := leAt d 62 2
def atQuery (d : List Byte) : Nat := leAt d 64 8
def atTail (d : List Byte) : Nat := leAt d 72 8
def atOut (d : List Byte) : Nat := leAt d 80 8
def atSummary (d : List Byte) : Nat := leAt d 88 8
def atSelect (d : List Byte) : Nat := leAt d 96 2
def atSink (d : List Byte) : Nat := leAt d 98 2
def atRecent (d : List Byte) : Nat := leAt d 100 2
def atSumFmt (d : List Byte) : Nat := leAt d 102 1
def atSum (d : List Byte) : Bool := leAt d 103 1 == 1
def atPartialAddr (d : List Byte) : Nat := leAt d 104 8
def atPartialCount (d : List Byte) : Nat := leAt d 112 2
def atDim (d : List Byte) : Nat := leAt d 114 2

/-- The quires of the range, NP under selection. -/
def atPages (d : List Byte) : Nat := ceilDiv (atEnd d) 256 - atFirst d / 256

/-- The KV object of a composition that an ATTEND names, FILLING or READY. -/
def State.atObject (s : State) (c : Nat) (d : List Byte) : Option (Kv × Extent) :=
  match s.pool.kv.look (atKv d) with
  | none => none
  | some k =>
    if k.state = .retiring then none
    else (s.extent k.extent).bind fun x => if x.comp = c then some (k, x) else none

/-- D of an ATTEND: the object's, or DIM. -/
def State.atD (s : State) (d : List Byte) : Nat :=
  if atPartials d then atDim d else ((s.pool.kv.look (atKv d)).map Kv.dim).getD 0

/-- The largest SPAN_QUIRES for a D. -/
def maxSpan (dim : Nat) : Nat := if dim = 64 then 32 else if dim = 128 then 16 else 8

/-- Is an FP32 field finite and positive? -/
def f32positive (v : Nat) : Bool := f32finite v && decide (0 < v ∧ v < 2 ^ 31)

/-- Step 3 of R113 for Table AT-1 and R141: what the descriptor shows by itself. -/
def atBodyBad (d : List Byte) : Option Nat :=
  let inlineOk := !inlineResult d || atOut d == 0
  let head := leAt d 43 1 / 16 ≤ 1 ∧ atQfmt d ≤ 1 ∧ 1 ≤ atHeads d ∧ atHeads d ≤ 64 ∧ 1 ≤ atGroup d ∧ atGroup d ≤ 64
    ∧ addrOk d 80 ∧ inlineOk ∧ zeros d 116 256
  let ok := if atPartials d then
      atQfmt d == 0 && zeros d 32 40 && zeros d 44 80 && zeros d 88 104 && addrOk d 104
        && decide (2 ≤ atPartialCount d ∧ atPartialCount d ≤ 256)
        && (atDim d == 64 || atDim d == 128 || atDim d == 256)
    else
      f32finite (atScale d) && atScale d % 2 ^ 31 != 0 && (atSoftcap d == 0 || f32positive (atSoftcap d))
        && decide (1 ≤ atSpan d) && decide (atTailTokens d < 256) && addrOk d 64 && addrOk d 72 && atTail d % 32768 == 0
        && (decide (0 < atTailTokens d) || atTail d == 0) && addrOk d 88
        && decide (atFirst d < atEnd d ∨ (0 < atTailTokens d ∧ atFirst d ≤ atEnd d))
        && (if atSelect d = 0 then atSummary d == 0 && zeros d 98 104
            else decide (atSelect d ≤ 4096 ∧ atSink d ≤ 4096 ∧ atRecent d ≤ 4096) && decide (atGroup d ≤ 8)
              && decide (atFirst d % 256 = 0 ∧ atEnd d % 256 = 0)
              && (atSumFmt d == 0 || atSumFmt d == 1 || atSumFmt d == 2 || atSumFmt d == 4) && decide (leAt d 103 1 < 2))
        && zeros d 104 116
  if head ∧ ok then none else some St.INVALID_PARAM

/-- The rest of step 3: what R141 checks against the object's geometry. -/
def State.atShapeBad (s : State) (d : List Byte) : Bool :=
  if atPartials d then false
  else match s.pool.kv.look (atKv d) with
    | none => false
    | some k => decide (k.layers ≤ atLayer d ∨ k.heads < atHead d + atHeads d ∨ 256 * k.pages < atEnd d ∨ maxSpan k.dim < atSpan d)

/-- Bytes of one PLAIN quire of an object's D and format. -/
def Kv.plainQuire (k : Kv) : Nat := k.perQuire * 32768

/-- Bytes of one partial record. -/
def atRecordBytes (dim : Nat) : Nat := 64 + 4 * dim

/-- The ranges an ATTEND names beside its object: address, length, written. -/
def State.atRanges (s : State) (d : List Byte) : List (Nat × Nat × Bool) :=
  let dim := s.atD d
  let n := atHeads d * atGroup d
  let out := if inlineResult d then [] else [(atOut d, n * atRecordBytes dim, true)]
  if atPartials d then (atPartialAddr d, atPartialCount d * n * atRecordBytes dim, false) :: out
  else
    let q := ((s.pool.kv.look (atKv d)).map Kv.plainQuire).getD 0
    (atQuery d, n * dim * 2, false)
      :: (if atTailTokens d = 0 then [] else [(atTail d, atHeads d * q, false)])
      ++ (if atSelect d = 0 then [] else [(atSummary d, atHeads d * atPages d * dim * keyBytes (atSumFmt d), false)]) ++ out

/-- Step 4 of R113 for an ATTEND (R141, R296). -/
def State.atRangesBad (s : State) (c : Nat) (d : List Byte) : Option Nat :=
  let rs := s.atRanges d
  let bad := rs.map fun r => s.rangeBad c r.1 r.2.1 r.2.2
  let vq := rs.any fun r => s.rangeIs c r.1 r.2.1 Extent.vq
  let outOpen := rs.any fun r => r.2.2 && !(s.rangeIs c r.1 r.2.1 Extent.isProtected)
  let inProt := rs.any fun r => !r.2.2 && (r.1 == atTail d || atPartials d) && s.rangeIs c r.1 r.2.1 Extent.isProtected
  if atPartials d then firstFault bad vq (outOpen && inProt)
  else match s.atObject c d with
    | none => some St.NOT_FOUND
    | some (k, x) =>
      let revoked := if x.gone then [some St.EXTENT_REVOKED] else []
      let attached := (s.domainOf k.extent).isSome
      let form := x.vq && (k.bf16 || atFirst d % 256 != 0 || atEnd d % 256 != 0)
      firstFault (bad ++ revoked) (vq || form || attached) (outOpen && (inProt || x.isProtected))

/-! ### The cut (R144, R145, R147) -/

/-- Index of page `p` of head `h` in the object. -/
def Kv.quireIndex (k : Kv) (layer h p : Nat) : Nat := (layer * k.heads + h) * k.pages + p

/-- The read list of a head without selection: the pages that hold a token of the range. -/
def atList (d : List Byte) : List Nat :=
  if atFirst d < atEnd d then List.range' (atFirst d / 256) (atPages d) else []

/-- Spans of a head, the tail apart. -/
def atSpans (d : List Byte) : Nat :=
  let n := if atSelect d = 0 then (atList d).length else min (atPages d) (atSink d + atRecent d + atSelect d)
  ceilDiv n (atSpan d)

/-- Leaf `j` of quire `q` as the drill fetches it: a movement unit of a PLAIN extent, a slot of a VQ extent. -/
def Kv.leafRef (k : Kv) (x : Extent) (q j : Nat) : LeafRef :=
  { extent := k.extent
    leaf := (if x.vq then k.objOffset / (x.slotLines * 128) else k.objOffset / 32768) + q * k.perQuire + j }

/-- The order in which a span streams its quires: K0, K1, V0, K2, V1 and so on (R149); one leaf holds both when N is 1. -/
def streamOrder (n : Nat) (quires : Nat) : List (Nat × Nat) :=
  if n = 1 then (List.range quires).map fun i => (i, 0)
  else
    let ks (i : Nat) := (List.range (n / 2)).map fun j => (i, j)
    let vs (i : Nat) := (List.range (n / 2)).map fun j => (i, n / 2 + j)
    (List.range (quires + 1)).flatMap fun i =>
      (if i < quires then ks i else []) ++ (if i = 0 then [] else vs (i - 1))

/-- The leaves of a span with a list of pages. -/
def Kv.spanLeaves (k : Kv) (x : Extent) (layer h : Nat) (pages : List Nat) : List LeafRef :=
  (streamOrder k.perQuire pages.length).filterMap fun q =>
    (pages[q.1]?).map fun p => k.leafRef x (k.quireIndex layer h p) q.2

/-- The leaves of the queries of head `i` (counted from 0). -/
def State.queryLeaves (s : State) (c : Nat) (d : List Byte) (dim i : Nat) : List LeafRef :=
  s.rangeLeaves c (atQuery d + i * atGroup d * dim * 2) (atGroup d * dim * 2)

/-- The pairs of a merge tree over a list of seed indices (R121), children first; `next` is the next free index. -/
def mergeLevels : Nat → List Nat → Nat → List (Nat × Nat × Nat)
  | 0, _, _ => []
  | fuel + 1, l, next =>
    if l.length ≤ 1 then []
    else
      let pairs := (List.range (l.length / 2)).map fun j => (next + j, (l[2 * j]?).getD 0, (l[2 * j + 1]?).getD 0)
      let up := pairs.map Prod.fst ++ (if l.length % 2 = 1 then l.getLast?.toList else [])
      pairs ++ mergeLevels fuel up (next + l.length / 2)

/-- The seeds of an ATTEND in the order of R145. -/
def State.attendPlan (s : State) (c : Nat) (d : List Byte) : List SeedPlan :=
  let n := atHeads d
  if atPartials d then
    [{ kind := .partials 0, deps := [], chains := 0, leaves := s.rangeLeaves c (atPartialAddr d)
        (atPartialCount d * n * atGroup d * atRecordBytes (atDim d)) }]
  else match s.pool.kv.look (atKv d) with
    | none => []
    | some k => match s.extent k.extent with
      | none => []
      | some x =>
        let heads := List.range n
        let sel := decide (atSelect d ≠ 0)
        let np := atPages d
        let selects : List SeedPlan := if sel then heads.map fun i =>
            { kind := .select i, deps := [], chains := 1,
              leaves := s.queryLeaves c d k.dim i
                ++ s.rangeLeaves c (atSummary d + i * np * k.dim * keyBytes (atSumFmt d)) (np * k.dim * keyBytes (atSumFmt d)) }
          else []
        let base := selects.length
        let m := atSpans d
        let total := m + b2n (decide (0 < atTailTokens d))
        let spans : List SeedPlan := heads.flatMap fun i => (List.range total).map fun j =>
          let own : List LeafRef :=
            if j = m then s.rangeLeaves c (atTail d + i * k.plainQuire) k.plainQuire
            else if sel then []
            else k.spanLeaves x (atLayer d) (atHead d + i) (((atList d).drop (j * atSpan d)).take (atSpan d))
          { kind := .span i j, deps := if sel && decide (j < m) then [i] else [], chains := 1,
            leaves := s.queryLeaves c d k.dim i ++ own }
        let after := base + n * total
        let merges : List SeedPlan := heads.flatMap fun i =>
          (mergeLevels (total + 1) (List.range' (base + i * total) total) (after + i * (total - 1))).map fun q =>
            { kind := .merge i q.1 q.2.1 q.2.2, deps := [q.2.1, q.2.2], chains := 0, leaves := [] }
        selects ++ spans ++ merges

/-! ### Arithmetic -/

/-- A partial as the numbers kept in the operation record. -/
def partialStore (p : Partial) : List Nat := p.m :: p.l :: p.n :: b2n p.isNan :: p.o

/-- A kept partial. -/
def partialLoad (dim : Nat) : List Nat → Partial
  | m :: l :: n :: b :: o => { m := m, l := l, n := n, isNan := b == 1, o := o }
  | _ => Partial.empty dim

/-- A registered codebook of a composition: its generation and bytes. -/
def State.codebook (s : State) (c cb : Nat) : Option (Nat × List Byte) :=
  ((s.comp c).bind fun y => y.codebooks.look cb).bind fun b => if b.registered then some (b.gen, b.bytes) else none

/-- The bytes of the block in slot `k` of a VQ extent, as the drill fetches them (R164). -/
def State.slotBlock (s : State) (e : Nat) (x : Extent) (k : Nat) : List Byte :=
  s.readPool e (k * x.slotLines * 128) (fetchSize x.slotLines)

/-- The values of a leaf: FP8 by the block's format in a VQ extent, FP8 E4M3 or BF16 in a PLAIN one. -/
def State.leafValues (s : State) (c : Nat) (bf16 : Bool) (r : LeafRef) : List FVal :=
  match s.extent r.extent with
  | none => []
  | some x =>
    if x.vq then
      let b := s.slotBlock r.extent x r.leaf
      let f := fp8Of (leAt b 6 1 % 2)
      (blockExpand b (s.codebook c)).map fun v => f.decode v.toNat
    else
      let b := s.readPool r.extent (r.leaf * 32768) 32768
      if bf16 then (List.range 16384).map fun i => Fmt.bf16.decode (leAt b (2 * i) 2) else b.map fun v => Fmt.fp8.decode v.toNat

/-- The tokens of a quire that are in the token set: their keys, and their values as FP32. -/
def quireTokens (dim : Nat) (vals : List FVal) (inSet : Nat → Bool) : List (Nat × List FVal × List Nat) :=
  let ks := vals.take (vals.length / 2)
  let vs := vals.drop (vals.length / 2)
  ((List.range 256).filter inSet).map fun t =>
    (t, (ks.drop (t * dim)).take dim, ((vs.drop (t * dim)).take dim).map Fmt.fp32.encode)

/-- The query `j` of head `i`. -/
def State.atQueryVal (s : State) (c : Nat) (d : List Byte) (dim i j : Nat) : List FVal :=
  let b := s.readRange c (atQuery d + (i * atGroup d + j) * dim * 2) (dim * 2)
  let f := if atQfmt d = 0 then Fmt.bf16 else Fmt.fp16
  (List.range dim).map fun t => f.decode (leAt b (2 * t) 2)

/-- The pages a span reads: cut from the read list, or from the selection of the head. -/
def Op.spanPages (x : Op) (i j : Nat) : List Nat :=
  let d := x.desc
  let l := if atSelect d = 0 then atList d else (x.partials.look (64 * i)).getD []
  (l.drop (j * atSpan d)).take (atSpan d)

/-- A span for query `q` of head `i` (R146). -/
def State.spanPartial (s : State) (x : Op) (k : Kv) (y : Extent) (i j q : Nat) : Partial :=
  let d := x.desc
  let dim := k.dim
  let query := s.atQueryVal x.comp d dim i q
  let step (vals : List FVal) (inSet : Nat → Bool) (p : Partial) : Partial :=
    attendQuire dim (atScale d) (atSoftcap d) query (quireTokens dim vals inSet) p
  if j = atSpans d then
    let refs := s.rangeLeaves x.comp (atTail d + i * k.plainQuire) k.plainQuire
    step (refs.flatMap fun r => s.leafValues x.comp k.bf16 r) (fun t => decide (t < atTailTokens d)) (Partial.empty dim)
  else
    (x.spanPages i j).foldl (fun p page =>
      let qi := k.quireIndex (atLayer d) (atHead d + i) page
      let vals := (List.range k.perQuire).flatMap fun n => s.leafValues x.comp k.bf16 (k.leafRef y qi n)
      step vals (fun t => decide (atFirst d ≤ page * 256 + t ∧ page * 256 + t < atEnd d)) p) (Partial.empty dim)

/-- The read list of head `i` under selection (R144). -/
def State.attendSelect (s : State) (x : Op) (dim i : Nat) : List Nat :=
  let d := x.desc
  let np := atPages d
  let w := dim * keyBytes (atSumFmt d)
  let qs := (List.range (atGroup d)).map fun q => s.atQueryVal x.comp d dim i q
  let scores := (List.range np).map fun p =>
    blockScore dim (atSum d) qs (keyValues (atSumFmt d) (s.readRange x.comp (atSummary d + (i * np + p) * w) w) dim)
  (selectBlocks scores (atSelect d) (atSink d) (atRecent d)).map (· + atFirst d / 256)

/-! ### Heads (R151, R153) -/

/-- The lost quires of a head's read set. -/
def Kv.lostIn (k : Kv) (layer h : Nat) (pages : List Nat) : List Nat :=
  (pages.map (k.quireIndex layer h)).filter fun q => k.lost.contains q

/-- Output the records of head `i`, which is complete (R151). -/
def State.headOut (o i : Nat) (ps : List Partial) (s : State) : State :=
  match s.work.ops.look o with
  | none => s
  | some x =>
    let d := x.desc
    let w := atRecordBytes (s.atD d)
    let b := (ps.zipIdx.flatMap fun q => q.1.bytes (i * atGroup d + q.2))
    let s := s.bumpCompBy x.comp Reg.ACNT_NAN_QUERIES (countIf ps Partial.isNan)
    let s := s.bumpCompBy x.comp Reg.ACNT_EMPTY_QUERIES (countIf ps fun p => p.n == 0)
    let off := i * atGroup d * w
    let s := if inlineResult d then s.opData o off b else s.writeRange x.comp (atOut d + off) b
    s.modOp o fun y => { y with todo := y.todo.filter (· != i), result := y.result + b.length }

/-- The head a seed belongs to. -/
def SeedKind.head : SeedKind → Option Nat
  | .select i => some i
  | .span i _ => some i
  | .merge i _ _ _ => some i
  | _ => none

/-- Is a seed finished? -/
def SeedState.ended : SeedState → Bool
  | .done | .failed => true
  | _ => false

/-- Withhold head `i` (R153): its records are not output, and its seeds that have not started complete without reading. -/
def State.withholdHead (o i : Nat) (atStart : Bool) (s : State) : State :=
  match s.work.ops.look o with
  | none => s
  | some x =>
    if x.withheld.contains i then s
    else
      let s := s.modOp o fun y => { y with withheld := insertAsc i y.withheld, todo := y.todo.filter (· != i) }
      let s := s.bumpComp x.comp Reg.ACNT_HEADS_WITHHELD
      let s := if atStart then s.bumpComp x.comp Reg.ACNT_LOST_AT_START else s
      let idle (z : Seed) : Bool := z.op == o && z.kind.head == some i && (decide (z.state = .waiting) || decide (z.state = .parked))
      let n := countIf s.work.seeds.vals idle
      let now := s.clk.timeNs
      let stop (z : Seed) : Seed := if idle z then { z with state := .done, commitNs := now } else z
      let s := s.modWork fun w => { w with seeds := w.seeds.each fun _ z => stop z }
      s.bumpCompBy x.comp Reg.PCNT_SEEDS_DONE n

/-- The lost quires an operation reports (R154): those of the withheld heads' read sets. -/
def State.attendLost (s : State) (x : Op) : List (Nat × Nat) :=
  match s.pool.kv.look (atKv x.desc) with
  | none => []
  | some k =>
    let pages (i : Nat) : List Nat :=
      if atSelect x.desc = 0 then atList x.desc else (x.partials.look (64 * i)).getD []
    rangesOf ((x.withheld.flatMap fun i => k.lostIn (atLayer x.desc) (atHead x.desc + i) (pages i)).foldl
      (fun l q => insertAsc q l) [])

/-- End an ATTEND whose seeds have all ended (R154, R159). -/
def State.attendEnd (o : Nat) (s : State) : State :=
  match s.work.ops.look o with
  | none => s
  | some x =>
    if x.withheld.isEmpty then s.finishOp o St.OK x.result x.detail [] 0
    else
      let l := if atPartials x.desc then [] else s.attendLost x
      s.finishOp o St.TIER_LOST l.length x.withheld.length ((l.take 508).flatMap fun r => leBytes 4 r.1 ++ leBytes 4 r.2) noOffset

/-- Keep the partials of a seed in the operation record (R145). -/
def State.keepPartials (o index : Nat) (ps : List Partial) (s : State) : State :=
  s.modOp o fun y => { y with
    partials := ps.zipIdx.foldl (fun (m : NMap (List Nat)) q => m.put (64 * index + q.2) (partialStore q.1)) y.partials }

/-- Is a seed the root of its head's merge tree: does no seed depend on it? -/
def State.isRoot (s : State) (o index : Nat) : Bool := !(s.work.seeds.vals.any fun z => z.op == o && z.deps.contains index)

/-- What a finished ATTEND seed leaves: a selection, or partials, or a head's records. -/
def State.attendSeed (z : Seed) (x : Op) (s : State) : State :=
  let d := x.desc
  match z.kind with
  | .partials _ =>
    let dim := atDim d
    let n := atHeads d * atGroup d
    let w := atRecordBytes dim
    (List.range (atHeads d)).foldl (fun s h =>
      let at_ (b j : Nat) : Nat := atPartialAddr d + (b * n + h * atGroup d + j) * w
      if ((List.range (atPartialCount d)).any fun b => s.rangePoisoned x.comp (at_ b 0) (atGroup d * w)) then
        s.withholdHead z.op h false
      else s.headOut z.op h ((List.range (atGroup d)).map fun j =>
        tree Partial.merge (Partial.empty dim) ((List.range (atPartialCount d)).map fun b =>
          Partial.read dim (s.readRange x.comp (at_ b j) w)))) s
  | kind =>
    match s.pool.kv.look (atKv d) with
    | none => s
    | some k => match s.extent k.extent with
      | none => s
      | some y =>
        let group := List.range (atGroup d)
        match kind with
        | .select h =>
          let l := s.attendSelect x k.dim h
          let s := s.modOp z.op fun o => { o with partials := o.partials.put (64 * h) l }
          let give (q : Seed) : Seed := match q.kind with
            | .span g j =>
              if q.op = z.op ∧ g = h ∧ j < atSpans d then
                let own := k.spanLeaves y (atLayer d) (atHead d + h) ((l.drop (j * atSpan d)).take (atSpan d))
                { q with leaves := q.leaves ++ own }
              else q
            | _ => q
          let s := s.modWork fun w => { w with seeds := w.seeds.each fun _ q => give q }
          if (k.lostIn (atLayer d) (atHead d + h) l).isEmpty then s else s.withholdHead z.op h true
        | .span h j =>
          if x.withheld.contains h then s
          else
            let ps := group.map fun q => s.spanPartial x k y h j q
            let n := if j = atSpans d then 0 else (x.spanPages h j).length
            let s := (s.modOp z.op fun o => { o with detail := o.detail + n }).bumpCompBy x.comp Reg.ACNT_QUIRES_READ_LO n
            let s := s.keepPartials z.op z.index ps
            if s.isRoot z.op z.index then s.headOut z.op h ps else s
        | .merge h _ l r =>
          if x.withheld.contains h then s
          else
            let load (n q : Nat) : Partial := partialLoad k.dim ((x.partials.look (64 * n + q)).getD [])
            let ps := group.map fun q => (load l q).merge (load r q)
            let s := s.keepPartials z.op z.index ps
            if s.isRoot z.op z.index then s.headOut z.op h ps else s
        | _ => s

/-! ### ENCODE -/

def enSrc (d : List Byte) : Nat := leAt d 32 8
def enDst (d : List Byte) : Nat := leAt d 40 8
def enLeaves (d : List Byte) : Nat := leAt d 48 4
def enStages (d : List Byte) : Nat := leAt d 52 1
def enFmt (d : List Byte) : Nat := leAt d 53 1
def enCb (d : List Byte) (i : Nat) : Nat := leAt d (54 + i) 1

/-- Step 3 of R113 for Table VQ-6. -/
def enBodyBad (d : List Byte) : Option Nat :=
  if !addrOk d 32 ∨ !addrOk d 40 ∨ enLeaves d = 0 ∨ 65536 < enLeaves d ∨ 3 < enStages d ∨ 3 < enFmt d
      ∨ ((List.range 3).any fun i => decide (63 < enCb d i) || (decide (enStages d ≤ i) && enCb d i != 0))
      ∨ !zeros d 57 256 ∨ inlineResult d then some St.INVALID_PARAM
  else none

/-- Slot size in bytes of the destination extent. -/
def State.enSlot (s : State) (c : Nat) (d : List Byte) : Nat :=
  match s.rangeOf c (enDst d) 1 with
  | none => 0
  | some e => ((s.extent e).map fun x => x.slotLines * 128).getD 0

/-- The destination of an ENCODE: every slot, or the first byte where the extent has no slots. -/
def State.enDstBytes (s : State) (c : Nat) (d : List Byte) : Nat := max 1 (enLeaves d * s.enSlot c d)

/-- Step 4 of R113 for an ENCODE, in the order of R176. -/
def State.enRangesBad (s : State) (c : Nat) (d : List Byte) : Option Nat :=
  let n := 32768 * enLeaves d
  let m := s.enDstBytes c d
  let src := s.rangeBad c (enSrc d) n false
  let dst := s.rangeBad c (enDst d) m true
  let bad := [src, dst]
  let slot := s.enSlot c d
  if bad.contains (some St.OUT_OF_EXTENT) then some St.OUT_OF_EXTENT
  else if bad.contains (some St.EXTENT_REVOKED) then some St.EXTENT_REVOKED
  else if s.rangeIs c (enSrc d) n Extent.isProtected then some St.PROTECTED_NO_COMPRESS
  else if s.rangeIs c (enSrc d) n Extent.vq ∨ !(s.rangeIs c (enDst d) m Extent.vq) ∨ 1 < enFmt d ∨ slot < blockSize (enStages d)
      ∨ bad.contains (some St.LAYOUT_MISMATCH) then some St.LAYOUT_MISMATCH
  else if s.rangeIs c (enDst d) m fun x => (enDst d - x.base) % slot != 0 then some St.INVALID_PARAM
  else if bad.contains (some St.READ_ONLY) then some St.READ_ONLY
  else if (List.range (enStages d)).any fun i => (s.codebook c (enCb d i)).isNone then some St.NOT_FOUND
  else none

/-- One seed for each leaf, in leaf order (R178); a raw leaf takes no matrix engine. -/
def State.encodePlan (s : State) (c : Nat) (d : List Byte) : List SeedPlan :=
  (List.range (enLeaves d)).map fun i =>
    { kind := .encode i, deps := [], chains := b2n (decide (0 < enStages d)), leaves := s.rangeLeaves c (enSrc d + 32768 * i) 32768 }

/-- The largest absolute difference between a leaf and its expansion, as FP32. -/
def encodeError (fmt : Nat) (leaf out : List Byte) : Nat :=
  (List.zipWith (fun a b =>
    let x := Fmt.fp32.encode ((fp8Of fmt).decode a.toNat)
    let y := Fmt.fp32.encode ((fp8Of fmt).decode b.toNat)
    f32add x (y ^^^ 0x80000000) % 2 ^ 31) leaf out).foldl max 0

/-- A leaf of an ENCODE fails: `poisoned` or not finite. -/
def State.encodeFails (o i : Nat) (poisoned : Bool) (s : State) : State :=
  s.modOp o fun y => { y with
    lost := insertAsc i y.lost
    withheld := if poisoned then insertAsc i y.withheld else y.withheld }

/-- A finished ENCODE seed (R177, R178): the block and the zeros that follow it in its slot are written, or the leaf fails.
The Bool says whether it was written. -/
def State.encodeSeed (o i : Nat) (x : Op) (s : State) : State × Bool :=
  let d := x.desc
  let leaf := s.readRange x.comp (enSrc d + 32768 * i) 32768
  let cbs := (List.range (enStages d)).filterMap fun k =>
    (s.codebook x.comp (enCb d k)).map fun b => (enCb d k, b.1, b.2)
  match encodeLeaf (enFmt d) cbs leaf with
  | none => (s.bumpComp x.comp Reg.VCNT_ENCODE_NONFINITE, false)
  | some b =>
    let slot := s.enSlot x.comp d
    let err := encodeError (enFmt d) leaf (blockExpand b (s.codebook x.comp))
    let s := s.writeRange x.comp (enDst d + i * slot) (b ++ List.replicate (slot - b.length) 0)
    let s := s.bumpComp x.comp Reg.VCNT_ENCODE_LEAVES
    (s.modOp o fun y => { y with result := y.result + 1, detail := max y.detail err }, true)

/-- End an ENCODE whose seeds have all ended (R175); DETAIL [63:32] is not stated on ST_OK. -/
def State.encodeEnd (o : Nat) (s : State) : State :=
  match s.work.ops.look o with
  | none => s
  | some x =>
    match x.lost with
    | [] => s.withOpen fun f s => s.finishOp o St.OK x.result (f / 2 ^ 32 * 2 ^ 32 + x.detail % 2 ^ 32) [] 0
    | i :: _ => s.finishOp o (if x.withheld.isEmpty then St.INVALID_PARAM else St.TIER_LOST) i x.lost.length [] 0

end Sys2Proof.Machine
end

