-- ==== Sys2Proof/Machine/Submit.lean ====
section
/-! DEFINITION. OP_SUBMIT (R24, R111 to R113): the checks of a descriptor in their order, the wait for capacity (R53, R92,
R116, R350), acceptance, and an operation's timeout and deadline. -/

namespace Sys2Proof.Machine

/-- KIND (Table CO-2). -/
def OpKind.code : OpKind → Nat
  | .fill => 0x01
  | .copy => 0x02
  | .compare => 0x03
  | .nmReduce => 0x04
  | .allReduce => 0x10
  | .reduceScatter => 0x11
  | .reduceToMem => 0x12
  | .gather => 0x20
  | .scatter => 0x21
  | .filterPredicate => 0x30
  | .filterThreshold => 0x31
  | .filterTopk => 0x32
  | .filterBlockSelect => 0x33
  | .attend => 0x40
  | .encode => 0x41

/-- Does a kind run near the memory and take no press (R24)? -/
def OpKind.near : OpKind → Bool
  | .fill | .copy | .compare | .nmReduce => true
  | _ => false

/-- Is a kind a reduce kind? -/
def OpKind.reduces : OpKind → Bool
  | .allReduce | .reduceScatter | .reduceToMem => true
  | _ => false

/-! ### Steps 3 and 4 of R113 -/

/-- Step 3: the body fields of the kind. -/
def State.opBodyBad (s : State) (k : OpKind) (d : List Byte) : Option Nat :=
  match k with
  | .fill | .copy | .compare | .nmReduce => nmBodyBad k d
  | .allReduce | .reduceScatter | .reduceToMem => redBodyBad k d
  | .gather => gsBodyBad true d
  | .scatter => gsBodyBad false d
  | .filterPredicate | .filterThreshold | .filterTopk | .filterBlockSelect => flBodyBad k d
  | .attend => match atBodyBad d with
    | some st => some st
    | none => if s.atShapeBad d then some St.INVALID_PARAM else none
  | .encode => enBodyBad d

/-- Step 4: ranges against extents, layouts and protection. -/
def State.opRangesBad (s : State) (c : Nat) (k : OpKind) (h : Hdr) (d : List Byte) : Option Nat :=
  match k with
  | .fill | .copy | .compare | .nmReduce => s.nmRangesBad c k d
  | .allReduce | .reduceScatter | .reduceToMem => s.redRangesBad c k h d
  | .gather => s.gsRangesBad c true d
  | .scatter => s.gsRangesBad c false d
  | .filterPredicate | .filterThreshold | .filterTopk | .filterBlockSelect => s.flRangesBad c k d
  | .attend => s.atRangesBad c d
  | .encode => s.enRangesBad c d

/-- The extents an operation names. -/
def State.opExtents (s : State) (c : Nat) (k : OpKind) (d : List Byte) : List Nat :=
  let of (l : List (Nat × Nat × Bool)) : List Nat := s.rangeExtents c (l.map fun r => (r.1, r.2.1))
  match k with
  | .fill | .copy | .compare | .nmReduce => s.rangeExtents c (nmRanges k d)
  | .reduceToMem => s.rangeExtents c [(redDest d, redCount d * elemBytes (redOut d))]
  | .allReduce | .reduceScatter => []
  | .gather => of (gsRanges true d)
  | .scatter => of (gsRanges false d)
  | .filterPredicate | .filterThreshold | .filterTopk | .filterBlockSelect => of (flRanges k d)
  | .attend =>
    let kv := if atPartials d then [] else ((s.pool.kv.look (atKv d)).map Kv.extent).toList
    (of (s.atRanges d) ++ kv).eraseDups
  | .encode => s.rangeExtents c [(enSrc d, 32768 * enLeaves d), (enDst d, s.enDstBytes c d)]

/-- The seeds of a reduce instance: one for each 64 blocks, and the final one (R116). -/
def redPlan (d : List Byte) : List SeedPlan :=
  ((List.range (ceilDiv (redBlocks d) 64)).map fun i => { kind := .block (64 * i), deps := [], chains := 0, leaves := [] })
    ++ [{ kind := .final, deps := [], chains := 0, leaves := [] }]

/-- The split of an operation into seeds, fixed by the descriptor (R24 step 2). -/
def State.opPlan (s : State) (c : Nat) (k : OpKind) (d : List Byte) : List SeedPlan :=
  match k with
  | .fill | .copy | .compare | .nmReduce => []
  | .allReduce | .reduceScatter | .reduceToMem => redPlan d
  | .gather => s.rowsPlan c true d
  | .scatter => s.rowsPlan c false d
  | .filterPredicate | .filterThreshold | .filterTopk | .filterBlockSelect => s.filterPlan c k d
  | .attend => s.attendPlan c d
  | .encode => s.encodePlan c d

/-! ### Capacity -/

/-- The step-ledger job of a member's OP_SUBMITs (R350). -/
def State.jobFor (s : State) (c src : Nat) : Option (Nat × Job) :=
  s.work.jobs.find? fun j => j.2.comp == c && j.2.node == src && j.2.closer.isNone

/-- The open instance that a reduce descriptor joins. -/
def State.joins (s : State) (c : Nat) (k : OpKind) (d : List Byte) : Option Nat :=
  if k.reduces then (s.groupFor c (redGroup d)).bind fun g => (s.openInstance g.1 (redInst d)).map Prod.fst else none

/-- The counters of the capacities that an OP_SUBMIT which has passed step 4 must wait for; none when it need not wait.
A near-memory slot (R53) and an instance slot (R116) have no counter. -/
def State.opWaitsFor (s : State) (c : Nat) (k : OpKind) (h : Hdr) (d : List Byte) : Option (List Nat) :=
  let n := if (s.joins c k d).isSome then 0 else (s.opPlan c k d).length
  let quota := s.field Reg.SEED_COMP_QUOTA 21 0
  let nm (f : Op → Bool) : Nat := countIf s.work.ops.vals fun x => x.kind.near && decide (x.phase = .running) && f x
  let slots := k.near && (decide (4096 ≤ nm fun _ => true) || decide (256 ≤ nm fun x => x.comp == c))
  let seeds := decide (n ≤ 1048576 ∧ n ≤ quota) && (decide (2097152 < s.work.seeds.length + n) || decide (quota < s.seedsOf c + n))
  let inst := k.reduces && (s.joins c k d).isNone && (s.groupFor c (redGroup d)).any fun g => decide (4 ≤ s.openInstances g.1)
  let ledger := (s.jobFor c h.src).any fun j => decide (j.2.depth ≤ j.2.openSteps)
  if slots || seeds || inst || ledger then
    some ((if seeds then [Reg.PCNT_QUOTA_WAITS] else []) ++ (if ledger then [Reg.FTCNT_LEDGER_WAITS] else []))
  else none

/-- An OP_SUBMIT that fails at a step of R113, with the counters of Table CO-9. -/
def State.refuseOp (c : Nat) (h : Hdr) (d : List Byte) (st : Nat) (s : State) : State :=
  let s := if st = St.OUT_OF_EXTENT then s.bumpComp c Reg.POOL_CNT_OUT_OF_EXTENT
    else if st = St.GROUP_MISMATCH then s.bumpComp c Reg.CCNT_GROUP_MISMATCH
    else if st = St.PRESS_OFFLINE then s.bumpComp c Reg.FTCNT_PRESS_OFFLINE
    else s
  s.opFails h d st

/-! ### Acceptance -/

/-- The step of a job that an accepted OP_SUBMIT becomes: job, STEP_SEQ (0 without a job) (R350). -/
def State.takeStep (c src : Nat) (s : State) : Option Nat × Nat × State :=
  match s.jobFor c src with
  | none => (none, 0, s)
  | some (j, y) =>
    (some j, y.nextStep,
      s.modWork fun w => { w with jobs := w.jobs.put j { y with nextStep := y.nextStep + 1, openSteps := y.openSteps + 1 } })

/-- Have all seeds of an operation ended? -/
def State.allEnded (s : State) (x : Op) : Bool :=
  x.seeds.all fun i => (s.work.seeds.look i).all fun z => z.state.ended

/-- End an ATTEND when its seeds have. -/
def State.attendCheck (o : Nat) (s : State) : State :=
  match s.work.ops.look o with
  | none => s
  | some x => if x.kind = .attend ∧ x.phase = .running ∧ s.allEnded x then s.attendEnd o else s

/-- What acceptance starts, by kind: a near-memory operation asks for its leaves; an ATTEND takes its implicit reference
(R56) and withholds the heads whose read set is known to be lost (R153); a reduce instance joins its root's. -/
def State.opStarts (o : Nat) (s : State) : State :=
  match s.work.ops.look o with
  | none => s
  | some x =>
    match x.kind with
    | .fill | .copy | .compare | .nmReduce =>
      x.todo.foldl (fun s l => (s.nmTouches x l).foldl (fun s t => s.askLeaf o t.1 t.2.1 t.2.2) s) s
    | .attend =>
      if atPartials x.desc then s
      else match s.pool.kv.look (atKv x.desc) with
        | none => s
        | some k =>
          let s := s.modPool fun p => { p with kv := p.kv.put (atKv x.desc) { k with implicit := k.implicit + 1 } }
          let lost (i : Nat) : Bool :=
            atSelect x.desc == 0 && !(k.lostIn (atLayer x.desc) (atHead x.desc + i) (atList x.desc)).isEmpty
          let s := ((List.range (atHeads x.desc)).filter lost).foldl (fun s i => s.withholdHead o i true) s
          s.attendCheck o
    | .allReduce | .reduceScatter | .reduceToMem =>
      (s.redJoin o x.hdr x.desc x.job x.stepSeq).redParent o
    | _ => s

/-- What an accepted operation has still to run: leaves, blocks or heads. -/
def State.opTodo (s : State) (x : Op) : List Nat :=
  match x.kind with
  | .fill | .copy | .compare | .nmReduce => s.nmLeaves x.comp x.desc
  | .allReduce | .reduceScatter | .reduceToMem => List.range (redBlocks x.desc)
  | .attend => List.range (atHeads x.desc)
  | _ => []

/-- Accept an operation that waits as record `o` (R92, R113): its seeds are created and its step numbered. -/
def State.acceptOp (o : Nat) (s : State) : State :=
  match s.work.ops.look o with
  | none => s
  | some x =>
    let r := s.takeStep x.comp x.hdr.src
    let s := r.2.2
    let us := leAt x.desc 8 3
    let us := if us = 0 ∧ x.kind.reduces then s.field Reg.COLL_TIMEOUT_US 23 0 else us
    let g := if x.kind.reduces then s.groupFor x.comp (redGroup x.desc) else none
    let y : Op := { x with
      phase := .running
      acceptNs := s.clk.timeNs
      order := s.work.order
      timeoutAt := if us = 0 then none else some (s.clk.timeNs + 1000 * us)
      todo := s.opTodo x
      result := if x.kind = .compare then noOffset else 0
      group := (g.map Prod.fst).getD 0
      inst := if x.kind.reduces then redInst x.desc else 0
      contribs := newContribs ((g.map fun q => q.2.members.length).getD 0)
      job := r.1
      stepSeq := r.2.1
      extents := s.opExtents x.comp x.kind x.desc }
    let s := s.modWork fun w => { w with ops := w.ops.put o y, order := w.order + 1 }
    let home := g.map fun q => q.2.press
    ((s.addSeeds o x.comp home (s.opPlan x.comp x.kind x.desc)).opStarts o)

/-- The record of an OP_SUBMIT that has passed step 4. -/
def newOp (k : OpKind) (c : Nat) (h : Hdr) (d : List Byte) : Op where
  kind := k
  comp := c
  hdr := h
  desc := d
  phase := .waiting
  acceptNs := 0
  order := 0
  timeoutAt := none
  firstStall := none
  seeds := []
  todo := []
  lost := []
  status := 0
  result := 0
  detail := 0
  replayed := false
  moved := false
  truncated := false
  withheld := []
  partials := []
  group := 0
  inst := 0
  contribs := []
  spilled := 0
  job := none
  stepSeq := 0
  extents := []
  finalData := []
  finalOffset := 0
  mute := false
  causes := []

/-- Drop the record of an OP_SUBMIT that fails after its wait. -/
def State.failWaiting (o st : Nat) (s : State) : State :=
  match s.work.ops.look o with
  | none => s
  | some x => (s.modWork fun w => { w with ops := w.ops.del o }).refuseOp x.comp x.hdr x.desc st

/-- Step 5 of R113 for record `o`: it joins its instance, fails for capacity it can never have, or is accepted. -/
def State.admitOp (o : Nat) (s : State) : State :=
  match s.work.ops.look o with
  | none => s
  | some x =>
    match s.joins x.comp x.kind x.desc with
    | some i =>
      let r := s.takeStep x.comp x.hdr.src
      (r.2.2.modWork fun w => { w with ops := w.ops.del o }).redJoin i x.hdr x.desc r.1 r.2.1
    | none =>
      let n := (s.opPlan x.comp x.kind x.desc).length
      let home := if x.kind.reduces then (s.groupFor x.comp (redGroup x.desc)).map fun g => g.2.press else none
      let noPress : Bool := match home with
        | some p => (s.presses.look p).any fun q => decide (q.state = .offline)
        | none => (s.choosePress x.comp).isNone
      if 1048576 < n then s.failWaiting o St.INVALID_PARAM
      else if s.field Reg.SEED_COMP_QUOTA 21 0 < n then s.failWaiting o St.NO_CAPACITY
      else if x.kind.near then s.acceptOp o
      else if (s.comp x.comp).any fun c => c.pressMask == 0 then s.failWaiting o St.NO_CAPACITY
      else if noPress then s.failWaiting o St.PRESS_OFFLINE
      else s.acceptOp o

/-- Does an open operation of a source carry an OP_ID (R113, R198)? -/
def State.opOpen (s : State) (src id : Nat) : Bool :=
  s.work.ops.vals.any fun x =>
    if x.contribs.isEmpty then x.hdr.src == src && opId x.desc == id
    else x.contribs.any fun q => q.opId == id && q.hdr.any fun h => h.src == src

/-- An OP_SUBMIT of kind `k` (R24, R113). -/
def State.submit (k : OpKind) (h : Hdr) (d : List Byte) (s : State) : State :=
  let r := s.ingress { opcode := 0x30, hdr := h, data := d }
  let s := r.1
  match r.2 with
  | none => s
  | some c =>
    if s.opOpen h.src (opId d) then s.bumpComp c Reg.TX_CNT_DUPLICATES
    else if (s.epochFor c h.epoch).isNone then (s.bumpComp c Reg.TX_CNT_STALE_EPOCH).opFails h d St.STALE_EPOCH
    else if !descCrcOk d 256 then (s.bumpComp c Reg.CCNT_DESC_CRC).opFails h d St.DESC_CRC
    else if !commonOk k.code d then s.opFails h d St.INVALID_PARAM
    else match s.opBodyBad k d with
      | some st => s.refuseOp c h d st
      | none =>
        match s.opRangesBad c k h d with
        | some st => s.refuseOp c h d st
        | none =>
          let o := s.work.nextOp
          let held := s.opWaitsFor c k h d
          let s := s.modWork fun w => { w with ops := w.ops.put o (newOp k c h d), nextOp := o + 1 }
          match held with
          | some cs => cs.foldl (fun s a => s.bumpComp c a) s
          | none => s.admitOp o

/-- FILL (0x01). -/
def execFill (h : Hdr) (d : List Byte) (s : State) : Out := .next (s.submit .fill h d)

/-- COPY (0x02). -/
def execCopy (h : Hdr) (d : List Byte) (s : State) : Out := .next (s.submit .copy h d)

/-- COMPARE (0x03). -/
def execCompare (h : Hdr) (d : List Byte) (s : State) : Out := .next (s.submit .compare h d)

/-- NM_REDUCE (0x04). -/
def execNmReduce (h : Hdr) (d : List Byte) (s : State) : Out := .next (s.submit .nmReduce h d)

/-- ALL_REDUCE (0x10). -/
def execAllReduce (h : Hdr) (d : List Byte) (s : State) : Out := .next (s.submit .allReduce h d)

/-- REDUCE_SCATTER (0x11). -/
def execReduceScatter (h : Hdr) (d : List Byte) (s : State) : Out := .next (s.submit .reduceScatter h d)

/-- REDUCE_TO_MEM (0x12). -/
def execReduceToMem (h : Hdr) (d : List Byte) (s : State) : Out := .next (s.submit .reduceToMem h d)

/-- GATHER (0x20). -/
def execGather (h : Hdr) (d : List Byte) (s : State) : Out := .next (s.submit .gather h d)

/-- SCATTER (0x21). -/
def execScatter (h : Hdr) (d : List Byte) (s : State) : Out := .next (s.submit .scatter h d)

/-- FILTER_PREDICATE (0x30). -/
def execFilterPredicate (h : Hdr) (d : List Byte) (s : State) : Out := .next (s.submit .filterPredicate h d)

/-- FILTER_THRESHOLD (0x31). -/
def execFilterThreshold (h : Hdr) (d : List Byte) (s : State) : Out := .next (s.submit .filterThreshold h d)

/-- FILTER_TOPK (0x32). -/
def execFilterTopk (h : Hdr) (d : List Byte) (s : State) : Out := .next (s.submit .filterTopk h d)

/-- FILTER_BLOCK_SELECT (0x33). -/
def execFilterBlockSelect (h : Hdr) (d : List Byte) (s : State) : Out := .next (s.submit .filterBlockSelect h d)

/-- ATTEND (0x40). -/
def execAttend (h : Hdr) (d : List Byte) (s : State) : Out := .next (s.submit .attend h d)

/-- ENCODE (0x41). -/
def execEncode (h : Hdr) (d : List Byte) (s : State) : Out := .next (s.submit .encode h d)

/-- OP_SUBMIT_DEQUEUE: a waiting OP_SUBMIT repeats step 4, and is accepted once it need not wait (R113). -/
def execOpSubmitDequeue (op : Nat) (s : State) : Out :=
  .next <|
    match s.work.ops.look op with
    | none => s
    | some x =>
      if x.phase ≠ .waiting then s
      else match s.opRangesBad x.comp x.kind x.hdr x.desc with
        | some st => s.failWaiting op st
        | none => if (s.opWaitsFor x.comp x.kind x.hdr x.desc).isSome then s else s.admitOp op

/-! ### Timeout and deadline -/

/-- The offset of the lowest leaf that a near-memory operation has not run (R52). -/
def State.nmLowest (s : State) (x : Op) : Nat := (x.todo.map fun l => (s.nmPiece x.comp x.desc l).1).foldl min noOffset

/-- OP_TIMEOUT: TIMEOUT_US of an accepted operation expires (R111, R52, R125, R155). -/
def execOpTimeout (op : Nat) (s : State) : Out :=
  .next <|
    match s.work.ops.look op with
    | none => s
    | some x =>
      match x.timeoutAt with
      | none => s
      | some t =>
        if x.phase ≠ .running then s
        else
          let late := s.advanceTo t
          match x.kind with
          | .fill | .copy | .compare | .nmReduce => late.finishOp op St.OP_TIMEOUT x.result (s.nmLowest x) [] 0
          | .attend =>
            (late.bumpComp x.comp Reg.ACNT_OP_TIMEOUT).withOpen fun r s => s.finishOp op St.OP_TIMEOUT r
              (atHeads x.desc - x.todo.length - x.withheld.length) [] 0
          | .allReduce | .reduceScatter | .reduceToMem =>
            match redMissing x with
            | [] => s
            | low :: rest => (late.bumpComp x.comp Reg.CCNT_OP_TIMEOUT).redAbort op St.OP_TIMEOUT (some low) (some (rest.length + 1))
          | _ => late.withOpen fun r s => s.failOp op St.OP_TIMEOUT r

/-- The leaves that an operation is stalled on: extent, leaf. -/
def State.opStalled (s : State) (o : Nat) (x : Op) : List (Nat × Nat) :=
  (((s.opWants o x).filter fun t => !s.leafReady x.alt t.1 t.2.1 t.2.2).map fun t => (t.1, t.2.1)).eraseDups

/-- Give up the leaves an operation is stalled on: they are poisoned unless a copy exists elsewhere (R60). -/
def State.giveUp (l : List (Nat × Nat)) (s : State) : State := l.foldl (fun s q => s.poisonAtDeadline q.1 [q.2]) s

/-- The unfinished seeds of an operation end FAILED. -/
def State.failSeeds (o : Nat) (s : State) : State :=
  let now := s.clk.timeNs
  let stop (z : Seed) : Seed := if z.op = o ∧ !z.state.ended then { z with state := .failed, commitNs := now } else z
  let mine (i : Nat) : Bool := (s.work.seeds.look i).any fun z => z.op == o
  { s with
    work := { s.work with seeds := s.work.seeds.each fun _ z => stop z }
    presses := s.presses.each fun _ p => { p with chains := p.chains.filter fun c => !mine c.seed } }

/-- An operation reaches its deadline (R60): what it is stalled on is lost, and it completes as its kind reports losses
(R52, R129, R137, R153, R178). -/
def State.opDeadline (o : Nat) (s : State) : State :=
  match s.work.ops.look o with
  | none => s
  | some x =>
    match x.firstStall with
    | none => s
    | some f =>
      let stalled := s.opStalled o x
      if x.phase ≠ .running ∨ stalled.isEmpty then s
      else
        let s := s.advanceTo (f + 1000 * ((s.comp x.comp).map Comp.deadlineUs).getD 0)
        let gone := stalled.map fun q => q.1 * 2 ^ 32 + q.2
        match x.kind with
        | .fill | .copy | .compare | .nmReduce =>
          let ready := x.todo.filter fun l => s.nmReady x l
          let s := ready.foldl (fun s l => s.nmLeaf o l) s
          let s := (s.giveUp stalled).modOp o fun y => { y with lost := y.lost ++ y.todo, todo := [] }
          s.nmFinish o
        | .gather | .scatter =>
          (((s.giveUp stalled).failSeeds o).modOp o fun y => { y with lost := gone }).rowsRun o
        | .filterPredicate | .filterThreshold | .filterTopk | .filterBlockSelect =>
          (((s.giveUp stalled).failSeeds o).modOp o fun y => { y with lost := gone }).filterRun o
        | .attend =>
          let s := (s.giveUp stalled).failSeeds o
          (x.todo.foldl (fun s i => s.withholdHead o i false) s).attendEnd o
        | .encode =>
          let left := x.seeds.filterMap fun i => (s.work.seeds.look i).bind fun z => if z.state.ended then none else some z.index
          let s := (s.giveUp stalled).failSeeds o
          (left.foldl (fun s i => s.encodeFails o i true) s).encodeEnd o
        | _ => s

/-- STEP_DEADLINE_EXPIRY: a stalled step reaches POOL_COMP_DEADLINE (R60): a request of the pool by its number, or an
operation by its number plus 2^32. -/
def execStepDeadlineExpiry (step : Nat) (s : State) : Out :=
  .next (if 2 ^ 32 ≤ step then s.opDeadline (step - 2 ^ 32) else s.stepDeadline step)

end Sys2Proof.Machine
end

