-- ==== Sys2Proof/Machine/PressOps.lean ====
section
/-! DEFINITION. The shared operations of a press (chapters 04 and 15): its contexts, its drill, its engines and chains, the end
of a seed, fences, resets, and the loss of a press. -/

namespace Sys2Proof.Machine

/-! ### Contexts (R105 to R107) -/

/-- Is a seed in a state that counts as waiting (R105)? -/
def SeedState.waits : SeedState → Bool
  | .waiting | .parked => true
  | _ => false

/-- The seeds of a press that satisfy `f`, by number. -/
def State.pressSeeds (s : State) (n : Nat) (f : Seed → Bool) : List (Nat × Seed) :=
  s.work.seeds.filter fun q => q.2.press == n && f q.2

/-- The oldest of a list of seeds in the order of R93. -/
def State.oldest (s : State) (l : List (Nat × Seed)) : Option (Nat × Seed) :=
  l.foldl (fun (b : Option (Nat × Seed)) q => match b with
    | none => some q
    | some a => if s.seedOrder q.2 < s.seedOrder a.2 then some q else some a) none

/-- The context with the oldest waiting seed on a press, the present one left out (R105). -/
def State.nextCtx (s : State) (n : Nat) : Option Nat :=
  let cur := (s.presses.look n).bind Press.ctx
  (s.oldest (s.pressSeeds n fun z => z.state.waits && some z.comp != cur)).map fun q => q.2.comp

/-- A quantum's length in nanoseconds: QUANTUM_US, and never less than 328 us (R107). -/
def State.quantumLen (s : State) : Nat := 1000 * max 328 (s.field Reg.PRESS_CTX_CFG 15 0)

/-- The pool and drill sizes that come into force at a wake or a switch (R109). -/
def State.sizePools (n : Nat) (s : State) : State :=
  s.modPress n fun p => { p with
    drillSlots := s.field Reg.SP_POOL_CFG 26 16
    reduceSlots := s.field Reg.SP_POOL_CFG 10 0
    lanes := s.field Reg.DRILL_CFG 13 8
    ahead := s.field Reg.DRILL_CFG 6 0 }

/-- Context `c` starts on a press: its quantum begins, and its parked seeds wait again. -/
def State.startCtx (n c : Nat) (s : State) : State :=
  let s := s.modPress n fun p => { p with state := .lit, ctx := some c, expired := false, quantumNs := s.clk.timeNs }
  let back (z : Seed) : Seed := if z.press = n ∧ z.comp = c ∧ z.state = .parked then { z with state := .waiting } else z
  s.modWork fun w => { w with seeds := w.seeds.each fun _ z => back z }

/-- A scrub begins (Table PS-10): the codebook store and the norms are gone. -/
def State.beginScrub (n : Nat) (st : PressState) (s : State) : State :=
  s.modPress n fun p => { p with state := st, store := [], norms := none, expired := false }

/-- Engines as bits. -/
def engineBit (e : Nat) : BitVec 5 := 1#5 <<< e

/-- The running chains of a press are abandoned and its ACTIVE seeds leave it in state `st` (R106): only committed chains
count, an abandoned one is run again first, and the leaves are fetched again. An engine whose tie-break was still open must
pass a sweep (R345). -/
def State.abandon (n : Nat) (st : SeedState) (s : State) : State :=
  match s.presses.look n with
  | none => s
  | some p =>
    let had (i : Nat) : Bool := p.chains.any fun c => c.seed == i
    let sus := p.chains.foldl (fun m c => if c.stopped then m ||| engineBit c.engine else m) (0 : BitVec 5)
    let back (i : Nat) (z : Seed) : Seed :=
      if z.press = n ∧ z.state = .active then
        { z with
          state := st
          resumeFirst := z.resumeFirst || had i
          chainsStarted := z.chainsDone
          fetched := 0
          poisoned := false
          refetch := none }
      else z
    let s := s.modPress n fun p => { p with chains := [], mustSweep := p.mustSweep ||| sus }
    s.modWork fun w => { w with seeds := w.seeds.each back }

/-! ### The drill (R97) -/

/-- Ask for the next leaf of a seed. -/
def State.askNext (i : Nat) (s : State) : State :=
  match s.work.seeds.look i with
  | none => s
  | some z =>
    match z.leaves[z.fetched]? with
    | none => s
    | some r => (s.refLeaves z r).foldl (fun s l => s.askLeaf z.op r.extent l false) s

/-- Does a seed have a drill lane: is it among the oldest ACTIVE seeds of its press that still have leaves to fetch? -/
def State.hasLane (s : State) (i : Nat) (z : Seed) : Bool :=
  let lanes := ((s.presses.look z.press).map Press.lanes).getD 0
  let older := s.pressSeeds z.press fun y =>
    decide (y.state = .active) && decide (y.fetched < y.leaves.length) && decide (s.seedOrder y < s.seedOrder z)
  decide (older.length < lanes) && s.work.seeds.has i

/-- The next leaf of a seed has a slot and a token. -/
def State.leafIn (i : Nat) (bad : Bool) (s : State) : State :=
  (s.modSeed i fun z => { z with fetched := z.fetched + 1, poisoned := z.poisoned || bad, refetch := none }).askNext i

/-- The fault of the block in a slot (R172, R173): a never-written slot is a format fault. -/
def State.slotFault (s : State) (e : Nat) (x : Extent) (k : Nat) : Option BlockFault :=
  if x.slotFresh k then some .format
  else blockCheck (s.slotBlock e x k) (fetchSize x.slotLines) (s.codebook x.comp)

/-- The mark of a fault. -/
def faultMark : BlockFault → Mark
  | .format => .blockFormat
  | .length => .lengthFault

/-- Is there a clean copy of a slot beside the one that was read (R173)? -/
def Extent.cleanCopy (x : Extent) (k : Nat) : Bool :=
  let ls := leavesOf (k * x.slotLines * 128) (x.slotLines * 128)
  x.hasCopy || (ls.any fun l => x.inT0 l && !x.dirtyT0 l)
    || (x.tier.isT2 && ls.any fun l => (x.chunkOf l).any fun c => c.inT1 && !c.t1Dirty)

/-- A block fault: it is counted; the slot is read again where a clean copy may help, else it is poisoned at once (R173). -/
def State.blockFaulty (i e k : Nat) (x : Extent) (f : BlockFault) (s : State) : State :=
  let a := match f with
    | .format => Reg.VCNT_FORMAT_FAULT
    | .length => Reg.VCNT_LENGTH_FAULT
  let o := ((s.work.seeds.look i).map Seed.op).getD 0
  let s := (s.bumpComp x.comp a).stallOp o
  if x.slotFresh k ∨ !x.cleanCopy k then (s.poisonUnit e k (faultMark f)).leafIn i true
  else s.modSeed i fun z => { z with refetch := some k }

/-- An uncorrectable answer to a drill read (R59, Table MT-10): a clean T0 copy is dropped and the leaf read again from its
home, a dirty one is poisoned; an error in a tier below is handled as for any reader. -/
def State.drillError (i e l : Nat) (x : Extent) (injected : Bool) (s : State) : State :=
  let o := ((s.work.seeds.look i).map Seed.op).getD 0
  if x.inT0 l then
    let s := (s.causeOp o Reg.POOL_CNT_TIER_UE_T0).stallOp o
    if x.dirtyT0 l then s.loseLeaf e l
    else
      let s := s.modChunk e (l / 64) fun c => { c with t0 := c.t0.del (l % 64) }
      s.askLeaf o e l false
  else (s.ueT1 e (2 * l) injected).settle

/-! ### Engines and chains -/

/-- The composition whose context runs on a press. -/
def State.ctxOf (s : State) (n : Nat) : Nat := ((s.presses.look n).bind Press.ctx).getD 256

/-- The operation of a seed. -/
def State.opOf (s : State) (z : Seed) : Option Op := s.work.ops.look z.op

/-- Bands a chain of a seed takes on its engine (R142, R149); a chain in encode mode takes the whole engine. -/
def State.chainBands (s : State) (z : Seed) : Nat :=
  match z.kind, s.opOf z with
  | .encode _, _ => 16
  | .span _ _, some x => ceilDiv (atGroup x.desc) (if s.atD x.desc = 128 then 8 else 4)
  | _, _ => 1

/-- Tiles of a seed's chain (R149, R103): 128 ARITH cycles of one band's stream, or of the engine in encode mode. -/
def State.chainTiles (s : State) (z : Seed) : Nat :=
  match s.opOf z with
  | none => 0
  | some x =>
    let d := x.desc
    match z.kind with
    | .encode _ => 64 * enStages d
    | .span i j =>
      let n := if j = atSpans d then 1 else (x.spanPages i j).length
      s.chainBands z * ceilDiv (2 * s.atD d * (if n = 1 then 3 else 2 * n)) 128
    | .select _ => ceilDiv (atPages d * s.atD d) 16384
    | .filter _ n => ceilDiv (n * flDim d) 16384
    | _ => 0

/-- Bands in use on an engine. -/
def State.bandsUsed (s : State) (p : Press) (e : Nat) : Nat :=
  sumOf (p.chains.filter fun c => c.engine == e) fun c => ((s.work.seeds.look c.seed).map s.chainBands).getD 0

/-- Can an engine take a chain: unfenced, not under suspicion, not owing a sweep? -/
def Press.engineOpen (p : Press) (e : Nat) : Bool :=
  !p.fenced.getLsbD e && !p.mustSweep.getLsbD e && !(p.chains.any fun c => c.engine == e && c.stopped)

/-- The lowest-numbered engine with room for a seed's chain (R98, R149); one engine of a press is in encode mode at a
time (R103). -/
def State.engineFor (s : State) (p : Press) (z : Seed) : Option Nat :=
  let enc (i : Nat) : Bool := (s.work.seeds.look i).any fun y => match y.kind with
    | .encode _ => true
    | _ => false
  let mine := match z.kind with
    | .encode _ => true
    | _ => false
  if mine && p.chains.any fun c => enc c.seed then none
  else (List.range 4).find? fun e => p.engineOpen e && decide (s.bandsUsed p e + s.chainBands z ≤ 16)

/-- The codebooks a seed's passes need (R168). -/
def State.seedCodebooks (s : State) (z : Seed) : List Nat :=
  match z.kind, s.opOf z with
  | .encode _, some x => (List.range (enStages x.desc)).map (enCb x.desc)
  | .span _ _, some _ =>
    (z.leaves.flatMap fun r => match s.extent r.extent with
      | some y =>
        if y.vq then
          let b := s.slotBlock r.extent y r.leaf
          (List.range (leAt b 5 1 % 4)).map fun k => leAt b (16 + k) 1
        else []
      | none => []).eraseDups
  | _, _ => []

/-- A chain is replayed from its first tile, and its leaves fetched again (Table FT-2, R336). -/
def State.replayChain (n : Nat) (c : Chain) (check : Bool) (s : State) : State :=
  let s := s.modPress n fun p => { p with chains := p.chains.filter (· != c) }
  match s.work.seeds.look c.seed with
  | none => s
  | some z =>
    let s := s.modSeed c.seed fun z => { z with
      chainsStarted := z.chainsStarted - 1
      replays := z.replays + 1
      checkReplay := z.checkReplay || check
      parityReplay := z.parityReplay || !check
      fetched := 0 }
    let s := s.modOp z.op fun x => { x with replayed := true }
    (s.bumpComp z.comp Reg.FTCNT_REPLAYED_CHAINS).askNext c.seed

/-! ### The end of a seed -/

/-- Seeds that depend on one that ended FAILED, directly or through others, and are not yet ACTIVE end FAILED without
running (R93). A dependency has a lower index, so one pass in rising index finds them all. -/
def State.failDependents (o index : Nat) (s : State) : State :=
  let now := s.clk.timeNs
  let mine := s.work.seeds.filter fun q => q.2.op == o && q.2.state.waits
  let bad := mine.foldl (fun (b : List Nat) q => if q.2.deps.any b.contains then q.2.index :: b else b) [index]
  let stop (z : Seed) : Seed :=
    if z.op = o ∧ z.state.waits ∧ z.index ≠ index ∧ bad.contains z.index then { z with state := .failed, commitNs := now } else z
  s.modWork fun w => { w with seeds := w.seeds.each fun _ z => stop z }

/-- A seed's completion meets the dependencies of the seeds held by a press (R93). -/
def State.meetDeps (n o index : Nat) (s : State) : State :=
  let meet (z : Seed) : Seed :=
    if z.press = n ∧ z.op = o ∧ z.deps.contains index ∧ !z.met.contains index then { z with met := z.met ++ [index] } else z
  s.modWork fun w => { w with seeds := w.seeds.each fun _ z => meet z }

/-- What the end of a seed means for its operation. -/
def State.seedEnds (o : Nat) (s : State) : State :=
  match s.work.ops.look o with
  | none => s
  | some x =>
    if x.phase ≠ .running ∨ !s.allEnded x then s
    else match x.kind with
      | .attend => s.attendEnd o
      | .encode => s.encodeEnd o
      | .gather | .scatter => s.rowsRun o
      | .filterPredicate | .filterThreshold | .filterTopk | .filterBlockSelect => s.filterRun o
      | _ => s

/-- Take a seed's chains off its press. -/
def State.dropChains (i : Nat) (s : State) : State :=
  { s with presses := s.presses.each fun _ p => { p with chains := p.chains.filter fun c => c.seed != i } }

/-- A seed ends FAILED (R96): its dependents fail, its leaf or head is lost to the operation, and the operation ends when it
was the last. -/
def State.failSeed (i : Nat) (s : State) : State :=
  match s.work.seeds.look i with
  | none => s
  | some z =>
    let s := (s.dropChains i).modSeed i fun z => { z with state := .failed, commitNs := s.clk.timeNs }
    let s := s.failDependents z.op z.index
    let s := match z.kind, s.opOf z with
      | .encode l, some _ => s.encodeFails z.op l z.poisoned
      | k, some _ => match k.head with
        | some h => s.withholdHead z.op h false
        | none => s
      | _, none => s
    s.seedEnds z.op

/-- A seed ends DONE (R93): its result is computed, and the seeds of its own press that depend on it may go on. An ENCODE
leaf with a NaN or an infinity fails in place of that (R177). -/
def State.doneSeed (i : Nat) (s : State) : State :=
  match s.work.seeds.look i with
  | none => s
  | some z =>
    match s.opOf z with
    | none => s
    | some x =>
      let r : State × Bool := match z.kind with
        | .encode l => s.encodeSeed z.op l x
        | _ => if x.kind = .attend then (s.attendSeed z x, true) else (s, true)
      if !r.2 then r.1.failSeed i
      else
        let s := (r.1.dropChains i).modSeed i fun z => { z with state := .done, commitNs := s.clk.timeNs }
        let s := (s.bumpComp z.comp Reg.PCNT_SEEDS_DONE).meetDeps z.press z.op z.index
        s.seedEnds z.op

/-! ### Fences, resets and the loss of a press (R341 to R345) -/

/-- An operation has lost its last press (R343). -/
def State.pressLost (o : Nat) (s : State) : State :=
  match s.work.ops.look o with
  | none => s
  | some x => (s.bumpComp x.comp Reg.FTCNT_PRESS_OFFLINE).withOpen fun r s => s.failOp o St.PRESS_OFFLINE r

/-- A seed moves from a press that went OFFLINE to another of its composition's share (R343, R24 step 4). -/
def State.moveSeed (i : Nat) (running : Bool) (s : State) : State :=
  match s.work.seeds.look i with
  | none => s
  | some z =>
    match z.kind with
    | .block _ | .final =>
      match s.opOf z with
      | none => s
      | some x =>
        let miss := redMissing x
        s.redAbort z.op St.PRESS_OFFLINE miss.head? (some miss.length)
    | _ =>
      match s.choosePress z.comp with
      | none => s.pressLost z.op
      | some m =>
        let done := z.deps.filter fun d => s.work.seeds.vals.any fun y => y.op == z.op && y.index == d && decide (y.state = .done)
        let s := s.modSeed i fun z => { z with
          press := m
          state := .waiting
          met := done
          moved := true
          replays := if running then z.replays + 1 else z.replays }
        let s := s.modOp z.op fun x => { x with moved := true, replayed := x.replayed || running }
        s.wakePress m

/-- A press goes OFFLINE (R343). -/
def State.goOffline (n : Nat) (s : State) : State :=
  if (s.presses.look n).any fun p => decide (p.state = .offline) then s
  else
    let ran := (((s.presses.look n).map Press.chains).getD []).map Chain.seed
    let s := s.abandon n .waiting
    let s := s.modPress n fun p => { p with state := .offline, ctx := none, store := [], norms := none, expired := false }
    let s := s.occur Ev.FT_PRESS_OFFLINE n 0
    let left := (s.pressSeeds n fun z => !z.state.ended).map Prod.fst
    left.foldl (fun s i => s.moveSeed i (ran.contains i)) s

/-- Has a press an unfenced active engine? -/
def Press.canRun (p : Press) : Bool := (List.range 4).any fun e => !p.fenced.getLsbD e

/-- Set a fence (R344), with its counter and events; FT_ENGINE_FENCED carries the time of the engine's last sweep pass
(R346). A fenced checker has no pending verdict: the press samples nothing any more. -/
def State.setFence (n e : Nat) (s : State) : State :=
  match s.presses.look n with
  | none => s
  | some p =>
    if p.fenced.getLsbD e then s
    else
      let free (c : Chain) : Chain := if e = 4 then { c with sampled := c.verdicts } else c
      let s := s.modPress n fun p => { p with
        fenced := p.fenced ||| engineBit e
        mustSweep := p.mustSweep &&& ~~~(engineBit e)
        sweepDue := p.sweepDue &&& ~~~(engineBit e)
        chains := p.chains.map free }
      let s := (s.bump Reg.FT_CNT_FENCED).occur Ev.FT_ENGINE_FENCED (8 * n + e) (p.lastPass.num e)
      if e = 4 then s.occur Ev.FT_CHECKER_LOST n 0 else s

/-- Fence an engine; a press with no active engine left goes OFFLINE (R343). -/
def State.fence (n e : Nat) (s : State) : State :=
  let s := s.setFence n e
  if (s.presses.look n).any Press.canRun then s else s.goOffline n

/-- A press reset begins (R342): chains are abandoned as R106 does, and the seeds wait. -/
def State.resetPress (n : Nat) (s : State) : State :=
  let s := (s.abandon n .waiting).beginScrub n .resetting
  (s.modPress n fun p => { p with mustSweep := 0 }).bump Reg.FT_CNT_PRESS_RESETS

end Sys2Proof.Machine
end

