-- ==== Sys2Proof/Machine/CompOps.lean ====
section
/-! DEFINITION. The shared operations of compositions (chapter 13): resources, unbinding, the end of their work, and the
records that describe them. -/

namespace Sys2Proof.Machine

/-! ### Resources (R283, R284, R115) -/

/-- Is a press of a mask out of reach of composition `me` (none: a new one): held by a slice, named by any other share when
`me` is a slice, or the home press of another composition's reduce group? -/
def State.pressesHeld (s : State) (me : Option Nat) (slice : Bool) (mask : BitVec 8) : Bool :=
  (s.comps.any fun q => some q.1 != me && (q.2.slice || slice) && (q.2.pressMask &&& mask) != 0)
    || s.work.groups.vals.any fun g => some g.comp != me && mask.getLsbD g.press

/-- Is a stack or fabric port of a new slice held by another composition? -/
def State.unitsHeld (s : State) (stk : BitVec 8) (fps : BitVec 32) : Bool :=
  s.comps.any fun q =>
    (q.2.slice && ((q.2.stackMask &&& stk) != 0 || (q.2.fpMask &&& fps) != 0))
      || q.2.members.any fun m => fps.getLsbD (m.lport / 8)

/-- The T0 leaves of other compositions on a slice's stacks: extent, leaf, dirty (R284). -/
def State.foreignLeaves (s : State) (h : Nat) (mask : BitVec 8) : List (Nat × Nat × Bool) :=
  s.pool.extents.flatMap fun p =>
    if p.2.comp = h then []
    else p.2.chunks.flatMap fun q => (q.2.t0.filter fun f => mask.getLsbD f.2.stack).map fun f => (p.1, 64 * q.1 + f.1, f.2.dirty)

/-- A slice takes its stacks: leaves on their way there stop, clean leaves of others are dropped, dirty ones queued for
write-back. -/
def State.clearStacks (h : Nat) (mask : BitVec 8) (s : State) : State :=
  let other (e : Nat) : Bool := (s.extent e).any fun x => x.comp != h
  let s := s.modPool fun p => { p with moves := p.moves.filter fun m =>
    !(decide (m.kind = .promote) && mask.getLsbD m.stack && other m.extent) }
  (s.foreignLeaves h mask).foldl (fun s q =>
    if q.2.2 then
      if s.moving q.1 q.2.1 then s
      else s.queueMove q.1 q.2.1 .evict ((((s.extent q.1).bind fun x => x.chunkOf q.2.1).map Chunk.tray).getD 0)
    else s.modChunk q.1 (q.2.1 / 64) fun c => { c with t0 := c.t0.del (q.2.1 % 64) }) s

/-! ### Unbinding (R286, R289, R293) -/

/-- Is a step held for lower SRC_SEQs, and not begun? -/
def Step.heldWrite (t : Step) : Bool := decide (t.wait = .order) && writeClass t.pkt.opcode

/-- The end of a pair: its entry goes, and its held writes are discarded without an answer. -/
def State.freePair (src h : Nat) (s : State) : State :=
  s.modTx fun x => { x with
    pairs := x.pairs.filter fun p => !(p.src == src && p.comp == h)
    steps := x.steps.keep fun _ t => !(t.comp == h && t.pkt.hdr.src == src && t.heldWrite) }

/-- Operations a member has submitted stop reporting: waiting ones are discarded, of the others every OP_RESULT is (R293). -/
def State.silence (h lport node : Nat) (s : State) : State :=
  let mine (x : Op) : Bool := x.comp == h && x.hdr.src == node && x.hdr.lport == lport
  let waiting := (s.work.ops.filter fun q => mine q.2 && decide (q.2.phase = .waiting)).map Prod.fst
  let s := waiting.foldl (fun s o => s.removeOp o) s
  let hush (q : Contrib) : Contrib := if q.hdr.any fun g => g.src == node && g.lport == lport then { q with mute := true } else q
  let one (x : Op) : Op :=
    if x.comp ≠ h then x
    else if !x.contribs.isEmpty then { x with contribs := x.contribs.map hush }
    else if mine x then { x with mute := true }
    else x
  s.modWork fun w => { w with ops := w.ops.each fun _ x => one x }

/-- The agents of a port in the domains of a composition: domain and index. -/
def State.agentsAt (s : State) (h lport node : Nat) : List (Nat × Nat) :=
  s.coh.flatMap fun d =>
    if d.2.comp = h then (d.2.agents.filter fun a => a.2.lport == lport && a.2.node == node).map fun a => (d.1, a.1) else []

/-- Unbind a port, its coherence agents apart: requests from it get ST_NOT_BOUND from now on. -/
def State.unbind (h lport : Nat) (s : State) : State :=
  match (s.comp h).bind fun c => c.members.find? fun m => m.lport == lport with
  | none => s
  | some m =>
    let s := s.modComp h fun c => { c with members := c.members.filter fun m => m.lport != lport }
    let s := s.silence h lport m.node
    let s := if (s.comp h).any fun c => c.members.any fun y => y.node == m.node then s else s.freePair m.node h
    s.modTx fun x => { x with tracks := x.tracks.filter fun t => !(t.lport == lport && t.comp == h) }

/-- Reclaim the lines of the agents behind a port (R220). -/
def State.reclaimPort (h lport node : Nat) (s : State) : State :=
  (s.agentsAt h lport node).foldl (fun s a => (s.reclaimAgent a.1 a.2).1) s

/-- Unbind every member, reclaiming the lines of their agents. -/
def State.unbindAll (h : Nat) (s : State) : State :=
  (((s.comp h).map Comp.members).getD []).foldl (fun s m => (s.unbind h m.lport).reclaimPort h m.lport m.node) s

/-! ### The end of a composition's work (R288, R299) -/

/-- The composition's context ends on every press: chains are abandoned as in R106, and the scrub of Table PS-10 runs. -/
def State.endContexts (h : Nat) (s : State) : State :=
  (s.presses.filter fun p => p.2.ctx == some h).foldl (fun s p =>
    if p.2.state = .lit then ((s.abandon p.1 .parked).beginScrub p.1 .switching).modPress p.1 fun q => { q with ctx := none }
    else (s.abandon p.1 .parked).modPress p.1 fun q => { q with ctx := none }) s

/-- Every operation of a composition ends without an OP_RESULT, and its jobs have no step open any more. -/
def State.dropOps (h : Nat) (s : State) : State :=
  let ops := (s.work.ops.filter fun q => q.2.comp == h).map Prod.fst
  let s := ops.foldl (fun s o => s.removeOp o) s
  let jobs := (s.work.jobs.filter fun q => q.2.comp == h).map Prod.fst
  let s := s.modWork fun w => { w with
    jobs := w.jobs.each fun _ j => if j.comp = h then { j with openSteps := 0 } else j
    early := w.early.filter fun e => e.1 != h }
  jobs.foldl (fun s j => s.closeJob j) s

/-- An ACTIVE or SEALED extent of a composition whose lease has run out becomes HELD: its clean T0 leaves are dropped, its
dirty ones written back in the background (R62). A seal that was running fails with ST_EXTENT_BUSY (log entry 31). -/
def State.holdExtent (e : Nat) (s : State) : State :=
  match s.extent e with
  | none => s
  | some x =>
    if x.state ≠ .active ∧ x.state ≠ .sealed then s
    else
      let s := match x.sealer with
        | some (sess, seq) => s.reply { session := sess, seq := seq, badItem := none } 0x2004 St.EXTENT_BUSY []
        | none => s
      let s := s.modExtent e fun x => { x with
        state := .held
        sealer := none
        chunks := x.chunks.each fun _ c => { c with t0 := c.t0.keep fun _ f => f.dirty } }
      let s := s.modPool fun p => { p with
        moves := p.moves.filter fun m => !(m.extent == e && decide (m.kind = .promote))
        background := p.background.filter fun b => !(b.extent == e && decide (b.kind = .promote)) }
      s.writeBackExtent e .evict

/-- The lease of a composition runs out (R288). -/
def State.expireComp (h : Nat) (s : State) : State :=
  let s := (s.modComp h fun c => { c with state := .expired }).unbindAll h
  let s := (s.extentsOf h).keys.foldl (fun s e => s.holdExtent e) s
  let s := s.modTx fun x => { x with steps := x.steps.keep fun _ t => !(t.comp == h && t.heldWrite) }
  let s := (s.endContexts h).dropOps h
  (s.occur Ev.COMP_LEASE_EXPIRED h (((s.comp h).map Comp.compId).getD 0)).settle

/-- The lease of a member runs out (R289): the map changes, the port is unbound, and its lines are reclaimed. -/
def State.expireMember (h lport : Nat) (s : State) : State :=
  match (s.comp h).bind fun c => c.members.find? fun m => m.lport == lport with
  | none => s
  | some m =>
    let s := ((s.mapChange h).unbind h lport).reclaimPort h lport m.node
    ((s.bumpComp h Reg.CPCNT_MEMBER_EXPIRED).occur Ev.COMP_MEMBER_EXPIRED h lport).settle

/-- Every request of the previous epoch that has not begun completes with ST_STALE_EPOCH (R292). -/
def State.abortOldEpoch (h : Nat) (s : State) : State :=
  match s.comp h with
  | none => s
  | some c =>
    let steps := (s.tx.steps.filter fun t => t.2.comp == h && t.2.epoch != c.epoch && t.2.decided.isNone).map Prod.fst
    let s := steps.foldl (fun s i =>
      s.modStep i fun t => { t with decided := some St.STALE_EPOCH, items := [] }) s
    let grants := s.coh.flatMap fun d =>
      if d.2.comp = h then (d.2.grants.filter fun g => g.pkt.any fun p => p.hdr.epoch != c.epoch % 256).map fun g => (d.1, g) else []
    let s := grants.foldl (fun s q =>
      let s := s.modDom q.1 fun d => { d with grants := d.grants.map fun g => if g.id = q.2.id then { g with pkt := none } else g }
      match q.2.pkt with
      | some p => s.respond p.opcode p.hdr St.STALE_EPOCH []
      | none => s) s
    let n := steps.length + grants.length
    ((s.bumpCompBy h Reg.CPCNT_WINDOW_ABORTS n).bumpCompBy h Reg.TX_CNT_STALE_EPOCH n).settle

/-! ### Records -/

/-- The meter record of Table CP-5. -/
def State.meterRecord (s : State) (h : Nat) (final : Bool) : List Byte :=
  match s.comp h with
  | none => []
  | some c =>
    let m := c.meters
    leBytes 2 c.compId ++ leBytes 1 h ++ leBytes 1 (2 * b2n final + b2n s.clk.ppsLocked) ++ leBytes 4 0
      ++ [s.clk.timeNs, m.createdNs, m.resident, m.press, m.lane / 1000, m.t0Frame / 1000000, m.t1Chunk / 1000000,
          m.t2Sheaf / 1000000000, m.furrow].flatMap (leBytes 8) ++ leBytes 16 0

/-- Is a register per composition (R375)? -/
def perCompReg (a : Nat) : Bool :=
  perComp a || (match regKind a with
    | some (.ctr .comp) | some (.lo .comp) | some (.hi .comp) => true
    | _ => false)

/-- The blocks whose per-composition registers COMP_STATS covers, in address order. -/
def statBlocks : List Nat := [0x8, 0xA, 0xC, 0xD, 0xE, 0xF, 0x10, 0x13, 0x14, 0x15]

/-- A register as COMP_STATS reports it: a _HI register shows the value itself, not a latch. -/
def State.statValue (s : State) (a : Nat) : Nat :=
  match regKind a with
  | some (.hi sc) => s.ctrValue sc (a - 4) / 2 ^ 32
  | _ => s.readValue a

/-- The register list of COMP_STATS for one composition (R375). -/
def State.statRegs (s : State) (h : Nat) : List (Nat × Nat) :=
  statBlocks.flatMap fun b =>
    let s := s.setReg (b * 0x40000 + 0x20) h
    (List.range 0x40).filterMap fun i =>
      let a := b * 0x40000 + 4 * i
      if perCompReg a then some (a, s.statValue a) else none

/-- The registers of its coherence domains, each group after an entry that names the domain. -/
def State.statDomains (s : State) (h : Nat) : List (Nat × Nat) :=
  (s.coh.filter fun d => d.2.comp == h).flatMap fun d =>
    let s := s.setReg Reg.COH_DOM_SEL d.1
    (0xFFFFFFFF, d.1) :: (List.range 15).map fun i => (0x2C0024 + 4 * i, s.statValue (0x2C0024 + 4 * i))

/-- Depth bins, delay bins and SW_Q_DEPTH_MAX of the 16 queues of each member port. -/
def State.statQueues (s : State) (c : Comp) : List Nat :=
  c.members.flatMap fun m => match s.links.look m.lport with
    | none => []
    | some l => (List.range 16).flatMap fun q =>
      let x := l.queue q
      (List.range 16).map (fun i => x.depthHist.num i) ++ (List.range 16).map (fun i => x.delayHist.num i)
        ++ [min x.depthMax 0xFFFFFFF]

/-- Nothing of a composition is left when its handle is freed (R299). -/
def State.freeHandle (h : Nat) (s : State) : State :=
  let s := { s with
    comps := s.comps.del h
    coh := s.coh.keep fun _ d => d.comp != h
    tx := { s.tx with
      pairs := s.tx.pairs.filter fun p => p.comp != h
      steps := s.tx.steps.keep fun _ t => t.comp != h
      tracks := s.tx.tracks.filter fun t => t.comp != h
      fences := s.tx.fences.filter fun f => f.comp != h }
    sw := { s.sw with ovfHeld := s.sw.ovfHeld.filter (· != h) }
    pool := { s.pool with xlat := s.pool.xlat.filter fun q => q.2.1 != h }
    work := { s.work with
      groups := s.work.groups.keep fun _ g => g.comp != h
      jobs := s.work.jobs.keep fun _ j => j.comp != h }
    nirod := { s.nirod with sessions := s.nirod.sessions.each fun _ x => if x.comp = h then { x with comp := 256 } else x } }
  if s.comps.isEmpty ∧ s.dev.state = .serving then s.enter .ready else s

end Sys2Proof.Machine
end

