-- ==== Sys2Proof/Machine/Presses.lean ====
section
/-! DEFINITION. The presses' own events (chapters 04, 07, 15): seeds, the drill, chains and verdicts, tie-breaks, contexts,
sweeps, parity, resets, and a press going fallow and waking; and the step ledger's write. -/

namespace Sys2Proof.Machine

/-! ### Seeds -/

/-- May a WAITING seed become ACTIVE: its SEED_DONE dependencies have reached the press, and a reduce instance's final seed
sees every contribution (R93, R116)? -/
def State.seedEligible (s : State) (z : Seed) : Bool :=
  decide (z.state = .waiting) && z.deps.all z.met.contains
    && (decide (z.kind ≠ .final) || (s.opOf z).all fun x => (redMissing x).isEmpty)

/-- SEED_ACTIVATE: the press takes a context if it has none, leaves one that has no seed left here when another waits (not
one in EVEN_FURROW, R243), or makes the oldest eligible seed ACTIVE (R93, R105). -/
def execSeedActivate (press : Nat) (s : State) : Out :=
  .next <|
    match s.presses.look press with
    | none => s
    | some p =>
      if p.state ≠ .lit then s
      else
        let s := match p.ctx, s.nextCtx press with
          | none, some c => s.startCtx press c
          | _, _ => s
        match (s.presses.look press).bind Press.ctx with
        | none => s
        | some c =>
          let mine := s.pressSeeds press fun z => z.comp == c && !z.state.ended
          if mine.isEmpty ∧ (s.nextCtx press).isSome ∧ !(s.comp c).any Comp.furrow then s.beginScrub press .switching
          else if 4096 ≤ s.activeOn press then s
          else match s.oldest (mine.filter fun q => s.seedEligible q.2) with
            | none => s
            | some (i, _) =>
              (s.modSeed i fun z => { z with
                state := .active
                activateNs := if z.activateNs = 0 then s.clk.timeNs else z.activateNs }).askNext i

/-- SEED_COMPLETION_RECEIVE: the completion of a seed reaches another press with seeds that depend on it (R93). -/
def execSeedCompletionReceive (press op index : Nat) (s : State) : Out :=
  .next <|
    if s.work.seeds.vals.any fun z => z.op == op && z.index == index && decide (z.state = .done) then s.meetDeps press op index
    else s

/-- DRILL_LEAF_ARRIVE: the next leaf of a seed lands in a drill slot (R97): a poisoned one as POISON (R96), a block after
its checks (R172). -/
def execDrillLeafArrive (seed : Nat) (answer : Answer) (s : State) : Out :=
  .next <|
    match s.work.seeds.look seed with
    | none => s
    | some z =>
      match z.leaves[z.fetched]?, s.opOf z with
      | some r, some o =>
        match s.extent r.extent with
        | none => s
        | some x =>
          let lit := (s.presses.look z.press).any fun p => decide (p.state = .lit)
          let ls := s.refLeaves z r
          let slot := x.vq && match z.kind with
            | .span _ _ => true
            | _ => false
          if z.state ≠ .active ∨ !lit ∨ z.refetch.isSome ∨ !s.hasLane seed z then s
          else if (if slot then x.poison.has r.leaf else x.leafPoisoned r.leaf) then s.leafIn seed true
          else if !(ls.all fun l => s.leafReady o.alt r.extent l false) then s
          else
            let s := ls.foldl (fun s l => s.touch r.extent l) s
            let forced := if o.alt then none else ls.find? fun l => !x.inT0 l && s.ft.forcedUe.contains (r.extent, l)
            let read := ls.filter fun l => x.inT0 l || !(s.itemsFor x l false).isEmpty
            let bad := forced.orElse fun _ => if answer = .uncorrectable then read.head? else none
            match bad with
            | some l =>
              let s := if forced.isSome then s.modFt fun f => { f with forcedUe := f.forcedUe.erase (r.extent, l) } else s
              let s := s.drillError seed r.extent l x forced.isSome
              if (s.extent r.extent).any fun y => if slot then y.poison.has r.leaf else y.leafPoisoned r.leaf then s.leafIn seed true
              else s
            | none =>
              match (if slot then s.slotFault r.extent x r.leaf else none) with
              | some f => s.blockFaulty seed r.extent r.leaf x f
              | none => ls.foldl (fun s l => s.arrived r.extent l) (s.leafIn seed false)
      | _, _ => s

/-- Seeds held for the same faulty block share one recovery (R173). -/
def State.heldFor (s : State) (e k : Nat) : List Nat :=
  (s.work.seeds.filter fun q => q.2.refetch == some k && (q.2.leaves[q.2.fetched]?).any fun r => r.extent == e).map Prod.fst

/-- BLOCK_REFETCH_DONE: the copy of a faulty block passes and overwrites it, or no copy does and the slot is poisoned with
the mark of the fault (R173). `copy` is the last copy tried. -/
def execBlockRefetchDone (seed : Nat) (copy : List Byte) (s : State) : Out :=
  .next <|
    match s.work.seeds.look seed with
    | none => s
    | some z =>
      match z.refetch, z.leaves[z.fetched]? with
      | some k, some r =>
        match s.extent r.extent with
        | none => s
        | some x =>
          let n := fetchSize x.slotLines
          let held := s.heldFor r.extent k
          let b := copy.take n ++ List.replicate (n - copy.length) 0
          match blockCheck b n (s.codebook x.comp) with
          | none =>
            let s := (s.writePool r.extent (k * x.slotLines * 128) b).bumpComp x.comp Reg.VCNT_REFETCH_OK
            held.foldl (fun s i => s.leafIn i false) s
          | some _ =>
            let mk := ((s.slotFault r.extent x k).map faultMark).getD .blockFormat
            held.foldl (fun s i => s.leafIn i true) (s.poisonUnit r.extent k mk)
      | _, _ => s

/-- CODEBOOK_LOAD_DONE: a codebook that a pass of the current context waits for is in the press's store (R168). -/
def execCodebookLoadDone (press cb : Nat) (s : State) : Out :=
  .next <|
    match s.presses.look press with
    | none => s
    | some p =>
      let c := s.ctxOf press
      let wanted := s.work.seeds.vals.any fun z => z.press == press && decide (z.state = .active) && (s.seedCodebooks z).contains cb
      if p.state ≠ .lit ∨ p.store.contains cb ∨ !wanted ∨ (s.codebook c cb).isNone then s
      else (s.modPress press fun p => { p with store := insertAsc cb p.store }).bumpComp c Reg.VCNT_CODEBOOK_LOADS

/-! ### Chains -/

/-- How many tiles of a chain are sampled (R337): all at SAMPLE_N 1, none without a checker, else as the draws fall. -/
def State.samples (s : State) (p : Press) (tiles : Nat) : Nat :=
  if p.fenced.getLsbD 4 ∨ p.mustSweep.getLsbD 4 then 0
  else if s.field Reg.FT_SAMPLE_CFG 12 0 = 1 then tiles
  else s.random % (tiles + 1)

/-- CHAIN_START: a chain starts on the lowest-numbered engine that can take it, once its first leaves have tokens; chains
abandoned at a context switch come first (R98, R107). -/
def execChainStart (press : Nat) (s : State) : Out :=
  .next <|
    match s.presses.look press with
    | none => s
    | some p =>
      let mine := s.pressSeeds press fun z => some z.comp == p.ctx && !z.state.ended && decide (z.chainsStarted < z.chains)
      let first := mine.filter fun q => q.2.resumeFirst
      let ready (z : Seed) : Bool := decide (z.state = .active) && !z.poisoned && (decide (0 < z.fetched) || z.leaves.isEmpty)
      if p.state ≠ .lit ∨ p.expired then s
      else match s.oldest ((if first.isEmpty then mine else first).filter fun q => ready q.2) with
        | none => s
        | some (i, z) =>
          match s.engineFor p z with
          | none => s
          | some e =>
            let n := s.samples p (s.chainTiles z)
            let c : Chain := { engine := e, seed := i, sampled := n, verdicts := 0, stopped := false, replayed := false, injected := false }
            let s := s.modPress press fun p => { p with chains := p.chains ++ [c] }
            (s.modSeed i fun z => { z with chainsStarted := z.chainsStarted + 1 }).drawn

/-- Replace a chain of a press. -/
def State.setChain (n : Nat) (c d : Chain) (s : State) : State :=
  s.modPress n fun p => { p with chains := p.chains.map fun x => if x = c then d else x }

/-- A sampled tile has its verdict of match. -/
def State.tileAgrees (n : Nat) (c : Chain) (s : State) : State :=
  (s.setChain n c { c with verdicts := c.verdicts + 1, stopped := false, injected := false }).modSeed c.seed fun z =>
    { z with tilesSampled := z.tilesSampled + 1 }

/-- VERDICT_READY: the checker's comparison of a sampled tile (R339); a mismatch, or a match that a rehearsal forces to be
one, stops the chain (R341, R356). -/
def execVerdictReady (press engine : Nat) (isMatch : Bool) (s : State) : Out :=
  .next <|
    match s.presses.look press with
    | none => s
    | some p =>
      match p.chains.find? fun c => c.engine == engine && !c.stopped && decide (c.verdicts < c.sampled) with
      | none => s
      | some c =>
        let s := (s.bump Reg.FT_CNT_SAMPLED_LO).modPress press fun p => { p with lastShadow := engine, forceMismatch := false }
        if isMatch ∧ !p.forceMismatch then s.tileAgrees press c
        else (s.setChain press c { c with stopped := true, injected := isMatch && p.forceMismatch }).bump Reg.FT_CNT_MISMATCH

/-- Is there another engine for a tie-break: an unfenced active one of the press, or a lit press of the share (R341)? -/
def State.tieEngine (s : State) (n e c : Nat) : Bool :=
  (List.range 4).any (fun k => k != e && (s.presses.look n).any fun p => !p.fenced.getLsbD k)
    || s.presses.any fun q => q.1 != n && decide (q.2.state = .lit) && q.2.canRun
        && (s.comp c).any fun y => y.pressMask.getLsbD q.1

/-- TIE_BREAK_DONE: the third computation of a tile (R341, Table FT-2). A rehearsal fences nothing (Table FT-7). Where no
engine can take it, the engine and MATRIX_4 are swept. -/
def execTieBreakDone (press engine : Nat) (r : TieResult) (s : State) : Out :=
  .next <|
    match s.presses.look press with
    | none => s
    | some p =>
      match p.chains.find? fun c => c.engine == engine && c.stopped with
      | none => s
      | some c =>
        let other := s.tieEngine press engine (s.ctxOf press)
        if c.injected then s.tileAgrees press c
        else match r with
          | .noEngine =>
            if other then s
            else s.modPress press fun p => { p with mustSweep := p.mustSweep ||| engineBit engine ||| engineBit 4 }
          | .checker => if !other then s else (s.replayChain press c true).fence press engine
          | .engine => if !other then s else (s.tileAgrees press c).fence press 4
          | .neither =>
            if !other then s
            else ((s.replayChain press c true).resetPress press).bump Reg.FT_CNT_UNRESOLVED

/-- CHAIN_COMMIT: the last tile of a chain has ended, with every leaf in, its codebooks loaded and every verdict a match
(R340). -/
def execChainCommit (press engine : Nat) (s : State) : Out :=
  .next <|
    match s.presses.look press with
    | none => s
    | some p =>
      let ready (c : Chain) : Bool := c.engine == engine && !c.stopped && c.verdicts == c.sampled
        && (s.work.seeds.look c.seed).any fun z => z.fetched == z.leaves.length && !z.poisoned && z.refetch.isNone
          && (s.seedCodebooks z).all p.store.contains
      match p.chains.find? ready with
      | none => s
      | some c =>
        let norms := ((s.work.seeds.look c.seed).bind fun z => match z.kind with
          | .encode _ => (s.seedCodebooks z).getLast?
          | _ => none).orElse fun _ => p.norms
        let tiles := ((s.work.seeds.look c.seed).map s.chainTiles).getD 0
        let s := s.modPress press fun p => { p with chains := p.chains.filter (· != c), norms := norms }
        s.modSeed c.seed fun z => { z with
          chainsDone := z.chainsDone + 1
          tilesDone := z.tilesDone + tiles
          engines := z.engines ||| engineBit engine
          resumeFirst := false }

/-- Is a seed's work over: every leaf in and every chain committed? -/
def Seed.worked (z : Seed) : Bool := z.fetched == z.leaves.length && z.chainsDone == z.chains && z.refetch.isNone

/-- SEED_DONE: all chains of a seed have committed (R93). A reduce instance's seeds are done with their blocks (R116). -/
def execSeedDone (seed : Nat) (s : State) : Out :=
  .next <|
    match s.work.seeds.look seed with
    | none => s
    | some z =>
      let lit := (s.presses.look z.press).any fun p => decide (p.state = .lit)
      let reduce := (s.opOf z).any fun x => x.kind.reduces
      if z.state ≠ .active ∨ !lit ∨ reduce ∨ z.poisoned ∨ !z.worked then s else s.doneSeed seed

/-- SEED_FAILED: a seed that met POISON ends FAILED (R96); one that gathers rows or merges records first reads what is
left. -/
def execSeedFailed (seed : Nat) (s : State) : Out :=
  .next <|
    match s.work.seeds.look seed with
    | none => s
    | some z =>
      let all : Bool := match z.kind with
        | .rows _ _ => true
        | _ => false
      if z.state ≠ .active ∨ !z.poisoned ∨ (all ∧ !z.worked) then s
      else match z.kind, s.opOf z with
        -- each head of a PARTIALS operation is withheld by its own records
        | .partials _, some x =>
          let s := s.attendSeed z x
          let s := (s.dropChains seed).modSeed seed fun z => { z with state := .failed, commitNs := s.clk.timeNs }
          s.seedEnds z.op
        | _, _ => s.failSeed seed

/-! ### The step ledger -/

/-- Send the copy of a ledger entry by a STORE of this K9 (R351), numbered as R196 numbers a source's writes. -/
def State.ledgerCopy (o c node addr : Nat) (b : List Byte) (s : State) : State :=
  if node = s.topo.node then s.writeRange c addr b
  else
    let cid := ((s.comp c).map Comp.compId).getD 0
    let line := addr / 128 * 128
    let seq := ((s.tx.tracks.find? fun t => t.lport == 256 && t.dst == node && t.comp == c).map Track.next).getD 0
    let pad := List.replicate (addr - line) 0 ++ b ++ List.replicate (128 - (addr - line) - b.length) 0
    (s.openOwn 4 o fun tag => s.ownPacket 0x02 node cid tag (s.epochByte cid) seq 0 line pad).track 256 node c seq

/-- LEDGER_WRITE_APPLIED: the ledger entry of a step is written to its ring, and its copy sent; without a copy the final
packet goes at once, else when the copy is acknowledged (R351). A write that is lost makes the step's status ST_TIER_LOST. -/
def execLedgerWriteApplied (op : Nat) (lost : Bool) (s : State) : Out :=
  .next <|
    match s.work.ops.look op with
    | none => s
    | some x =>
      if x.phase ≠ .ledger ∨ s.tx.own.vals.any (fun q => q.purpose == 4 && q.object == op) then s
      else match x.job.bind s.work.jobs.look with
        | none => s.sendFinal op
        | some j =>
          let x := if lost then { x with status := St.TIER_LOST, result := noOffset } else x
          let slot := x.stepSeq % j.entries * 64
          let b := s.entryOf x
          let s := (s.modOp op fun _ => x)
          let s := if lost then s.bumpComp x.comp Reg.POOL_CNT_STEPS_TIER_LOST else s.writeRange j.comp (j.ring + slot) b
          match j.copy with
          | none => s.sendRecorded op
          | some (node, addr) =>
            let s := s.ledgerCopy op j.comp node (addr + slot) b
            if node = s.topo.node then s.sendRecorded op else s

/-! ### Parity (R90, R336) -/

/-- SCRATCHPAD_PARITY_ERROR: a read of scratchpad slot `slot` by a port of Table PS-2 finds a parity error and is replayed;
when it fails again the slot is retired, the port's chain is replayed, and a press with more than 64 retired slots is reset. -/
def execScratchpadParityError (press port slot : Nat) (again : Bool) (s : State) : Out :=
  .next <|
    match s.presses.look press with
    | none => s
    | some p =>
      if p.state ≠ .lit ∨ p.retired.contains slot ∨ 1536 ≤ slot ∨ port = 0 ∨ 11 < port then s
      else
        let s := ((s.bumpComp (s.ctxOf press) Reg.PCNT_SP_PARITY).bumpPress press Reg.PRESS_SP_PARITY).bump Reg.FT_CNT_PARITY_REPLAY
        if !again then s
        else
          let s := (s.bump Reg.FT_CNT_PARITY_HARD).modPress press fun p => { p with retired := insertAsc slot p.retired }
          let s := match p.chains.find? fun c => decide (2 ≤ port) && c.engine == port - 2 && !c.stopped with
            | some c => s.replayChain press c false
            | none =>
              match s.oldest (s.pressSeeds press fun z => decide (z.state = .active)) with
              | some (i, z) =>
                ((s.modSeed i fun z => { z with parityReplay := true, fetched := 0 }).modOp z.op fun x =>
                  { x with replayed := true }).askNext i
              | none => s
          if 64 < p.retired.length + 1 then s.resetPress press else s

/-! ### Time sharing (R105 to R108) -/

/-- QUANTUM_EXPIRY: the context's quantum has ended while another waits; it starts no new chain (R106). -/
def execQuantumExpiry (press : Nat) (s : State) : Out :=
  .next <|
    match s.presses.look press with
    | none => s
    | some p =>
      if p.state ≠ .lit ∨ p.ctx.isNone ∨ p.expired ∨ (s.nextCtx press).isNone then s
      else (s.advanceTo (p.quantumNs + s.quantumLen)).modPress press fun p => { p with expired := true }

/-- SWITCH_WINDOW_EXPIRY: 8,512 ARITH cycles (6,809.6 ns) after the expiry, chains still running are abandoned, the seeds
are parked, and the scrub runs (R106). -/
def execSwitchWindowExpiry (press : Nat) (s : State) : Out :=
  .next <|
    match s.presses.look press with
    | none => s
    | some p =>
      if p.state ≠ .lit ∨ !p.expired then s
      else ((s.advanceTo (p.quantumNs + s.quantumLen + 6810)).abandon press .parked).beginScrub press .switching

/-- CONTEXT_SCRUB_DONE: the context with the oldest waiting seed starts (R105, R106); with none, the old one goes on if it
has seeds, else the press holds no context. -/
def execContextScrubDone (press : Nat) (s : State) : Out :=
  .next <|
    match s.presses.look press with
    | none => s
    | some p =>
      if p.state ≠ .switching then s
      else
        let s := s.sizePools press
        match s.nextCtx press with
        | some c => ((s.startCtx press c).bumpComp c Reg.PCNT_CTX_SWITCH).bumpPress press Reg.PRESS_CTX_SWITCHES
        | none =>
          match p.ctx with
          | some c =>
            if (s.pressSeeds press fun z => z.comp == c && !z.state.ended).isEmpty then
              s.modPress press fun p => { p with state := .lit, ctx := none }
            else s.startCtx press c
          | none => s.modPress press fun p => { p with state := .lit }

/-- PRESS_IDLE_TIMEOUT: a lit press with no seed for PRESS_IDLE_US starts its fallow entry with the scrub (R390, R108). -/
def execPressIdleTimeout (press : Nat) (s : State) : Out :=
  .next <|
    if (s.presses.look press).any (fun p => decide (p.state = .lit)) && (s.pressSeeds press fun z => !z.state.ended).isEmpty then
      (s.beginScrub press .scrubbing).modPress press fun p => { p with ctx := none }
    else s

/-- PRESS_FALLOW_DONE: fallow entry ends; a press that was given a seed meanwhile wakes at once (R20). -/
def execPressFallowDone (press : Nat) (s : State) : Out :=
  .next <|
    if (s.presses.look press).any fun p => decide (p.state = .scrubbing) then
      let s := s.modPress press fun p => { p with state := .fallow }
      if (s.pressSeeds press fun z => !z.state.ended).isEmpty then s else s.wakePress press
    else s

/-- PRESS_WAKE_DONE: a waking press is lit, with the pool sizes now configured (R19, R109). -/
def execPressWakeDone (press : Nat) (s : State) : Out :=
  .next <|
    if (s.presses.look press).any fun p => decide (p.state = .waking) then
      (s.sizePools press).modPress press fun p => { p with state := .lit, ctx := none, expired := false }
    else s

/-! ### Sweeps (R347, R348) -/

/-- The engines of a press that are not fenced. -/
def Press.unfenced (p : Press) : BitVec 5 := ~~~p.fenced

/-- SWEEP_PERIOD_START: every engine that is not fenced owes one pass in the new period; a press that stays fallow owes it
at its next wake (R348). -/
def execSweepPeriodStart (s : State) : Out :=
  .next <|
    let s := s.advanceTo (s.ft.periodNs + 1000000000 * s.field Reg.FT_SWEEP_CFG 15 0)
    let s := s.modFt fun f => { f with periodNs := s.clk.timeNs }
    { s with presses := s.presses.each fun _ p => { p with sweepDue := p.unfenced } }

/-- An engine passes a sweep. -/
def State.sweepPass (n e : Nat) (s : State) : State :=
  (s.modPress n fun p => { p with
    mustSweep := p.mustSweep &&& ~~~(engineBit e)
    sweepDue := p.sweepDue &&& ~~~(engineBit e)
    lastPass := p.lastPass.put e s.clk.timeNs }).bump Reg.FT_CNT_SWEEP_PASSES

/-- What follows the sweeps that stand in for a tie-break (R341): a chain whose engine and checker both passed waits for a
press reset, and one whose checker was fenced carries on. -/
def State.settleTies (n e : Nat) (s : State) : State :=
  match s.presses.look n with
  | none => s
  | some p =>
    let open_ := p.chains.filter fun c => c.stopped && (decide (e = 4) || c.engine == e)
      && !p.mustSweep.getLsbD c.engine && !p.mustSweep.getLsbD 4
    if open_.isEmpty then s
    else if p.fenced.getLsbD 4 then open_.foldl (fun s c => s.setChain n c { c with stopped := false, sampled := c.verdicts }) s
    else
      (open_.foldl (fun s c => s.modOp (((s.work.seeds.look c.seed).map Seed.op).getD 0) fun x => { x with replayed := true }) s).resetPress n

/-- SWEEP_PASS_DONE: a sweep pass of an engine that holds no running chain ends (R347). An engine that failed is fenced; one
that was under suspicion when its tie-break was cut short returns to service (R345). -/
def execSweepPassDone (press engine : Nat) (pass : Bool) (s : State) : Out :=
  .next <|
    match s.presses.look press with
    | none => s
    | some p =>
      let must := p.mustSweep.getLsbD engine
      if p.state ≠ .lit ∨ p.fenced.getLsbD engine ∨ !(must || p.sweepDue.getLsbD engine)
          ∨ p.chains.any (fun c => c.engine == engine && !c.stopped) then s
      else
        let tie := p.chains.any fun c => c.stopped && (decide (engine = 4) || c.engine == engine)
        if pass then
          let s := s.sweepPass press engine
          let s := if must ∧ !tie then s.bump Reg.FT_CNT_UNRESOLVED else s
          if must then s.settleTies press engine else s
        else
          let s := (s.bump Reg.FT_CNT_SWEEP_FAIL).fence press engine
          if must then s.settleTies press engine else s

/-! ### Resets (R342) -/

/-- PRESS_RESET (0xF003). -/
def execPressReset (c : Ctx) (press : Nat) (s : State) : Out :=
  .next <| nirod (.pressReset c press) c (Cmd.f 0xF003 Legal.LM) Target.none (fun s =>
    match s.presses.look press with
    | none => invalid 0 s
    | some p =>
      let s := if p.state = .resetting then s else s.resetPress press
      wait (s.modPress press fun p => { p with resetter := p.resetter ++ [(c.session, c.seq)] })) s

/-- PRESS_RESET_DONE: the scrub, the reload of the microcode and the sweep of all five engines have ended (R342, R310): the
press is LIT again, or OFFLINE when its microcode does not match or no active engine is left. -/
def execPressResetDone (press : Nat) (microOk : Bool) (failed : BitVec 5) (s : State) : Out :=
  .next <|
    match s.presses.look press with
    | none => s
    | some p =>
      if p.state ≠ .resetting then s
      else
        let s := (List.range 5).foldl (fun s e =>
          if failed.getLsbD e then (s.bump Reg.FT_CNT_SWEEP_FAIL).setFence press e else s.sweepPass press e) s
        let s := s.modPress press fun q => { q with retired := [], resetter := [], quantumNs := s.clk.timeNs }
        let s := if microOk then s else s.occur Ev.SE_MICROCODE_MISMATCH press 0
        let s := if microOk ∧ (s.presses.look press).any Press.canRun then
            (s.sizePools press).modPress press fun q => { q with state := .lit }
          else s.goOffline press
        p.resetter.foldl (fun s r => s.reply { session := r.1, seq := r.2, badItem := none } 0xF003 St.OK []) s

/-- FT_UNFENCE (0xF001): the engine is swept, and unfenced only if it passes (R344). -/
def execFtUnfence (c : Ctx) (press engine : Nat) (sweepOk : Bool) (s : State) : Out :=
  .next <| nirod (.ftUnfence c press engine sweepOk) c (Cmd.f 0xF001 Legal.LM) Target.none (fun s =>
    match s.presses.look press with
    | none => invalid 0 s
    | some _ =>
      if 5 ≤ engine then invalid 1 s
      else if sweepOk then
        let s := (s.sweepPass press engine).modPress press fun p => { p with fenced := p.fenced &&& ~~~(engineBit engine) }
        ok [.num 1] (s.modPress press fun p => if p.state = .offline ∧ p.canRun then { p with state := .fallow } else p)
      else ok [.num 0] (s.bump Reg.FT_CNT_SWEEP_FAIL)) s

end Sys2Proof.Machine
end

