-- ==== Sys2Proof/Machine/FwOps.lean ====
section
/-! DEFINITION. Resets, the boot sequencer and the boot journal (R400 to R406), the unit switches of an activation
(Table FW-6), the revert (R415) and the measurement blocks (R308, Table SE-2). -/

namespace Sys2Proof.Machine

/-! ### Banks and manifests (R397, R398) -/

/-- Put an image bank. -/
def State.setBank (n : Nat) (b : Bank) (s : State) : State :=
  s.modFw fun f => if n = 0 then { f with bank0 := b } else { f with bank1 := b }

/-- The inactive bank. -/
def State.otherBank (s : State) : Nat := 1 - s.activeBank

/-- A component's largest SIZE (Table FW-2). -/
def sizeLimit : Nat → Nat
  | 1 => 33554432
  | 2 => 8388608
  | 3 => 4194304
  | 4 => 2097152
  | 5 => 8388608
  | _ => 0

/-- Table FW-1: format, reserved fields, and SIZE within Table FW-2. -/
def Manifest.wellFormed (m : Manifest) : Bool :=
  m.magic == 0x4B394D46 && m.version == 1 && m.count == 5 && decide (m.svn ≤ 255) && m.resvZero && m.bytes == 4116
    && (m.comps.map Component.ctype == [1, 2, 3, 4, 5])
    && m.comps.all fun c => c.resvZero && decide (1 ≤ c.size ∧ c.size ≤ sizeLimit c.ctype)

/-- R398: is a manifest valid? -/
def Manifest.valid (m : Manifest) : Bool :=
  m.signerId == m.pkDigest && m.signerId == Config.firmwareAuthority && m.sigOk

/-- Is a component of a bank complete? -/
def Bank.complete (b : Bank) (c : Component) : Bool := ((b.images.look c.ctype).getD []).length == c.size

/-- Does a component's image match its digest? -/
def Bank.matchesDigest (b : Bank) (c : Component) : Bool :=
  Config.sha3 (((b.images.look c.ctype).getD []).map Prod.snd) == c.digest

/-- May a bank be booted in place of one that failed (R405)? -/
def State.bankBootable (s : State) (n : Nat) : Bool :=
  match (s.bankOf n).manifest with
  | none => false
  | some m => Manifest.valid m && decide (s.fw.rollback ≤ m.svn)
      && m.comps.all fun c => (s.bankOf n).complete c && (s.bankOf n).matchesDigest c

/-! ### The journal (R404) -/

/-- PATH of a step in this boot: 2 SKIPPED, 3 OTHER_BANK for steps 3 and 4, 1 ALTERNATE, else 0 NORMAL. -/
def State.pathOf (s : State) (step : Nat) : Nat :=
  if s.fw.skipped.getLsbD step then 2
  else if s.fw.alternate.getLsbD step then (if step = 3 ∨ step = 4 then 3 else 1)
  else 0

/-- Write a journal entry; the ring keeps 4,096. -/
def State.journal (step path outcome unit detail : Nat) (s : State) : State :=
  let e : JEntry := { bootCount := s.fw.bootCount, step := step, path := path, outcome := outcome, bank := s.activeBank,
                      unit := unit, elapsedUs := (s.clk.timeNs - s.fw.stepOneNs) / 1000, detail := detail }
  s.modFw fun f => { f with journal := (e :: f.journal).take 4096 }

/-- The entry that a step begins, with its detail. -/
def State.started (n detail : Nat) (s : State) : State :=
  (s.modFw fun f => { f with step := n, stepNs := s.clk.timeNs }).journal n (s.pathOf n) 0 0xFF detail

/-- The step of the previous boot that has a STARTED entry and no outcome (R405). -/
def State.unfinished (s : State) : Option Nat :=
  let prev := s.fw.journal.filter fun e => e.bootCount + 1 == s.fw.bootCount && decide (e.step ≤ 14)
  (prev.find? fun e => e.outcome == 0 && !(prev.any fun q => q.step == e.step && q.outcome != 0)).map JEntry.step

/-! ### Resets -/

/-- The update as the flash keeps it over a reset (R407): a load that was not committed leaves it VERIFIED, a committed
activation waits for its confirmation, and a revert is done once the pointer record names the old bank. -/
def Firmware.settled (f : Firmware) : Firmware :=
  let f := match f.upd with
    | .activating => { f with upd := if f.loading then .verified else .pendingConfirm }
    | .reverting => { f with upd := .idle }
    | _ => f
  { f with loading := false, switching := [], activator := none, confirmBy := none, other := false, romOnly := false,
           alternate := 0, skipped := 0, reverted := false, jrnLatch := none }

/-- A tray slot over a reset: the flash keeps its wear; what no extent owns any more is free, unless the save image
(`kept`) owns it. -/
def Tray.afterReset (kept : Bool) (t : Tray) : Tray :=
  { Tray.reset with
    sbs := t.sbs.each fun _ b => if kept then b else { b with valid := [], moving := if b.moving = 5 then 5 else 0 }
    geom := t.geom
    goodSb := t.goodSb
    reserve := t.reserve
    ratedCycles := t.ratedCycles
    spares := t.spares
    writeSeq := t.writeSeq
    sinceCkpt := t.sinceCkpt
    ckptNs := t.ckptNs
    ckptWhich := t.ckptWhich
    freeSb := t.freeSb
    openWrite := if kept then t.openWrite else .none
    openMove := if kept then t.openMove else .none }

/-- The debug state after a reset (Tables SE-8, SE-9, R330): RETURN stays, every other state becomes SEALED. -/
def DebugState.afterReset : DebugState → DebugState
  | .returning => .returning
  | _ => .sealed

/-- Everything that is not in the package flash, the trays' flash or the AON domain returns to its reset value. `retain`
keeps the event controller's retention registers (R389); `power` is a start from POWERED_OFF. -/
def State.clearAll (retain power : Bool) (s : State) : State :=
  let r := State.reset
  let kept := s.image.isSome && !power
  { r with
    pending := s.pending
    out := s.out
    draws := s.draws
    clk := if power then { r.clk with opRemNs := s.clk.opRemNs } else { s.clk with ppsFirst := true, ppsLocked := false }
    pins := { s.pins with faultLow := false, throttle := 0, throttleAt := none, railsPending := none }
    dev := { r.dev with pausedAt := if kept then s.dev.pausedAt else none, wakeCause := s.dev.wakeCause }
    fw := s.fw.settled
    presses := r.presses.each fun n p => { p with fenced := ((s.presses.look n).map Press.fenced).getD 0 }
    trays := s.trays.each fun _ t => t.afterReset kept
    sw := { r.sw with presets := s.sw.presets }
    sec := { r.sec with
      debugSt := s.sec.debugSt.afterReset
      debugSincePower := s.sec.debugSincePower && !power
      identityGen := s.sec.identityGen
      sealCounter := s.sec.sealCounter }
    rcd := { r.rcd with
      opSeconds := s.rcd.opSeconds
      cycles := s.rcd.cycles
      recs := s.rcd.flash
      flash := s.rcd.flash
      clearLog := s.rcd.clearLog }
    image := if kept then s.image else none
    ev := if retain then { r.ev with sources := s.ev.sources, thresholds := s.ev.thresholds } else r.ev
    csr := if retain then s.csr.keep fun a _ => a == Reg.EVC_CTRL else []
    cnt := if retain then s.cnt.keep fun a _ => decide (Reg.EVC_CTRL ≤ a ∧ a < Reg.EVC_LOCK) else [] }

/-- BOOT starts at step 1 (R400). CLEAR_PATHS takes effect, and a rail recorded by R432 is the first entry's DETAIL. -/
def State.startBoot (deep : Bool) (s : State) : State :=
  let d := s.pins.railDetail.getD 0
  let s := { s with pins := { s.pins with railDetail := none, sleepLow := false } }
  let s := s.modFw fun f => { f with
    bootCount := (f.bootCount + 1) % 2 ^ 32
    stepOneNs := s.clk.timeNs
    fromDeep := deep
    persistent := if f.clearPaths then 0 else f.persistent
    clearPaths := false }
  let s := (s.enter .boot).modDev fun x => { x with coresOn := 1 }
  s.started 1 d

/-- A reset from RESET_N, a rail or DEVICE_RESET: every session, object and register goes, and BOOT starts. -/
def State.resetInto (retain : Bool) (s : State) : State :=
  let deep := s.image.isSome
  (s.clearAll retain false).startBoot deep

/-! ### FAULTED (R371, R406) -/

/-- The device enters FAULTED and asserts FAULT_N. -/
def State.toFaulted (s : State) : State :=
  let s := s.enter .faulted
  { s with pins := { s.pins with faultLow := true } }

/-- The boot ends in FAULTED: at steps 1, 3 and 4 with the boot ROM alone running. -/
def State.bootFaulted (n : Nat) (s : State) : State :=
  s.toFaulted.modFw fun f => { f with romOnly := decide (n = 1 ∨ n = 3 ∨ n = 4) }

/-! ### Boot steps (R400 to R405) -/

/-- Drop the save image: the seal is deleted, its counter advances and the image frames are free (R403). -/
def State.dropImage (s : State) : State :=
  { s with
    image := none
    dev := { s.dev with pausedAt := none }
    trays := s.trays.each fun _ t => { t with sbs := t.sbs.each fun _ b => { b with valid := [] }, relocating := [], programming := [] }
    sec := { s.sec with sealCounter := s.sec.sealCounter + 1 } }

/-- Mark a step as on its alternate; those of steps 5, 6 and 10 persist (R405). -/
def State.takeAlternate (n : Nat) (s : State) : State :=
  let m := BitVec.ofNat 16 (2 ^ n)
  s.modFw fun f => { f with
    alternate := f.alternate ||| m
    persistent := if n = 5 ∨ n = 6 ∨ n = 10 then f.persistent ||| m else f.persistent }

/-- Mark a step as skipped; the skip of step 9 persists. -/
def State.takeSkip (n : Nat) (s : State) : State :=
  let m := BitVec.ofNat 16 (2 ^ n)
  s.modFw fun f => { f with skipped := f.skipped ||| m, persistent := if n = 9 then f.persistent ||| m else f.persistent }

/-- An unconfirmed bank is left (R405): a REVERT entry, the pointer record names the previous bank again, and the boot
restarts at step 1. -/
def State.bootRevert (s : State) : State :=
  let s := (s.modFw fun f => { f with bank := 1 - f.bank, confirmed := true, unconfirmedBoots := 0, upd := .idle, staged := none })
  let s := ((s.journal 0x23 0 1 0xFF 0).bump Reg.FW_CNT_REVERTS).countBoot 15
  (s.modFw fun f => { f with alternate := 0, skipped := 0, reverted := true }).startBoot s.fw.fromDeep

/-- The value of LK_PORT_CFG stored for a port that a boot step applies: one port at a time, on the SPLIT stored for its
FP; REDUCED sets RATE, and single-die mode leaves die 1 out (R401). -/
def State.applyStored (only : Nat → Bool) (s : State) : State :=
  let mine := s.fw.storedPorts.filter fun q => only (bits q.2.toNat 30 29) && (!s.dev.singleDie || decide (q.1 < 128))
  let fps := (mine.map fun q => q.1 / 8).eraseDups
  let s := fps.foldl (fun s fp =>
    let n := match s.fw.storedPorts.look (8 * fp) with
      | some w => bits w.toNat 28 27
      | none => 0
    if ((s.links.look (8 * fp)).map fun l => splitOfWidth l.width) == some n then s else s.setSplit fp n) s
  mine.foldl (fun s q =>
    let v := q.2.toNat
    (s.modPort q.1 fun l => { l with
      role := Role.ofCode (bits v 30 29)
      trayIndex := bits v 22 18
      fecLow := bit v 26
      crypt := bit v 25
      fallowEn := bit v 24
      reduced := bit v 23 || s.fw.alternate.getLsbD 10 }).setEnable q.1 (bit v 31)) s

/-- Step 12's work: compositions, extents, KV objects, reduce groups, coherence domains and codebooks return as they were,
leases resume, and PIN_HOT ranges are fetched again in the background (R394). -/
def State.restoreImage (s : State) : State :=
  match s.image with
  | none => s
  | some i =>
    let s := { s with
      comps := i.comps
      pool := i.pool
      fmap := i.fmap
      coh := i.coh
      work := { s.work with groups := i.groups, nextGroup := i.nextGroup }
      image := none }
    let s := s.resumeLeases
    s.pool.extents.foldl (fun s q => q.2.chunks.foldl (fun s c =>
      if c.2.hint = .pinHot then
        (List.range 64).foldl (fun s l =>
          if q.2.written.contains (64 * c.1 + l) then s.queueMove q.1 (64 * c.1 + l) .promote c.2.tray else s) s
      else s) s) s

/-- The boot sweep: one pass on every engine of every press that runs (step 9, R347). -/
def State.bootSweep (s : State) : State :=
  s.presses.foldl (fun s p => (List.range 5).foldl (fun s e =>
    if p.2.fenced.getLsbD e ∨ p.2.state = .offline ∨ (s.dev.singleDie ∧ 4 ≤ p.1) then s else s.sweepPass p.1 e) s) s

/-- What a step that ends well has done. Step 2 reads the rollback counter as the binding SVN and derives the chain key,
which is not derived again in RETURN (R306, Table SE-8). -/
def State.stepEffect (n : Nat) (s : State) : State :=
  if n = 2 then { s with sec := { s.sec with
      identityValid := true
      svn := s.fw.rollback
      chainKey := decide (s.sec.debugSt ≠ .returning) } }
  else if n = 4 then s.modDev fun d => { d with coresOn := if s.dev.singleDie then 0x0F else 0xFF }
  else if n = 5 then
    let single := s.fw.alternate.getLsbD 5
    let s := s.modDev fun d => { d with
      singleDie := single
      bridgeUp := !single
      coresOn := if single then 0x0F else d.coresOn }
    if single then { s with links := s.links.keep fun p _ => decide (p < 128) } else s
  else if n = 9 then s.bootSweep
  else if n = 12 then s.restoreImage
  else s

/-- Step 13 starts: the stored configuration is applied, and enabled ports enter DETECT (R401). -/
def State.startPorts (s : State) : State := (s.started 13 0).applyStored fun _ => true

/-- Start step `n`: its STARTED entry; step 9 is passed over when its skip is in effect, and step 12 runs only after
DEEP_STANDBY, on the bank that entered it (R403). Stored TRAY ports train from step 11, every port from step 13. -/
def State.beginStep (n : Nat) (s : State) : State :=
  if n = 9 ∧ s.fw.skipped.getLsbD 9 then (s.journal 9 2 1 0xFF 0).started 10 0
  else if n = 11 then (s.started 11 0).applyStored fun role => role == 2
  else if n = 12 then
    if !s.fw.fromDeep ∨ s.image.isNone then s.startPorts
    else if s.image.any fun i => i.bank != s.activeBank then ((s.dropImage.takeSkip 12).journal 12 2 1 0xFF 0).startPorts
    else s.started 12 0
  else if n = 13 then s.startPorts
  else s.started n 0

/-- The alternate, skip, other bank, revert or FAULTED that a failed step leads to (R405). `again` runs the step once more
on its alternate; a step found NOT_FINISHED takes it from the start of this boot, and nothing runs yet. -/
def State.stepFailed (n unit : Nat) (again : Bool) (s : State) : State :=
  let rerun (k : Nat) (s : State) : State := if again then s.beginStep k else s
  if n = 2 then
    if again then ({ s with sec := { s.sec with identityValid := false, chainKey := false, svn := s.fw.rollback } }).beginStep 3
    else s
  else if !s.fw.confirmed ∧ 3 ≤ n ∧ n ≤ 13 then s.bootRevert
  else if n = 3 ∨ n = 4 then
    if !s.fw.other ∧ s.bankBootable s.otherBank then
      let s := (s.takeAlternate n).modFw fun f => { f with other := true }
      rerun 3 s
    else s.bootFaulted n
  else if n = 5 then if s.fw.alternate.getLsbD 5 then s.bootFaulted n else rerun 5 (s.takeAlternate 5)
  else if n = 6 then
    if !s.fw.alternate.getLsbD 6 then rerun 6 (s.takeAlternate 6)
    else if again ∧ 4 ≤ unit ∧ unit < 8 ∧ !s.fw.alternate.getLsbD 5 then rerun 6 ((s.takeAlternate 5).stepEffect 5)
    else s.bootFaulted n
  else if n = 8 then
    if again then if unit < 8 then s.modPress unit fun p => { p with state := .offline } else s else s
  else if n = 9 then if again then (s.takeSkip 9).beginStep 10 else s.takeSkip 9
  else if n = 10 then if s.fw.alternate.getLsbD 10 then s.bootFaulted n else rerun 10 (s.takeAlternate 10)
  else if n = 11 then s.modTray unit fun t => { t with state := .absent }
  else if n = 12 then if again then (s.dropImage.takeSkip 12).beginStep 13 else s.dropImage.takeSkip 12
  else if n = 14 then s
  else s.bootFaulted n

/-- Step 3 reads the journal first (R405): the persistent alternates and skips are set, a third boot of an unconfirmed bank
reverts, and an unfinished step of the previous boot gets NOT_FINISHED and counts as failed. -/
def State.readJournal (s : State) : State :=
  let s := s.modFw fun f => { f with
    alternate := f.persistent &&& 0x0460
    skipped := f.persistent &&& 0x0200
    unconfirmedBoots := if f.confirmed then 0 else f.unconfirmedBoots + 1 }
  let found := s.unfinished
  let s := match found with
    | some n => (((s.journal n (s.pathOf n) 3 0xFF 0).bump Reg.FW_CNT_BOOT_FAIL).countBoot n)
    | none => s
  if !s.fw.confirmed ∧ 3 ≤ s.fw.unconfirmedBoots then s.bootRevert
  else match found with
    | some n => s.stepFailed n 0xFF false
    | none => s

/-- READY or SERVING at the end of boot; an unconfirmed bank starts its confirm window (R414). -/
def State.bootComplete (s : State) : State :=
  let s := (s.enter s.activeState).countBoot 0
  if s.fw.confirmed then s
  else s.modFw fun f => { f with
    upd := .pendingConfirm
    confirmBy := some (s.clk.timeNs + 1000000000 * s.field Reg.FW_CONFIRM_CFG 15 0) }

/-- The next step after `n` has ended well. -/
def State.nextStep (n : Nat) (s : State) : State :=
  if n = 14 then s.bootComplete
  else if n = 2 then (s.beginStep 3).readJournal
  else s.beginStep (n + 1)

/-! ### Restarts of management cores (R21) -/

/-- A management core goes down: its events return to PENDING (R387); three restarts within 60 s are a fault (Table
CM-3). -/
def State.restartCore (n : Nat) (s : State) : State :=
  let s := s.targetGone n
  let now := s.clk.timeNs
  let s := s.modDev fun d => { d with
    restarting := d.restarting ||| BitVec.ofNat 8 (2 ^ n)
    restarts := d.restarts.put n (((d.restarts.look n).getD []).filter (fun t => decide (now < t + 60000000000)) ++ [now]) }
  if 3 ≤ ((s.dev.restarts.look n).getD []).length then s.toFaulted else s

/-! ### Unit switches (Table FW-6) -/

/-- Every unit that runs a component, each class in its own order, CORE_0 last. -/
def State.switchUnits (s : State) : List SwUnit :=
  let half := s.dev.singleDie
  ((if half then [1, 2, 3, 0] else [1, 2, 3, 4, 5, 6, 7, 0]).map SwUnit.core)
    ++ ((List.range (if half then 4 else 8)).filter fun n => (s.presses.look n).any fun p => decide (p.state ≠ .offline)).map SwUnit.press
    ++ (List.range (if half then 2 else 4)).map SwUnit.tile
    ++ (List.range (if half then 4 else 8)).map SwUnit.stack
    ++ ((List.range 24).filter fun t => decide ((s.tray t).state ≠ .absent)).map SwUnit.tray

/-- Are two units of one class? -/
def SwUnit.sameClass : SwUnit → SwUnit → Bool
  | .core _, .core _ => true
  | .press _, .press _ => true
  | .tile _, .tile _ => true
  | .stack _, .stack _ => true
  | .tray _, .tray _ => true
  | _, _ => false

/-- The ports of a tile leave UP and retrain (R261, R252). -/
def State.retrainPorts (ps : List Nat) (s : State) : State :=
  ps.foldl (fun s p =>
    if (s.links.look p).any fun l => decide (l.st = .up) || decide (l.st = .fallow) then
      (s.linkDown p).modPort p fun l => { l with st := .detect }
    else s) s

/-- A unit begins to change its image. -/
def State.beginUnit (u : SwUnit) (s : State) : State :=
  match u with
  | .core n => s.restartCore n
  | .press n => if (s.presses.look n).any fun p => decide (p.state = .resetting) || decide (p.state = .offline) then s else s.resetPress n
  | .tile n => s.retrainPorts ((s.links.filter fun q => q.1 / 64 == n).map Prod.fst)
  | .stack n => s.modDev fun d => { d with hbmSr := d.hbmSr ||| BitVec.ofNat 8 (2 ^ n) }
  | .tray n => match (s.tray n).lport with
    | some p => s.retrainPorts [p]
    | none => s

/-- The unit that is switching in each class of a list. -/
def switchHeads (l : List SwUnit) : List SwUnit :=
  l.filter fun u => (l.find? fun v => SwUnit.sameClass u v) == some u

/-- The switch phase begins: the first unit of each class. -/
def State.beginSwitch (s : State) : State :=
  let l := s.switchUnits
  let s := s.modFw fun f => { f with switching := l, loading := false }
  (switchHeads l).foldl (fun s u => s.beginUnit u) s

/-- The device returns to the state it left: READY or SERVING by whether a composition exists, and BOOT where it left
FAULTED (Table CM-3). -/
def State.returnDevice (s : State) : State :=
  let d := if s.dev.resume = .ready ∨ s.dev.resume = .serving then s.activeState else s.dev.resume
  if s.dev.state = .activating then s.enter d else s

/-- Reply to the FW_ACTIVATE that waits. -/
def State.answerActivate (st : Nat) (items : List Item) (s : State) : State :=
  match s.fw.activator with
  | none => s
  | some (i, q) =>
    (s.modFw fun f => { f with activator := none }).reply { session := i, seq := q, badItem := none } 0x7004 st items

/-- A revert starts (R415): the pointer record names the previous bank, and the old images are loaded. -/
def State.startRevert (s : State) : State :=
  let s := if s.dev.state = .activating then s
    else (s.modDev fun d => { d with resume := s.dev.state }).enter .activating
  let s := s.modFw fun f => { f with
    bank := 1 - f.bank
    other := false
    confirmed := true
    unconfirmedBoots := 0
    upd := .reverting
    confirmBy := none
    loading := true
    switching := [] }
  ((s.journal 0x23 0 1 0xFF 0).bump Reg.FW_CNT_REVERTS).countBoot 15

/-- Erase a bank. -/
def State.eraseBank (n : Nat) (s : State) : State := s.setBank n Bank.reset

/-- The revert ends (R415): block 8 records it, the abandoned bank is erased and the update is IDLE. A FW_ACTIVATE that
R413 cut short is answered with a status the spec does not state. -/
def State.endRevert (s : State) : State :=
  let s := (s.eraseBank s.otherBank).modFw fun f => { f with upd := .idle, staged := none, reverted := true, loading := false, switching := [] }
  let s := if s.fw.activator.isSome then (s.answerActivate (s.free % 256) []).drawn else s
  if s.dev.resume = .faulted then s.resetInto false else s.returnDevice

/-- The activation ends (R412, R414). -/
def State.endActivation (s : State) : State :=
  let s := s.modFw fun f => { f with
    upd := .pendingConfirm
    confirmBy := some (s.clk.timeNs + 1000000000 * s.field Reg.FW_CONFIRM_CFG 15 0) }
  s.returnDevice.answerActivate St.OK []

/-- The commit of an activation (R412): the staged bank is active and unconfirmed, the persistent alternates go, and the
recorder is flushed (R418). From FAULTED, BOOT on the new bank takes the place of the switch. -/
def State.commit (s : State) : State :=
  let s := s.modFw fun f => { f with
    bank := 1 - s.activeBank
    other := false
    confirmed := false
    unconfirmedBoots := 0
    persistent := 0 }
  let s := ((s.journal 0x20 0 1 0xFF 0).bump Reg.FW_CNT_ACTIVATIONS).flushRecords
  if s.dev.resume = .faulted then
    ((s.modFw fun f => { f with loading := false }).answerActivate St.OK []).resetInto false
  else s.beginSwitch

/-! ### Measurements (R308, Table SE-2) -/

/-- One measurement block: its index, its content and its flag. -/
structure MBlock where
  index : Nat
  content : List Byte
  flag : Nat
deriving DecidableEq, Repr

/-- Are units running two images side by side (R309)? -/
def State.switchingNow (s : State) : Bool :=
  decide (s.fw.upd = .reverting) || (decide (s.fw.upd = .activating) && !s.fw.loading)

/-- The digest of component `k` of a bank; the images of the factory have digests of their own. -/
def State.componentDigest (s : State) (n k : Nat) : Digest :=
  match (s.bankOf n).manifest with
  | some m => ((m.comps.find? fun c => c.ctype == k).map Component.digest).getD 0
  | none => Config.factoryDigest k

/-- The digest of a bank's manifest. -/
def State.manifestDigest (s : State) (n : Nat) : Digest :=
  match (s.bankOf n).manifest with
  | some m => m.digest
  | none => Config.factoryDigest 6

/-- Two bits of a press in block 0xF0. -/
def Press.unitBits (p : Press) : Nat :=
  match p.state with
  | .resetting => 1
  | .offline => 2
  | _ => 0

/-- Every measurement block, captured in one step, in index order. -/
def State.measurements (s : State) : List MBlock :=
  let now := if s.switchingNow then s.otherBank else s.activeBank
  let flag := if s.switchingNow then 3 else if s.fw.upd = .pendingConfirm then 2 else 0
  let staged : List MBlock :=
    if s.switchingNow then [{ index := 9, content := digestBytes (s.manifestDigest s.activeBank), flag := 3 }]
    else if s.fw.upd = .verified ∨ s.fw.upd = .activating then
      [{ index := 9, content := digestBytes (s.fw.staged.getD 0), flag := 1 }]
    else []
  [{ index := 0, content := digestBytes Config.romDigest, flag := 0 }]
    ++ ((List.range' 1 5).map fun k => { index := k, content := digestBytes (s.componentDigest now k), flag := flag })
    ++ [{ index := 6, content := digestBytes (s.manifestDigest now), flag := flag },
        { index := 7
          content := leBytes 1 s.sec.debugSt.code ++ leBytes 1 (b2n s.sec.debugSincePower)
            ++ leBytes 1 (s.field Reg.TP_CFG 16 16) ++ leBytes 1 s.sec.svn ++ leBytes 1 s.sec.identityGen
            ++ leBytes 1 (b2n s.sec.identityValid)
          flag := 0 },
        { index := 8
          content := leBytes 2 s.fw.alternate.toNat ++ leBytes 2 s.fw.skipped.toNat ++ leBytes 1 (b2n s.fw.reverted)
          flag := 0 }]
    ++ staged
    ++ [{ index := 0xF0
          content := leBytes 2 (sumOf s.presses fun p => p.2.unitBits * 4 ^ p.1)
            ++ s.presses.flatMap fun p => leBytes 1 p.2.fenced.toNat
          flag := 0 }]

/-- A block as the wire carries it: index, flag, content. -/
def MBlock.bytes (b : MBlock) : List Byte := leBytes 1 b.index ++ leBytes 1 b.flag ++ leBytes 2 b.content.length ++ b.content

end Sys2Proof.Machine
end

