-- ==== Sys2Proof/Machine/Sec.lean ====
section
/-! DEFINITION. Security, confidentiality and debug (R305 to R332): SPDM, binding keys and records, import and export,
the debug states, the re-key of an extent's MAC, and the fabric-manager keys (R365). -/

namespace Sys2Proof.Machine

/-! ### Attestation (R307 to R311). A reply's first item is the SPDM response code (log entry 33). -/

abbrev Spdm.DIGESTS : Nat := 0x01
abbrev Spdm.CERTIFICATE : Nat := 0x02
abbrev Spdm.CHALLENGE_AUTH : Nat := 0x03
abbrev Spdm.VERSION : Nat := 0x04
abbrev Spdm.MEASUREMENTS : Nat := 0x60
abbrev Spdm.CAPABILITIES : Nat := 0x61
abbrev Spdm.ALGORITHMS : Nat := 0x63
abbrev Spdm.KEY_EXCHANGE_RSP : Nat := 0x64
abbrev Spdm.FINISH_RSP : Nat := 0x65
abbrev Spdm.HEARTBEAT_ACK : Nat := 0x68
abbrev Spdm.KEY_UPDATE_ACK : Nat := 0x69
abbrev Spdm.END_SESSION_ACK : Nat := 0x6C
abbrev Spdm.ERROR : Nat := 0x7F
abbrev Spdm.INVALID_REQUEST : Nat := 0x01
abbrev Spdm.BUSY : Nat := 0x03

/-- SEC_SPDM (0x5001), which carries every SPDM message: any session, legal in BOOT and in every later state. -/
def spdmCmd : Cmd := Cmd.any 0x5001 Legal.A

/-- An SPDM ERROR response; no state changes. -/
def spdmError (code : Nat) (s : State) : Res := ok [.num Spdm.ERROR, .num code] s

/-- An attestation request: ST_NO_IDENTITY while no identity is valid (R305). -/
def attest (f : State → Res) (s : State) : Res := if s.sec.identityValid then f s else fail St.NO_IDENTITY s

/-- The digest of the certificate chain. -/
def State.chainDigest (s : State) : Digest := Config.sha3 (Config.certificate s.sec.identityGen)

/-- A DIK signature. -/
def State.sign (s : State) (b : List Byte) : Item := .bytes (Config.dikSign s.sec.identityGen b)

/-- SPDM GET_VERSION. -/
def execSpdmGetVersion (c : Ctx) (s : State) : Out :=
  .next <| nirod (.spdmGetVersion c) c spdmCmd Target.none (fun s => ok [.num Spdm.VERSION] s) s

/-- SPDM GET_CAPABILITIES. -/
def execSpdmGetCapabilities (c : Ctx) (s : State) : Out :=
  .next <| nirod (.spdmGetCapabilities c) c spdmCmd Target.none (fun s => ok [.num Spdm.CAPABILITIES] s) s

/-- SPDM NEGOTIATE_ALGORITHMS: ERROR where the two have no algorithm in common (R307). -/
def execSpdmNegotiateAlgorithms (c : Ctx) (common : Bool) (s : State) : Out :=
  .next <| nirod (.spdmNegotiateAlgorithms c common) c spdmCmd Target.none (fun s =>
    if common then ok [.num Spdm.ALGORITHMS] s else spdmError Spdm.INVALID_REQUEST s) s

/-- SPDM GET_DIGESTS. -/
def execSpdmGetDigests (c : Ctx) (s : State) : Out :=
  .next <| nirod (.spdmGetDigests c) c spdmCmd Target.none (attest fun s =>
    ok [.num Spdm.DIGESTS, .digest s.chainDigest] s) s

/-- SPDM GET_CERTIFICATE. -/
def execSpdmGetCertificate (c : Ctx) (s : State) : Out :=
  .next <| nirod (.spdmGetCertificate c) c spdmCmd Target.none (attest fun s =>
    ok [.num Spdm.CERTIFICATE, .bytes (Config.certificate s.sec.identityGen)] s) s

/-- SPDM CHALLENGE: signed with the DIK over the requester's nonce. -/
def execSpdmChallenge (c : Ctx) (nonce : Digest) (s : State) : Out :=
  .next <| nirod (.spdmChallenge c nonce) c spdmCmd Target.none (attest fun s =>
    ok [.num Spdm.CHALLENGE_AUTH, .digest s.chainDigest, s.sign (digestBytes nonce ++ digestBytes s.chainDigest)] s) s

/-- SPDM GET_MEASUREMENTS: every block of Table SE-2 of one moment, signed over the requester's nonce (R308). -/
def execSpdmGetMeasurements (c : Ctx) (nonce : Digest) (s : State) : Out :=
  .next <| nirod (.spdmGetMeasurements c nonce) c spdmCmd Target.none (attest fun s =>
    let b := s.measurements.flatMap MBlock.bytes
    ok [.num Spdm.MEASUREMENTS, .bytes b, s.sign (digestBytes nonce ++ b)] (s.bump Reg.SE_CNT_ATTEST)) s

/-- A secure session after KEY_EXCHANGE: not finished, not bound (R311, R363, R364). -/
def newSession (idleS now : Nat) : Session where
  signer := none
  cls := none
  comp := 256
  compId := 0
  partBytes := 1152
  high := 0
  recorded := []
  cache := []
  running := []
  nonceExt := 0
  lastCmdNs := now
  idleS := idleS
  snaps := []
  nextSnap := 1
  rxMsgs := 0
  txMsgs := 0
  exportSeq := 0
  importSeq := 0

/-- SPDM KEY_EXCHANGE: a secure session starts, signed with the DIK; Busy at 64 sessions (R311). -/
def execSpdmKeyExchange (c : Ctx) (s : State) : Out :=
  .next <| nirod (.spdmKeyExchange c) c spdmCmd Target.none (fun s =>
    if 64 ≤ s.nirod.sessions.length then spdmError Spdm.BUSY s
    else
      let i := s.nirod.nextSession
      let x := newSession (s.field Reg.CM_SESSION_CFG 15 0) s.clk.timeNs
      ok [.num Spdm.KEY_EXCHANGE_RSP, .num i, s.sign (leBytes 4 i)]
        (s.modNirod fun n => { n with sessions := n.sessions.put i x, nextSession := i + 1 })) s

/-- A request on a secure session that exists and is finished, or ERROR. -/
def onSession (i : Nat) (finished : Bool) (f : State → Res) (s : State) : Res :=
  match s.nirod.sessions.look i with
  | none => spdmError Spdm.INVALID_REQUEST s
  | some x => if x.signer.isSome == finished then f s else spdmError Spdm.INVALID_REQUEST s

/-- SPDM FINISH: the session's key is the one that signed; a signature that does not verify ends the exchange (R311). -/
def execSpdmFinish (c : Ctx) (spdm : Nat) (sig : Signed) (s : State) : Out :=
  .next <| nirod (.spdmFinish c spdm sig) c spdmCmd Target.none (onSession spdm false fun s =>
    if sig.ok then ok [.num Spdm.FINISH_RSP] (s.modSession spdm fun x => { x with signer := some sig.signer })
    else spdmError Spdm.INVALID_REQUEST ((s.bump Reg.SE_CNT_AUTH_FAIL).endSession spdm)) s

/-- SPDM KEY_UPDATE: one direction starts a new key, and its message count again (R311). -/
def execSpdmKeyUpdate (c : Ctx) (spdm : Nat) (toDevice : Bool) (s : State) : Out :=
  .next <| nirod (.spdmKeyUpdate c spdm toDevice) c spdmCmd Target.none (onSession spdm true fun s =>
    ok [.num Spdm.KEY_UPDATE_ACK] (s.modSession spdm fun x =>
      if toDevice then { x with rxMsgs := 0 } else { x with txMsgs := 0 })) s

/-- SPDM HEARTBEAT. -/
def execSpdmHeartbeat (c : Ctx) (spdm : Nat) (s : State) : Out :=
  .next <| nirod (.spdmHeartbeat c spdm) c spdmCmd Target.none (onSession spdm true fun s => ok [.num Spdm.HEARTBEAT_ACK] s) s

/-- SPDM END_SESSION: the answer is sent, then the session and its Nirod session end (R367). -/
def execSpdmEndSession (c : Ctx) (spdm : Nat) (s : State) : Out :=
  .next <| nirod (.spdmEndSession c spdm) c spdmCmd Target.none (fun s =>
    if s.nirod.sessions.has spdm then
      wait ((s.reply c 0x5001 St.OK [.num Spdm.END_SESSION_ACK]).endSession spdm)
    else spdmError Spdm.INVALID_REQUEST s) s

/-! ### Status, binding keys and manager keys -/

/-- SEC_STATUS (0x5002): debug state, SVN, identity generation and a fresh nonce, which is the latest (R327). -/
def execSecStatus (c : Ctx) (s : State) : Out :=
  .next <| nirod (.secStatus c) c (Cmd.any 0x5002 Legal.A) Target.none (fun s =>
    let n : Digest := BitVec.ofNat 256 s.random
    ok [.num s.sec.debugSt.code, .num s.sec.svn, .num s.sec.identityGen, .digest n]
      (s.drawn.modNirod fun x => { x with nonce := some n })) s

/-- SEC_BINDKEY_GET (0x5003): the binding public key of a level up to the binding SVN, signed by the DIK (R306). Without
a chain key none can be derived. -/
def execSecBindkeyGet (c : Ctx) (level : Nat) (s : State) : Out :=
  .next <| nirod (.secBindkeyGet c level) c (Cmd.any 0x5003 Legal.R) Target.none (attest fun s =>
    if s.sec.svn < level then invalid 0 s
    else if !s.sec.chainKey then fail St.DEBUG_STATE s
    else ok [.bytes (Config.bindingKey level), s.sign (Config.bindingKey level)] s) s

/-- FM_KEY_SET (0x500B): in session 0 while every slot is zero, else from a fabric manager (R365). -/
def execFmKeySet (c : Ctx) (slot : Nat) (digest : Digest) (s : State) : Out :=
  let unclaimed := List.all s.nirod.fmKeys fun (q : Nat × Digest) => decide (q.2 = 0)
  .next <| nirod (.fmKeySet c slot digest) c { Cmd.f 0x500B Legal.BR with open_ := unclaimed && c.session == 0 } Target.none
    (fun s =>
      if 3 < slot then invalid 0 s else ok [] (s.modNirod fun n => { n with fmKeys := n.fmKeys.put slot digest })) s

/-! ### Weight binding (R322, R323) -/

/-- DEVICE_COUNT of a binding record. -/
def brCount (b : List Byte) : Nat := leAt b 5 1

/-- MIN_SVN of a binding record. -/
def brMinSvn (b : List Byte) : Nat := leAt b 6 1

/-- ISSUER_ID of a binding record. -/
def brIssuer (b : List Byte) : Digest := digestOf ((b.drop 40).take 32)

/-- The size of a binding record with n entries (Table SE-5). -/
def brSize (n : Nat) : Nat := 128 + 1168 * n + 1312 + 2420

/-- Are the MAGIC, the version and the reserved fields of a whole record right? -/
def brFormat (b : List Byte) : Bool :=
  leAt b 0 4 == 0x4B395742 && leAt b 4 1 == 1 && leAt b 7 1 == 0 && leAt b 72 56 == 0
    && (List.range (brCount b)).all fun i => leAt b (128 + 1168 * i + 1160) 8 == 0

/-- ISSUER_PK of a record. -/
def brIssuerPk (b : List Byte) : List Byte := (b.drop (128 + 1168 * brCount b)).take 1312

/-- The checks of R323 on a whole record, in order; `none` when all pass. -/
def bindRefused (s : State) (y : Comp) (b : List Byte) (sigOk unwrapOk : Bool) : Option Nat :=
  if !brFormat b then some St.INVALID_PARAM
  else if !sigOk || brIssuer b != Config.sha3 (brIssuerPk b) then some St.BAD_SIGNATURE
  else if brIssuer b ≠ y.ownerId then some St.NOT_AUTHORISED
  else if !((List.range (brCount b)).any fun i =>
      digestOf ((b.drop (128 + 1168 * i)).take 32) == Config.identity s.sec.identityGen) then some St.BINDING_DEVICE
  else if s.sec.svn < brMinSvn b then some St.BINDING_SVN
  else if !unwrapOk || !s.sec.chainKey then some St.BINDING_DEVICE
  else none

/-- Bind a record that has been read. -/
def bindRecord (h : Nat) (y : Comp) (b : List Byte) (sigOk unwrapOk : Bool) (s : State) : Res :=
  match bindRefused s y b sigOk unwrapOk with
  | some st =>
    if st = St.INVALID_PARAM then invalid 1 s
    else fail st (if st = St.BAD_SIGNATURE then s.bump Reg.SE_CNT_AUTH_FAIL else s)
  | none =>
    match y.bindSlots.lowestFree 0 16 with
    | none => fail St.NO_CAPACITY s
    | some k =>
      let slot : BindSlot := { weightDigest := digestOf ((b.drop 8).take 32), imported := [], nextSeq := 0 }
      ok [.num k] (s.modComp h fun y => { y with bindSlots := y.bindSlots.put k slot })

/-- WEIGHT_BIND (0x5004): the record lies in one OPEN extent of the composition. -/
def execWeightBind (c : Ctx) (h addr : Nat) (sigOk unwrapOk : Bool) (s : State) : Out :=
  .next <| nirod (.weightBind c h addr sigOk unwrapOk) c (Cmd.fo 0x5004 Legal.S) (Target.ofComp h) (withComp h fun y s =>
    match s.findExtent h addr 128 with
    | none => fail St.OUT_OF_EXTENT s
    | some (e, off) =>
      match s.extent e with
      | none => fail St.OUT_OF_EXTENT s
      | some x =>
        if x.state = .revoking ∨ x.state = .revoked then fail St.EXTENT_REVOKED s
        else if x.isProtected then invalid 1 s
        else
          let n := brCount (s.readPool e off 128)
          if n < 1 ∨ 64 < n then invalid 1 s
          else if x.size < off + brSize n then fail St.OUT_OF_EXTENT s
          else if x.poisoned off (brSize n) then fail St.TIER_LOST s
          else bindRecord h y (s.readPool e off (brSize n)) sigOk unwrapOk s) s

/-- WEIGHT_UNBIND (0x5005): the slot is free and its weight key destroyed. -/
def execWeightUnbind (c : Ctx) (h slot : Nat) (s : State) : Out :=
  .next <| nirod (.weightUnbind c h slot) c (Cmd.fo 0x5005 Legal.L) (Target.ofComp h) (withComp h fun y s =>
    if 15 < slot then invalid 1 s
    else if !y.bindSlots.has slot then fail St.NOT_FOUND s
    else ok [] (s.modComp h fun y => { y with bindSlots := y.bindSlots.del slot })) s

/-! ### Import and export (R312, R313) -/

/-- ASCII "IMPORT" and "EXPORT". -/
def importLabel : List Byte := [0x49, 0x4D, 0x50, 0x4F, 0x52, 0x54]
def exportLabel : List Byte := [0x45, 0x58, 0x50, 0x4F, 0x52, 0x54]

/-- The name of a session's data key: the session and the label stand for its export master secret (log entry 10). -/
def sessionKey (session : Nat) (label : List Byte) : Digest := Config.sha3 (leBytes 4 session ++ label)

/-- A byte string of exactly n bytes. -/
def fitBytes (n : Nat) (b : List Byte) : List Byte := (b ++ List.replicate n 0).take n

/-- Is the header of a chunk well formed (Table SE-3)? -/
def chunkHeaderOk (b : List Byte) : Bool :=
  leAt b 0 4 == 0x4B394243 && decide (128 ≤ leAt b 8 4 ∧ leAt b 8 4 ≤ 1048576 ∧ leAt b 8 4 % 128 = 0)
    && leAt b 12 4 == 0 && leAt b 28 4 == 0 && leAt b 48 8 % 128 == 0 && leAt b 56 8 == 0

/-- Where an import stands. -/
structure Importing where
  state : State
  /-- offset of the next chunk in the bounce range -/
  off : Nat
  nextSeq : Nat
  /-- plaintext bytes written -/
  written : Nat
  /-- the chunks taken, headers included -/
  taken : List Byte
  /-- ST_OK while no chunk has stopped the import -/
  status : Nat

/-- One chunk of an import, with the verdict of its tag: it is taken whole, or it stops the import. `be`, `bo` and `len`
give the bounce range, `de` the destination, `key` the data key. -/
def importChunk (be bo len de : Nat) (key : Digest) (m : Importing) (tagOk : Bool) : Importing :=
  let s := m.state
  if m.status ≠ St.OK ∨ len ≤ m.off then m
  else match s.extent be, s.extent de with
    | some x, some y =>
      if len < m.off + 64 then { m with status := St.DECRYPT_FAIL }
      else
        let hd := s.readPool be (bo + m.off) 64
        let n := leAt hd 8 4
        let dst := leAt hd 48 8
        if !chunkHeaderOk hd ∨ len < m.off + 64 + n then { m with status := St.DECRYPT_FAIL }
        else if x.poisoned (bo + m.off) (64 + n) then { m with status := St.TIER_LOST }
        else if !tagOk ∨ leAt hd 4 4 < m.nextSeq ∨ y.size < dst + n then { m with status := St.DECRYPT_FAIL }
        else
          let ct := s.readPool be (bo + m.off + 64) n
          let pt := fitBytes n (Config.gcmOpen key ((hd.drop 16).take 12) ct)
          { m with
            state := s.writeBytes de dst pt
            off := m.off + 64 + n
            nextSeq := leAt hd 4 4 + 1
            written := m.written + n
            taken := m.taken ++ hd ++ ct }
    | _, _ => { m with status := St.DECRYPT_FAIL }

/-- A bounce range: an OPEN, PLAIN extent of the composition, and the range's offset in it. -/
def State.bounce (s : State) (h a n : Nat) (writes : Bool) : Nat ⊕ (Nat × Nat) :=
  match s.findExtent h a n with
  | none => .inl St.OUT_OF_EXTENT
  | some (e, off) =>
    match s.extent e with
    | none => .inl St.OUT_OF_EXTENT
    | some x =>
      if x.isProtected ∨ x.vq then .inl St.LAYOUT_MISMATCH
      else if x.state = .revoking ∨ x.state = .revoked then .inl St.EXTENT_REVOKED
      else if writes ∧ x.state ≠ .active then .inl St.READ_ONLY
      else .inr (e, off)

/-- A finished import or export keeps its reply until SEC_IMPORT_EXPORT_DONE. -/
def State.keepIo (c : Ctx) (st : Nat) (items : List Item) (s : State) : State :=
  s.modPool fun p => { p with ioRunning := p.ioRunning ++ [(c.session, c.seq, st, items)] }

/-- Run an import over a bounce range; `slot` is its key source. With a binding slot, the chunks taken under the slot must
make the weight image once the last one is written (R323). -/
def runImport (c : Ctx) (h be bo len de : Nat) (slot : Option Nat) (tags : List Bool) (s : State) : State :=
  let sl : Option BindSlot := slot.bind fun k => (s.comp h).bind fun y => y.bindSlots.look k
  let key := match sl with
    | some b => b.weightDigest
    | none => sessionKey c.session importLabel
  let seq0 := match sl with
    | some b => b.nextSeq
    | none => ((s.nirod.sessions.look c.session).map Session.importSeq).getD 0
  let m0 : Importing := { state := s, off := 0, nextSeq := seq0, written := 0, taken := [], status := St.OK }
  let m := tags.foldl (importChunk be bo len de key) m0
  -- a chunk beyond the verdicts the row carries has no valid tag
  let m := if m.status = St.OK ∧ m.off < len then { m with status := St.DECRYPT_FAIL } else m
  let s := m.state
  match slot, sl with
  | some k, some b =>
    let all := b.imported ++ m.taken
    let s := s.modComp h fun y => { y with bindSlots := y.bindSlots.put k { b with imported := all, nextSeq := m.nextSeq } }
    if m.status = St.DECRYPT_FAIL then (s.bumpComp h Reg.SECNT_DECRYPT_FAIL).keepIo c m.status [.detail Det.DETAIL m.off]
    else if m.status ≠ St.OK then s.keepIo c m.status [.detail Det.DETAIL m.off]
    else if Config.sha3 all ≠ b.weightDigest then (s.bumpComp h Reg.SECNT_DECRYPT_FAIL).keepIo c St.DECRYPT_FAIL [.detail Det.DETAIL m.off]
    else s.keepIo c St.OK [.num m.written]
  | _, _ =>
    let s := s.modSession c.session fun x => { x with importSeq := m.nextSeq }
    if m.status = St.DECRYPT_FAIL then (s.bumpComp h Reg.SECNT_DECRYPT_FAIL).keepIo c m.status [.detail Det.DETAIL m.off]
    else if m.status ≠ St.OK then s.keepIo c m.status [.detail Det.DETAIL m.off]
    else s.keepIo c St.OK [.num m.written]

/-- SEC_IMPORT (0x5006). -/
def execSecImport (c : Ctx) (h bounce len dest : Nat) (slot : Option Nat) (tags : List Bool) (s : State) : Out :=
  .next <| nirod (.secImport c h bounce len dest slot tags) c ⟨0x5006, false, true, false, false, Legal.L, 1, 1⟩
    { Target.ofComp h with extent := some dest } (withComp h fun y s =>
      if len = 0 then invalid 2 s
      else match s.bounce h bounce len false with
        | .inl st => fail st s
        | .inr (be, bo) =>
          withExtent dest (fun x s =>
            if x.comp ≠ h then fail St.NOT_AUTHORISED s
            else if !x.isProtected then fail St.PROTECTION_DOWNGRADE s
            else if x.state = .revoking ∨ x.state = .revoked then fail St.EXTENT_REVOKED s
            else if x.state ≠ .active then fail St.READ_ONLY s
            else if slot.any fun k => !y.bindSlots.has k then fail St.NOT_FOUND s
            else wait (runImport c h be bo len dest slot tags s)) s) s

/-- Where an export stands. -/
structure Exporting where
  state : State
  /-- bytes of the source taken, bytes of the bounce range written, CHUNK_SEQ of the last chunk -/
  taken : Nat
  written : Nat
  seq : Nat

/-- One chunk of an export, of at most 1 MiB. -/
def exportChunk (se so len be bo : Nat) (key : Digest) (m : Exporting) : Exporting :=
  let n := min 1048576 (len - m.taken)
  if n = 0 then m
  else
    let seq := m.seq + 1
    let iv := leBytes 12 seq
    let pt := m.state.readPool se (so + m.taken) n
    let front := leBytes 4 0x4B394243 ++ leBytes 4 seq ++ leBytes 4 n ++ leBytes 4 0 ++ iv ++ leBytes 4 0
    let back := leBytes 8 (so + m.taken) ++ leBytes 8 0
    let ct := Config.gcmSeal key iv (front ++ back) pt
    let b := front ++ fitBytes 16 ct.2 ++ back ++ fitBytes n ct.1
    { state := m.state.writeBytes be (bo + m.written) b
      taken := m.taken + n
      written := m.written + b.length
      seq := seq }

/-- SEC_EXPORT (0x5007). -/
def execSecExport (c : Ctx) (h src len bounce : Nat) (s : State) : Out :=
  .next <| nirod (.secExport c h src len bounce) c ⟨0x5007, false, true, false, false, Legal.L, 1, 1⟩ (Target.ofComp h)
    (withComp h fun _ s =>
      let k := ceilDiv len 1048576
      let seq0 := ((s.nirod.sessions.look c.session).map Session.exportSeq).getD 0
      if len = 0 ∨ len % 128 ≠ 0 then invalid 2 s
      else match s.findExtent h src len with
        | none => fail St.OUT_OF_EXTENT s
        | some (se, so) =>
          withExtent se (fun x s =>
            if x.state = .revoking ∨ x.state = .revoked then fail St.EXTENT_REVOKED s
            else if !x.isProtected ∨ so % 128 ≠ 0 then invalid 1 s
            else match s.bounce h bounce (len + 64 * k) true with
              | .inl st => fail st s
              | .inr (be, bo) =>
                if x.poisoned so len then fail St.TIER_LOST s
                else if 2 ^ 32 ≤ seq0 + k then fail St.NO_CAPACITY s
                else
                  let key := sessionKey c.session exportLabel
                  let m := (List.range k).foldl (fun m _ => exportChunk se so len be bo key m)
                    { state := s, taken := 0, written := 0, seq := seq0 }
                  let s := m.state.modSession c.session fun x => { x with exportSeq := m.seq }
                  wait (s.keepIo c St.OK [.num m.written, .num m.seq])) s) s

/-- SEC_IMPORT_EXPORT_DONE: the oldest import or export that runs has handled its last chunk, and replies. -/
def execSecImportExportDone (s : State) : Out :=
  .next <|
    match s.pool.ioRunning with
    | [] => s
    | (i, q, st, items) :: t =>
      let op := ((s.nirod.sessions.look i).bind fun x => (x.running.find? fun r => r.seq == q).map Running.opcode).getD 0x5006
      (s.modPool fun p => { p with ioRunning := t }).reply { session := i, seq := q, badItem := none } op st items

/-- MAC_REKEY_DONE: every version counter is zero under the new key, the old key is destroyed, and the requests to the
extent go on (R319). -/
def execMacRekeyDone (e : Nat) (s : State) : Out :=
  .next <|
    match s.extent e with
    | none => s
    | some x =>
      if !x.rekeying then s
      else
        let back (t : Step) : Step := if t.extent = e ∧ t.wait = .rekey then { t with wait := .order } else t
        let s := s.modExtent e fun x => { x with macGen := x.macGen + 1, counters := [], rekeying := false }
        (s.modTx fun t => { t with steps := t.steps.each fun _ q => back q }).settle

/-! ### Debug states (R326 to R330) -/

/-- The digest in SE_DEBUG_AUTH slot n. -/
def State.debugKey (s : State) (n : Nat) : Digest :=
  BitVec.ofNat 256 (sumOf (List.range 8) fun k => s.reg (Reg.SE_DEBUG_AUTH + 0x20 * n + 4 * k) * 2 ^ (32 * k))

/-- Does a signer match a debug slot? An all-zero slot matches no key. -/
def State.debugSigner (s : State) (d : Digest) : Bool := decide (d ≠ 0) && (List.range 4).any fun n => s.debugKey n == d

/-- A token's checks but for its signer: signature, device, nonce of the latest SEC_STATUS, expiry (R327, R421). -/
def State.tokenFresh (s : State) (t : Token) : Bool :=
  t.sig.ok && t.device == Config.identity s.sec.identityGen && s.nirod.nonce == some t.nonce
    && decide (s.clk.timeNs ≤ t.expiry)

/-- A token fails a check. -/
def badToken (s : State) : Res := fail St.BAD_SIGNATURE (s.bump Reg.SE_CNT_AUTH_FAIL)

/-- Change the security state. -/
def State.modSec (f : Sec → Sec) (s : State) : State := { s with sec := f s.sec }

/-- Zeroise link keys: every encrypted port needs both of its keys again (R263). -/
def State.dropLinkKeys (s : State) : State :=
  ({ s with links := s.links.each fun _ l => { l with cryptOn := false, rekeying := false } }).announceRoutes

/-- Scrub every press that may hold tenant data (Table PS-10); a fallow press holds none (R331). -/
def State.scrubAll (s : State) : State :=
  s.presses.foldl (fun s q =>
    if q.2.state = .lit then (s.abandon q.1 .parked).beginScrub q.1 .switching else s) s

/-- What entering OPEN and RETURN have in common: the chain key and every binding slot are zeroised, every session but
`keep` ends, and the link keys go. -/
def State.zeroise (keep : Option Nat) (s : State) : State :=
  let s := s.nirod.sessions.keys.foldl (fun s i => if keep = some i then s else s.endSession i) s
  let s := (s.modSec fun x => { x with chainKey := false }).dropLinkKeys
  ({ s with comps := s.comps.each fun _ y => { y with bindSlots := [] } }).bump Reg.SE_CNT_ZEROISE

/-- ST_WRONG_STATE where a debug transition's own condition fails (R330). -/
def debugWrongState (s : State) : Res :=
  (s.bump Reg.CM_CNT_WRONG_STATE, some (St.WRONG_STATE, [.detail Det.CURRENT_STATE s.dev.state.code, .detail Det.LEGAL_STATES 0]))

/-- DEBUG_ENTER's effect (Table SE-8). -/
def debugEnterBody (c : Ctx) (t : Token) (s : State) : Res :=
  if t.target < 1 ∨ 3 < t.target then invalid 0 s
  else if !s.tokenFresh t then badToken s
  else if !(if t.target = 3 then t.sig.signer == Config.returnAuthority else s.debugSigner t.sig.signer) then badToken s
  else if t.target = 1 then
    if s.sec.debugSt = .sealed then ok [.num 1] (s.modSec fun x => { x with debugSt := .diag }) else fail St.DEBUG_STATE s
  else if t.target = 2 then
    if s.sec.debugSt ≠ .sealed ∧ s.sec.debugSt ≠ .diag then fail St.DEBUG_STATE s
    else if List.any s.comps fun (q : Nat × Comp) => q.2.confidential then debugWrongState s
    else
      let s := (s.zeroise (some c.session)).scrubAll
      ok [.num 2] (s.modSec fun x => { x with debugSt := .opened, debugSincePower := true })
  else if !s.comps.isEmpty then debugWrongState s
  else
    let s := (s.reply c 0x5008 St.OK [.num 3]).zeroise none
    wait (s.modSec fun x => { x with debugSt := .returning })

/-- DEBUG_ENTER (0x5008). Into RETURN, the reply is sent before the session's keys go. -/
def execDebugEnter (c : Ctx) (t : Token) (s : State) : Out :=
  .next <| nirod (.debugEnter c t) c (Cmd.f 0x5008 Legal.C) Target.none (debugEnterBody c t) s

/-- DEBUG_EXIT (0x5009), which acts only in DIAG (R330). -/
def execDebugExit (c : Ctx) (s : State) : Out :=
  .next <| nirod (.debugExit c) c (Cmd.f 0x5009 Legal.C) Target.none (fun s =>
    if s.sec.debugSt = .diag ∨ s.sec.debugSt = DebugState.sealed then ok [.num 0] (s.modSec fun x => { x with debugSt := .sealed })
    else fail St.DEBUG_STATE s) s

/-- REPROVISION (0x500A): RETURN is left for SEALED with the next identity generation; at 255 there is none (R330). -/
def execReprovision (c : Ctx) (t : Token) (s : State) : Out :=
  .next <| nirod (.reprovision c t) c (Cmd.f 0x500A Legal.C) Target.none (fun s =>
    if !s.tokenFresh t || t.sig.signer != Config.returnAuthority then badToken s
    else if s.sec.debugSt ≠ .returning then fail St.DEBUG_STATE s
    else if 255 ≤ s.sec.identityGen then fail St.NO_CAPACITY s
    else ok [.num (s.sec.identityGen + 1)] (s.modSec fun x => { x with debugSt := .sealed, identityGen := x.identityGen + 1 })) s

end Sys2Proof.Machine
end

