-- ==== Sys2Proof/Machine/Recorder.lean ====
section
/-! DEFINITION. The event recorder's commands (R418 to R423): samples, flushes, REC_LIST, REC_READ and REC_CLEAR. -/

namespace Sys2Proof.Machine

/-! ### Sampling and flushing -/

/-- Nominal voltages in millivolts of the rails, by monitor index (Table EL-6). -/
def railNominal : List Nat := [750, 750, 850, 850, 800, 1200, 1800, 1050, 750, 750, 1800, 1800]

/-- Does the source of a HIST record run (R419)? No record is sampled without power or in DEEP_STANDBY; ports are off in
STANDBY; a tray's temperature needs a tray. -/
def State.sourceRuns (s : State) (id : Nat) : Bool :=
  decide (s.dev.state ≠ .poweredOff ∧ s.dev.state ≠ .deepStandby)
    && (!decide (0x0100 ≤ id ∧ id < 0x0300) || decide (s.dev.state ≠ .standby))
    && (!decide (0x0600 ≤ id ∧ id < 0x0700) || decide ((s.tray (id - 0x0600)).state ≠ .absent))

/-- What a sample shows in the electrical registers (R436): the hottest sensor of a die, the average of a rail. -/
def State.showSample (id : Nat) (v : Int) (s : State) : State :=
  if id = 0x0001 then { s with pins := { s.pins with tjD0 := v.toNat } }
  else if id = 0x0002 then { s with pins := { s.pins with tjD1 := v.toNat } }
  else if 0x0010 ≤ id ∧ id < 0x001C then
    let mv := ((railNominal.getD (id - 0x0010) 0 : Int) * (10000 + v) / 10000).toNat
    { s with pins := { s.pins with railMv := s.pins.railMv.put (id - 0x0010) mv } }
  else s

/-- RECORDER_SAMPLE: the sample period of a HIST record ends with a value in the record's unit (Table ER-1). -/
def execRecorderSample (rec : Nat) (value : Int) (s : State) : Out :=
  .next <|
    if recIds.contains rec && recKind rec == 0 && s.sourceRuns rec then (s.sampleRec rec value).showSample rec value else s

/-- RECORDER_FLUSH: every FLUSH_S (R418). -/
def execRecorderFlush (s : State) : Out := .next s.flushRecords

/-- EXTREME_FLUSH: a new extreme reaches the flash within 1 s (R418); the bins wait for a flush. -/
def execExtremeFlush (s : State) : Out :=
  .next <|
    let keep (m : NMap Rec) (q : Nat × Rec) : NMap Rec :=
      m.put q.1 { (m.look q.1).getD Rec.reset with hi := q.2.hi, lo := q.2.lo }
    { s with rcd := { s.rcd with flash := s.rcd.recs.foldl keep s.rcd.flash } }

/-! ### Commands -/

/-- REC_LIST (0x8001): record IDs, kinds, bins. -/
def execRecList (c : Ctx) (s : State) : Out :=
  .next <| nirod (.recList c) c (Cmd.f 0x8001 Legal.R) Target.none (fun s =>
    ok (recIds.flatMap fun i => [.num i, .num (recKind i), .num (recBins i)]) s) s

/-- The first of a list of IDs that is no record, or a list of none or of more than 64 (R420, R421). -/
def recIdsBad (ids : List Nat) : Option Nat :=
  if ids.isEmpty ∨ 64 < ids.length then some 0 else ids.findIdx? fun i => !recIds.contains i

/-- REC_READ (0x8002): 1 to 64 records of one moment, with the present stamps (R420). -/
def execRecRead (c : Ctx) (ids : List Nat) (s : State) : Out :=
  .next <| nirod (.recRead c ids) c (Cmd.f 0x8002 Legal.R) Target.none (fun s =>
    match recIdsBad ids with
    | some i => invalid i s
    | none => ok (ids.map (fun i => .bytes ((s.rcrd i).bytes i)) ++ [.num s.rcd.opSeconds, .num s.rcd.cycles]) s) s

/-- The clear of R422: one clear-log entry, the named records at zero with the present stamps, all of it in the flash. -/
def State.clearRecords (ids : List Nat) (signer : Digest) (s : State) : State :=
  let e : ClearEntry :=
    { opSeconds := s.rcd.opSeconds
      cycles := s.rcd.cycles
      timeNs := s.clk.timeNs
      count := ids.length
      signer := signer
      prior := Config.sha3 (s.recordBytes ids) }
  let z : Rec := { Rec.reset with sinceSec := s.rcd.opSeconds, sinceCyc := s.rcd.cycles }
  let s := ids.foldl (fun s i => s.setRec i z) s
  { s with rcd := { s.rcd with clearLog := e :: s.rcd.clearLog, flash := s.rcd.recs } }.bump Reg.REC_CNT_FLUSH

/-- REC_CLEAR (0x8003): the checks of R421 in order, then the clear of R422. -/
def execRecClear (c : Ctx) (ids : List Nat) (t : Token) (s : State) : Out :=
  .next <| nirod (.recClear c ids t) c (Cmd.f 0x8003 Legal.C) Target.none (fun s =>
    match recIdsBad ids with
    | some i => invalid i s
    | none =>
      if s.sec.debugSt = .opened ∨ s.sec.debugSt = .returning then fail St.DEBUG_STATE s
      else if !s.tokenFresh t || !(s.debugSigner t.sig.signer || t.sig.signer == Config.returnAuthority) then badToken s
      else if 1024 ≤ s.rcd.clearLog.length then fail St.NO_CAPACITY s
      else ok [] (s.clearRecords ids t.sig.signer)) s

end Sys2Proof.Machine
end

