-- ==== Sys2Proof/Machine/Colophon.lean ====
section
/-! DEFINITION. The colophon (R376): a snapshot of the device as records, kept by the session that captured it. The widths
of the fields inside a record are log entry 34. -/

namespace Sys2Proof.Machine

/-- A record (R376): TYPE, LENGTH, value, padded to a multiple of 4. -/
def coloRecord (ty : Nat) (v : List Byte) : List Byte :=
  leBytes 2 ty ++ leBytes 2 v.length ++ v ++ List.replicate (ceilDiv v.length 4 * 4 - v.length) 0

/-- DEVICE. -/
def State.coloDevice (s : State) : List Byte :=
  coloRecord 0x0001 (leBytes 1 s.dev.state.code ++ leBytes 1 s.dev.prior.code ++ leBytes 8 s.clk.timeNs ++ leBytes 2 s.topo.node
    ++ leBytes 4 (s.readOwn Reg.SE_DEBUG_STATE) ++ leBytes 4 (s.readOwn Reg.SE_SVN)
    ++ (s.measurements.filter fun b => decide (1 ≤ b.index ∧ b.index ≤ 9)).flatMap MBlock.bytes)

/-- SESSION; an unbound session shows class 3. -/
def coloSession (i : Nat) (x : Session) : List Byte :=
  coloRecord 0x0002 (leBytes 4 i ++ leBytes 1 ((x.cls.map Cls.code).getD 3) ++ leBytes 8 x.compId ++ leBytes 4 x.high
    ++ leBytes 1 x.running.length)

/-- COMPOSITION. -/
def State.coloComp (s : State) (y : Comp) : List Byte :=
  coloRecord 0x0003 (leBytes 4 y.stateWord ++ leBytes 4 y.epoch ++ leBytes 4 y.resourceWord ++ leBytes 4 (s.leaseLeftMs y))

/-- EXTENT. -/
def coloExtent (e : Nat) (x : Extent) : List Byte :=
  coloRecord 0x0004 (leBytes 4 e ++ leBytes 1 x.comp ++ x.attributes.flatMap (leBytes 8))

/-- UNITS. -/
def State.coloUnits (s : State) : List Byte :=
  coloRecord 0x0005 (s.presses.vals.flatMap (fun p => leBytes 4 p.stateWord)
    ++ s.links.flatMap (fun (q : Nat × LPort) => leBytes 1 q.1 ++ leBytes 4 q.2.stateWord)
    ++ (List.range 24).flatMap fun t => leBytes 1 (s.tray t).state.code)

/-- HEALTH. -/
def State.coloHealth (s : State) : List Byte :=
  coloRecord 0x0006 (s.links.flatMap (fun (q : Nat × LPort) => leBytes 1 q.1 ++ leBytes 2 q.2.portScore)
    ++ s.peerLinks.flatMap (fun lp => leBytes 1 lp ++ leBytes 2 (s.nbrScore lp))
    ++ s.ft.expelled.flatMap fun e =>
      leBytes 2 e.node ++ leBytes 8 e.linkId.toNat ++ leBytes 1 e.action ++ leBytes 8 e.timeNs)

/-- UPDATE. -/
def State.coloUpdate (s : State) : List Byte :=
  coloRecord 0x0007 (leBytes 1 s.fw.upd.code ++ leBytes 4 (if s.fw.upd = .idle then 0 else s.fw.handle)
    ++ digestBytes (s.fw.staged.getD 0) ++ leBytes 8 (s.fw.confirmBy.getD 0))

/-- RECORDER: the digest over every record in REC_ID order and every clear-log entry from oldest to newest (chapter 19). -/
def State.coloRecorder (s : State) : List Byte :=
  coloRecord 0x0008 (digestBytes (Config.sha3 (s.recordBytes recIds ++ s.rcd.clearLog.reverse.flatMap ClearEntry.bytes))
    ++ leBytes 2 recIds.length)

/-- A whole snapshot for session `i`. A fabric manager sees every record; another session DEVICE, its own SESSION, its own
COMPOSITION and EXTENT records, and END. -/
def State.colophon (s : State) (i : Nat) : List Byte :=
  let x := s.nirod.sessions.look i
  let all := (x.bind Session.cls) == some .fabricManager
  let own := (x.map Session.comp).getD 256
  let body := s.coloDevice
    ++ (List.filter (fun (q : Nat × Session) => all || q.1 == i) s.nirod.sessions).flatMap (fun q => coloSession q.1 q.2)
    ++ (List.filter (fun (q : Nat × Comp) => all || q.1 == own) s.comps).flatMap (fun q => s.coloComp q.2)
    ++ (List.filter (fun (q : Nat × Extent) => all || q.2.comp == own) s.pool.extents).flatMap (fun q => coloExtent q.1 q.2)
    ++ (if all then s.coloUnits ++ s.coloHealth ++ s.coloUpdate ++ s.coloRecorder else [])
  body ++ coloRecord 0x00FF (digestBytes (Config.sha3 body))

/-- A read of a snapshot from an offset: up to 65,536 bytes. -/
def coloReply (p : Snapshot) (offset : Nat) : List Item :=
  [.num p.id, .num p.bytes.length, .num offset, .bytes ((p.bytes.drop offset).take 65536)]

/-- COLOPHON (0x0020): snapshot 0 captures, another number reads on; a session holds four. -/
def execColophon (c : Ctx) (snap offset : Nat) (s : State) : Out :=
  .next <| nirod (.colophon c snap offset) c (Cmd.fob 0x0020 Legal.A) Target.none (fun s =>
    let now := s.clk.timeNs
    let snaps := ((s.nirod.sessions.look c.session).map Session.snaps).getD []
    if snap = 0 then
      let n := ((s.nirod.sessions.look c.session).map Session.nextSnap).getD 1
      let p : Snapshot := { id := n, bytes := s.colophon c.session, readNs := now }
      if p.bytes.length < offset then invalid 1 s
      else ok (coloReply p offset) (s.modSession c.session fun x => { x with
        snaps := (p :: x.snaps).take 4
        nextSnap := n + 1 })
    else match snaps.find? fun p => p.id == snap with
      | none => fail St.NOT_FOUND s
      | some p =>
        if p.bytes.length < offset then invalid 1 s
        else ok (coloReply p offset) (s.modSession c.session fun x => { x with
          snaps := x.snaps.map fun q => if q.id = snap then { q with readNs := now } else q })) s

end Sys2Proof.Machine
end

