-- ==== Sys2Proof/Machine/Comps.lean ====
section
/-! DEFINITION. Compositions (R282 to R304): their commands, leases and drain windows. Items of COMP_CREATE are numbered as
Table CP-1 lists them. -/

namespace Sys2Proof.Machine

/-- The first item of a COMP_CREATE that breaks Table CP-1. -/
def State.compItemBad (s : State) (r : CompReq) : Option Nat :=
  if 65536 ≤ r.compId ∨ (s.handleOf r.compId).isSome then some 0
  else if 1 < r.form then some 2
  else if 1 < r.ordering then some 3
  else if 1 < r.isolation then some 4
  else if 1 < r.confidential then some 5
  else if (r.form = 1) = (r.stackMask = 0) then some 7
  else if r.form = 0 ∧ r.fpMask ≠ 0 then some 8
  else if r.leaseS = 0 ∨ 3600 < r.leaseS then some 9
  else if r.memberLeaseMs ≠ 0 ∧ (r.memberLeaseMs < 10 ∨ 60000 < r.memberLeaseMs) then some 10
  else if r.drainUs ≠ 0 ∧ (r.drainUs < 10 ∨ 10000 < r.drainUs) then some 11
  else none

/-- Meters at creation. -/
def Meters.start (now : Nat) : Meters where
  createdNs := now
  resident := 0
  press := 0
  lane := 0
  t0Frame := 0
  t1Chunk := 0
  t2Sheaf := 0
  furrow := 0

/-- A new composition. -/
def newComp (r : CompReq) (now : Nat) : Comp where
  compId := r.compId
  ownerId := r.ownerId
  slice := decide (r.form = 1)
  releaseFlag := decide (r.ordering = 1)
  furrow := decide (r.isolation = 1)
  confidential := decide (r.confidential = 1)
  pressMask := r.pressMask
  stackMask := r.stackMask
  fpMask := r.fpMask
  leaseS := r.leaseS
  memberLeaseMs := if r.memberLeaseMs = 0 then 60 else r.memberLeaseMs
  drainUs := if r.drainUs = 0 then 50 else r.drainUs
  state := .active
  epoch := 1
  windowEnd := none
  prevMap := []
  leaseEnd := now + 1000000000 * r.leaseS
  members := []
  observers := []
  deadlineUs := 50000
  pinQuota := 0
  cnt := []
  meters := Meters.start now
  codebooks := []
  bindSlots := []
  evicting := none
  destroyer := none

/-- The reply of COMP_CREATE: handle, epoch, lease expiry. -/
def State.createReply (s : State) (h : Nat) : List Item :=
  match s.comp h with
  | some c => [.num h, .num c.epoch, .num c.leaseEnd]
  | none => []

/-- COMP_CREATE (0x1001). RETURN refuses every one, OPEN and a missing identity a CONFIDENTIAL one (Table SE-7, R305). The first composition takes the device from READY to SERVING. A slice's reply waits until the
leaves of others have left its stacks. -/
def execCompCreate (c : Ctx) (r : CompReq) (s : State) : Out :=
  .next <| nirod (.compCreate c r) c (Cmd.f 0x1001 Legal.RS) Target.none (fun s =>
    match s.compItemBad r with
    | some i => invalid i s
    | none =>
      if s.sec.debugSt = .returning ∨ (r.confidential = 1 ∧ s.sec.debugSt = .opened) then fail St.DEBUG_STATE s
      else if r.confidential = 1 ∧ !s.sec.identityValid then fail St.NO_IDENTITY s
      else match s.comps.lowestFree 0 256 with
      | none => fail St.NO_CAPACITY s
      | some h =>
        let slice := decide (r.form = 1)
        if s.pressesHeld none slice r.pressMask || (slice && s.unitsHeld r.stackMask r.fpMask) then fail St.NO_CAPACITY s
        else
          let s := { s with comps := s.comps.put h (newComp r s.clk.timeNs) }
          let s := if s.dev.state = .ready then s.enter .serving else s
          let s := if slice then s.clearStacks h r.stackMask else s
          if slice && !(s.foreignLeaves h r.stackMask).isEmpty then
            wait (s.modComp h fun y => { y with evicting := some (c.session, c.seq) })
          else ok (s.createReply h) s) s

/-- SLICE_EVICTION_DONE: the last leaf of another composition has left the slice's stacks. -/
def execSliceEvictionDone (h : Nat) (s : State) : Out :=
  .next <|
    match s.comp h with
    | none => s
    | some y =>
      match y.evicting with
      | none => s
      | some (sess, seq) =>
        if !(s.foreignLeaves h y.stackMask).isEmpty then s
        else
          let s := s.modComp h fun y => { y with evicting := none }
          s.reply { session := sess, seq := seq, badItem := none } 0x1001 St.OK (s.createReply h)

/-- COMP_DESTROY (0x1002): the members are unbound, and the extents revoked; the reply comes at the end (R299). -/
def execCompDestroy (c : Ctx) (h : Nat) (s : State) : Out :=
  .next <| nirod (.compDestroy c h) c { Cmd.fo 0x1002 Legal.L with compFm := 3 } (Target.ofComp h) (withComp h fun y s =>
    let s := match y.evicting with
      | some (sess, seq) => s.reply { session := sess, seq := seq, badItem := none } 0x1001 St.WRONG_STATE
          [.detail Det.COMP_CURRENT_STATE CompState.destroying.code, .detail Det.COMP_LEGAL_STATES 1]
      | none => s
    let s := s.modComp h fun y => { y with state := .destroying, destroyer := some (c.session, c.seq), evicting := none }
    let s := s.unbindAll h
    let go (s : State) (e : Nat) : State :=
      if (s.extent e).any fun x => decide (x.state = .active) || decide (x.state = .sealed) then (s.revokeExtent e).2 else s
    wait ((s.extentsOf h).keys.foldl go s)) s

/-- COMP_DESTROY_DONE: once every extent has drained, the rest of R299 runs in one piece, and the final record is sent. -/
def execCompDestroyDone (h : Nat) (s : State) : Out :=
  .next <|
    match s.comp h with
    | none => s
    | some y =>
      match y.destroyer with
      | none => s
      | some (sess, seq) =>
        let xs := s.extentsOf h
        if y.state ≠ .destroying ∨ xs.any (fun q => decide (q.2.state = .revoking) && !s.drained q.1) then s
        else
          let s := (xs.filter fun q => decide (q.2.state = .revoking)).foldl (fun s q => s.endDrain q.1) s
          let s := xs.keys.foldl (fun s e => s.freeExtent e) s
          let s := (s.coh.filter fun d => d.2.comp == h).foldl (fun s d => match d.2.recaller with
            | some (rs, rq, op, _, _) =>
              if op = 0x1004 then s else s.reply { session := rs, seq := rq, badItem := none } op St.NOT_FOUND []
            | none => s) s
          let s := (s.endContexts h).dropOps h
          let final := s.meterRecord h true
          (s.freeHandle h).reply { session := sess, seq := seq, badItem := none } 0x1002 St.OK [.bytes final]

/-- May a port become a member (R283, R284, R286; R314 for CRYPT)? -/
def State.bindable (s : State) (h lport : Nat) (y : Comp) : Bool :=
  (match s.links.look lport with
    | some l => l.enable && decide (l.role = .accel) && (!y.confidential || l.crypt)
    | none => false)
    && (s.boundTo lport).isNone && (!y.slice || y.fpMask.getLsbD (lport / 8))
    && List.all s.comps fun (q : Nat × Comp) => q.1 == h || !q.2.slice || !q.2.fpMask.getLsbD (lport / 8)

/-- COMP_MEMBER_ADD (0x1003). -/
def execCompMemberAdd (c : Ctx) (h lport node : Nat) (s : State) : Out :=
  .next <| nirod (.compMemberAdd c h lport node) c (Cmd.f 0x1003 Legal.S) { Target.ofComp h with member := some lport }
    (withComp h fun y s =>
      if !s.bindable h lport y then invalid 1 s
      else if 4096 ≤ node then invalid 2 s
      else if 256 ≤ y.members.length then fail St.NO_CAPACITY s
      else if y.windowOpen then mapBusy h s
      else
        let m : Member := { lport := lport, node := node, leaseEnd := s.clk.timeNs + 1000000 * y.memberLeaseMs, lapsed := false }
        let s := (s.mapChange h).modComp h fun y => { y with members := y.members ++ [m] }
        ok [.num (((s.comp h).map Comp.epoch).getD 0)] s) s

/-- Recall the lines of the agents behind a port; each agent goes when its domain's COH_RECALL_DONE comes. -/
def State.recallPort (h lport node : Nat) (s : State) : State :=
  (s.agentsAt h lport node).foldl (fun s a =>
    let lines := match s.coh.look a.1 with
    | some x => (List.filter (fun (q : Nat × DirEntry) => q.2.holders.contains a.2) x.dir).map Prod.fst
      | none => []
    let s := s.modDom a.1 fun x => { x with recaller := some (0, 0, 0x1004, a.2, lines.length) }
    let s := lines.foldl (fun s q => s.recallLine a.1 a.2 q) s
    if (s.coh.look a.1).any Domain.recalling then s
    else s.modDom a.1 fun x => { x with recaller := none, agents := x.agents.del a.2 }) s

/-- COMP_MEMBER_REMOVE (0x1004). -/
def execCompMemberRemove (c : Ctx) (h lport : Nat) (reclaim : Bool) (s : State) : Out :=
  .next <| nirod (.compMemberRemove c h lport reclaim) c (Cmd.fo 0x1004 Legal.L) { Target.ofComp h with member := some lport }
    (withComp h fun y s =>
      match y.members.find? fun m => m.lport == lport with
      | none => fail St.NOT_FOUND s
      | some m =>
        let busy := (s.agentsAt h lport m.node).any fun a => (s.coh.look a.1).any fun d => d.recaller.isSome
        if y.windowOpen then mapBusy h s
        else if !reclaim && busy then fail St.EXTENT_BUSY s
        else
          let s := (s.mapChange h).unbind h lport
          let s := if reclaim then s.reclaimPort h lport m.node else s.recallPort h lport m.node
          ok [.num (((s.comp h).map Comp.epoch).getD 0)] s.settle) s

/-- COMP_RENEW (0x1005): the composition lease, and the member's where one is named (R288, R289). -/
def execCompRenew (c : Ctx) (h : Nat) (member : Option Nat) (s : State) : Out :=
  .next <| nirod (.compRenew c h member) c (Cmd.fo 0x1005 Legal.L) { Target.ofComp h with member := member } (withComp h fun y s =>
    let live (p : Nat) : Bool := y.members.any fun m => m.lport == p && !m.lapsed && decide (s.clk.timeNs < m.leaseEnd)
    if member.any fun p => !live p then fail St.NOT_FOUND s
    else
      let t := s.clk.timeNs + 1000000000 * y.leaseS
      ok [.num t] (s.modComp h fun y => { y with
        leaseEnd := t
        members := y.members.map fun m =>
          if some m.lport = member then { m with leaseEnd := s.clk.timeNs + 1000000 * y.memberLeaseMs } else m })) s

/-- COMP_PRESS_SET (0x1006), under the checks of R115 and R284. -/
def execCompPressSet (c : Ctx) (h : Nat) (mask : BitVec 8) (s : State) : Out :=
  .next <| nirod (.compPressSet c h mask) c (Cmd.f 0x1006 Legal.L) (Target.ofComp h) (withComp h fun y s =>
    if s.pressesHeld (some h) y.slice mask then fail St.NO_CAPACITY s
    else if s.work.groups.vals.any fun g => g.comp == h && !mask.getLsbD g.press then invalid 1 s
    else ok [] (s.modComp h fun y => { y with pressMask := mask })) s

/-- COMP_INFO (0x1007). -/
def execCompInfo (c : Ctx) (h : Nat) (s : State) : Out :=
  .next <| nirod (.compInfo c h) c { Cmd.fob 0x1007 Legal.R with compFm := 7, compOther := 5 } (Target.ofComp h)
    (withComp h fun y s =>
      ok ([.num y.stateWord, .num y.epoch, .num y.resourceWord] ++ y.members.map (fun m => .num m.lport)
        ++ (s.extentsOf h).keys.map .num) s) s

/-- COMP_METER_READ (0x1008). -/
def execCompMeterRead (c : Ctx) (h : Nat) (s : State) : Out :=
  .next <| nirod (.compMeterRead c h) c { Cmd.fob 0x1008 Legal.R with compFm := 7, compOther := 5 } (Target.ofComp h)
    (withComp h fun _ s => ok [.bytes (s.meterRecord h false)] s) s

/-- COMP_STATS (0x1009). -/
def execCompStats (c : Ctx) (h : Nat) (s : State) : Out :=
  .next <| nirod (.compStats c h) c (Cmd.fob 0x1009 Legal.R) (Target.ofComp h) (withComp h fun y s =>
    let regs := (s.statRegs h ++ s.statDomains h).flatMap fun q => leBytes 4 q.1 ++ leBytes 4 q.2
    ok [.num s.clk.timeNs, .bytes regs, .bytes ((s.statQueues y).flatMap (leBytes 4))] s) s

/-- COMP_OBSERVER_SET (0x100A). -/
def execCompObserverSet (c : Ctx) (h : Nat) (digests : List Digest) (s : State) : Out :=
  .next <| nirod (.compObserverSet c h digests) c (Cmd.fo 0x100A Legal.L) (Target.ofComp h) (withComp h fun _ s =>
    if 4 < digests.length then invalid 1 s else ok [] (s.modComp h fun y => { y with observers := digests })) s

/-! ### Leases and windows -/

/-- COMP_LEASE_EXPIRY: leases stand still while the device sleeps (R290). -/
def execCompLeaseExpiry (h : Nat) (s : State) : Out :=
  .next <|
    match s.comp h with
    | none => s
    | some y => if y.state ≠ .active ∨ s.dev.pausedAt.isSome then s else (s.advanceTo y.leaseEnd).expireComp h

/-- MEMBER_LEASE_EXPIRY: an open drain window makes it wait (R289, R291). -/
def execMemberLeaseExpiry (h lport : Nat) (s : State) : Out :=
  .next <|
    match s.comp h with
    | none => s
    | some y =>
      match y.members.find? fun m => m.lport == lport with
      | none => s
      | some m =>
        if y.state ≠ .active ∨ s.dev.pausedAt.isSome ∨ m.lapsed then s
        else
          let s := s.advanceTo m.leaseEnd
          if y.windowOpen then s.modComp h fun y => { y with members := y.members.map fun m =>
            if m.lport = lport then { m with lapsed := true } else m }
          else s.expireMember h lport

/-- DRAIN_WINDOW_CLOSE: requests of the previous epoch that have not begun end (R292); then the lease that ran out first in
the window takes effect, which opens the next one (R291). -/
def execDrainWindowClose (h : Nat) (s : State) : Out :=
  .next <|
    match (s.comp h).bind Comp.windowEnd with
    | none => s
    | some t =>
      let s := ((s.advanceTo t).abortOldEpoch h).modComp h fun y => { y with windowEnd := none, prevMap := [] }
      match s.comp h with
      | none => s
      | some y =>
        let first := (y.members.filter Member.lapsed).foldl (fun (b : Option Member) m => match b with
          | none => some m
          | some a => if m.leaseEnd < a.leaseEnd then some m else some a) none
        match first with
        | some m => if y.state = .active then s.expireMember h m.lport else s
        | none => s

end Sys2Proof.Machine
end

