-- ==== Sys2Proof/Machine/Fw.lean ====
section
/-! DEFINITION. Boot, resets by command, firmware updates, activation and revert (R400 to R415), and the restart of a
management core. -/

namespace Sys2Proof.Machine

/-! ### Boot steps -/

/-- Is a boot step running? -/
def State.booting (s : State) : Bool :=
  s.pins.powered && !s.pins.resetLow && !s.pins.thermtripLow && decide (s.dev.state = .boot)

/-- BOOT_STEP_DONE: the running step ends within its limit (R400, R404): its DONE or FAILED entry is written. A failure of
step 8 or 11 concerns one press or tray, and the step goes on; step 14 has no failure. -/
def execBootStepDone (ok : Bool) (unit detail : Nat) (s : State) : Out :=
  .next <|
    let n := s.fw.step
    if !s.booting then s
    else if ok then (s.journal n (s.pathOf n) 1 unit detail |>.stepEffect n).nextStep n
    else if n = 14 then s
    else ((((s.journal n (s.pathOf n) 2 unit detail).bump Reg.FW_CNT_BOOT_FAIL).countBoot n)).stepFailed n unit true

/-- The limit of a step in microseconds (Table FW-3). -/
def stepLimitUs : Nat → Nat
  | 1 => 5000
  | 2 => 10000
  | 3 => 200000
  | 4 => 100000
  | 5 => 20000
  | 6 => 500000
  | 7 => 50000
  | 8 => 20000
  | 9 => 10000
  | 10 => 100000
  | 11 => 6000000
  | 12 => 500000
  | 13 => 5000
  | _ => 0

/-- BOOT_STEP_TIMEOUT: the running step exceeds its limit and has failed (R400). At step 8 no press has shown that its
microcode matches, so every press is OFFLINE; at step 11 trays that have not attached stay absent. -/
def execBootStepTimeout (s : State) : Out :=
  .next <|
    let n := s.fw.step
    if !s.booting ∨ n = 14 then s
    else
      let s := s.advanceTo (s.fw.stepNs + 1000 * stepLimitUs n)
      let s := (((s.journal n (s.pathOf n) 2 0xFF s.free).drawn.bump Reg.FW_CNT_BOOT_FAIL).countBoot n)
      if (n = 8 ∨ n = 11) ∧ s.fw.confirmed then
        (if n = 8 then { s with presses := s.presses.each fun _ p => { p with state := .offline } } else s).nextStep n
      else s.stepFailed n 0xFF true

/-- DEVICE_RESET (0x0006): the reply, then a flush of the recorder, then BOOT (R371, R418). -/
def execDeviceReset (c : Ctx) (s : State) : Out :=
  .next <| nirod (.deviceReset c) c (Cmd.f 0x0006 Legal.C) Target.none
    (fun s => wait ((s.reply c 0x0006 St.OK []).flushRecords.resetInto false)) s

/-! ### Updates (R407 to R411) -/

/-- A body on the update a handle names; there is none in IDLE, or under another handle. -/
def withUpdate (h : Nat) (f : State → Res) (s : State) : Res :=
  if s.fw.upd = .idle ∨ s.fw.handle ≠ h then fail St.NOT_FOUND s else f s

/-- FW_UPDATE_BEGIN (0x7001): R408's checks in order. -/
def execFwUpdateBegin (c : Ctx) (m : Manifest) (s : State) : Out :=
  .next <| nirod (.fwUpdateBegin c m) c (Cmd.f 0x7001 Legal.C) Target.none (fun s =>
    if !Manifest.wellFormed m then invalid 0 s
    else if s.fw.upd ≠ .idle then fail St.EXTENT_BUSY s
    else if !Manifest.valid m then fail St.BAD_SIGNATURE (s.bump Reg.SE_CNT_AUTH_FAIL)
    else if m.svn < s.fw.rollback then fail St.ROLLBACK s
    else
      let h := s.random % 2 ^ 32
      let s := (s.setBank s.otherBank { manifest := some m, images := [] }).drawn
      ok [.num h] (s.modFw fun f => { f with upd := .receiving, handle := h, staged := none })) s

/-- Put bytes into an image, in its order of offsets. -/
def putBytes (m : List Host.Cell) (a : Nat) : List Byte → List Host.Cell
  | [] => m
  | b :: t => putBytes (NMap.put m a b) (a + 1) t

/-- FW_UPDATE_BLOCK (0x7002): a block of one component (R409). -/
def execFwUpdateBlock (c : Ctx) (handle comp offset : Nat) (data : List Byte) (s : State) : Out :=
  .next <| nirod (.fwUpdateBlock c handle comp offset data) c (Cmd.f 0x7002 Legal.C) Target.none (withUpdate handle fun s =>
    if s.fw.upd ≠ .receiving ∧ s.fw.upd ≠ .verified then fail St.EXTENT_BUSY s
    else
      let b := s.bankOf s.otherBank
      match (b.manifest.map Manifest.comps).bind fun l => l.find? fun x => x.ctype == comp with
      | none => invalid 1 s
      | some x =>
        if offset % 64 ≠ 0 then invalid 2 s
        else if data.isEmpty ∨ 65536 < data.length ∨ x.size < offset + data.length then invalid 3 s
        else
          let m := putBytes ((b.images.look comp).getD []) offset data
          let s := s.setBank s.otherBank { b with images := b.images.put comp m }
          ok [.num m.length] (s.modFw fun f => { f with upd := .receiving, staged := none })) s

/-- FW_UPDATE_VERIFY (0x7003): the components in COMP_TYPE order; the first that is incomplete or differs decides (R410). -/
def execFwUpdateVerify (c : Ctx) (handle : Nat) (s : State) : Out :=
  .next <| nirod (.fwUpdateVerify c handle) c (Cmd.f 0x7003 Legal.C) Target.none (withUpdate handle fun s =>
    if s.fw.upd ≠ .receiving ∧ s.fw.upd ≠ .verified then fail St.EXTENT_BUSY s
    else
      let b := s.bankOf s.otherBank
      match b.manifest with
      | none => fail St.NOT_FOUND s
      | some m =>
        match m.comps.find? fun x => !(b.complete x && b.matchesDigest x) with
        | none => ok [.digest m.digest] (s.modFw fun f => { f with upd := .verified, staged := some m.digest })
        | some x =>
          let s := s.modFw fun f => { f with upd := .receiving, staged := none }
          if !b.complete x then failDetail St.UPDATE_INCOMPLETE x.ctype s
          else failDetail St.DIGEST_MISMATCH x.ctype
            ((s.setBank s.otherBank { b with images := b.images.del x.ctype }).bump Reg.FW_CNT_DIGEST_FAIL)) s

/-- FW_UPDATE_ABORT (0x7006): erases the staged images, or starts the revert of a committed update (R411). -/
def execFwUpdateAbort (c : Ctx) (handle : Nat) (s : State) : Out :=
  .next <| nirod (.fwUpdateAbort c handle) c (Cmd.f 0x7006 Legal.C) Target.none (withUpdate handle fun s =>
    match s.fw.upd with
    | .receiving | .verified => ok [] ((s.eraseBank s.otherBank).modFw fun f => { f with upd := .idle, staged := none })
    | .pendingConfirm => ok [] s.startRevert
    | _ => fail St.EXTENT_BUSY s) s

/-- FW_STATUS (0x7007): the update state, handle, staged digest and confirm deadline; zero where there is none. -/
def execFwStatus (c : Ctx) (s : State) : Out :=
  .next <| nirod (.fwStatus c) c (Cmd.f 0x7007 Legal.R) Target.none (fun s =>
    let h := if s.fw.upd = .idle then 0 else s.fw.handle
    ok [.num s.fw.upd.code, .num h, .digest (s.fw.staged.getD 0), .num (s.fw.confirmBy.getD 0)] s) s

/-! ### Activation and revert (R412 to R415) -/

/-- FW_ACTIVATE (0x7004): accepted only in VERIFIED; the load phase starts, and the command waits (R412). -/
def execFwActivate (c : Ctx) (handle : Nat) (s : State) : Out :=
  .next <| nirod (.fwActivate c handle) c (Cmd.f 0x7004 Legal.CB) Target.none (withUpdate handle fun s =>
    match s.fw.upd with
    | .receiving => fail St.UPDATE_INCOMPLETE s
    | .verified =>
      let s := (s.modDev fun d => { d with resume := s.dev.state }).enter .activating
      wait (s.modFw fun f => { f with upd := .activating, loading := true, switching := [], activator := some (c.session, c.seq) })
    | _ => fail St.EXTENT_BUSY s) s

/-- SHADOW_LOAD_DONE: the shadow copies are loaded and checked. An activation commits, or with a component that does not
match changes nothing and stays VERIFIED; a revert starts its switch, or ends in FAULTED (R412, R415). -/
def execShadowLoadDone (badComponent : Option Nat) (s : State) : Out :=
  .next <|
    if !s.fw.loading then s
    else match s.fw.upd, badComponent with
      | .activating, some k =>
        let s := (s.modFw fun f => { f with upd := .verified, loading := false }).returnDevice
        s.answerActivate St.DIGEST_MISMATCH [.detail Det.DETAIL k]
      | .activating, none => s.commit
      | .reverting, some _ => (s.modFw fun f => { f with loading := false }).toFaulted
      | .reverting, none => if s.dev.resume = .faulted then s.endRevert else s.beginSwitch
      | _, _ => s

/-- A unit runs its new image: a core is back, a press comes out of its reset, a stack leaves self-refresh. -/
def State.unitDone (u : SwUnit) (s : State) : State :=
  match u with
  | .core n => s.modDev fun d => { d with restarting := d.restarting &&& ~~~(BitVec.ofNat 8 (2 ^ n)) }
  | .press n =>
    if (s.presses.look n).any fun p => decide (p.state = .resetting) then
      match execPressResetDone n true 0 s with
      | .next t => t
      | _ => s
    else s
  | .stack n => s.modDev fun d => { d with hbmSr := d.hbmSr &&& ~~~(BitVec.ofNat 8 (2 ^ n)) }
  | _ => s

/-- A unit leaves the list, and the next of its class begins. -/
def State.unitLeaves (u : SwUnit) (s : State) : State :=
  let s := s.unitDone u
  let s := s.modFw fun f => { f with switching := f.switching.erase u }
  match s.fw.switching.find? fun v => SwUnit.sameClass u v with
  | some v => s.beginUnit v
  | none => s

/-- UNIT_SWITCH_DONE: the unit whose turn it is in its class has changed its image; the last one of an activation ends the
switch phase. The last unit of a revert has a row of its own. -/
def execUnitSwitchDone (u : SwUnit) (s : State) : Out :=
  .next <|
    if !(switchHeads s.fw.switching).contains u ∨ (s.fw.upd = .reverting ∧ s.fw.switching.length ≤ 1) then s
    else
      let s := s.unitLeaves u
      if s.fw.switching.isEmpty ∧ s.fw.upd = .activating then s.endActivation else s

/-- SWITCH_PHASE_TIMEOUT: a unit misses the limit of the switch phase, or fails its self-test: the revert starts (R413). -/
def execSwitchPhaseTimeout (u : SwUnit) (s : State) : Out :=
  .next <|
    if s.fw.upd ≠ .activating ∨ s.fw.loading ∨ !s.fw.switching.contains u then s
    else s.startRevert

/-- REVERT_DONE: the last unit has switched back (R415). -/
def execRevertDone (u : SwUnit) (s : State) : Out :=
  .next <|
    if s.fw.upd ≠ .reverting ∨ s.fw.switching ≠ [u] then s
    else (s.unitLeaves u).endRevert

/-- HEALTH_CONFIRM (0x7005): the confirm flag is set, the rollback counter follows the manifest's SVN, and the update is
IDLE (R414). -/
def execHealthConfirm (c : Ctx) (s : State) : Out :=
  .next <| nirod (.healthConfirm c) c (Cmd.f 0x7005 Legal.LM) Target.none (fun s =>
    if s.fw.upd ≠ .pendingConfirm then fail St.NOT_FOUND s
    else
      let svn := ((s.bankOf s.activeBank).manifest.map Manifest.svn).getD 0
      let s := s.modFw fun f => { f with
        confirmed := true
        unconfirmedBoots := 0
        rollback := max f.rollback svn
        upd := .idle
        staged := none
        confirmBy := none }
      ok [] (s.journal 0x22 0 1 0xFF 0)) s

/-- CONFIRM_WINDOW_EXPIRY: the window ends without a confirmation: the revert starts at the end of the message time
(R414). -/
def execConfirmWindowExpiry (s : State) : Out :=
  .next <|
    match s.fw.confirmBy with
    | none => s
    | some t =>
      if s.fw.upd ≠ .pendingConfirm then s
      else (s.advanceTo (t / 10000 * 10000 + 10000)).startRevert

/-! ### Management cores (R21, R336) -/

/-- WATCHDOG_EXPIRY: a core whose 100 ms watchdog expires restarts (R336). -/
def execWatchdogExpiry (core : Nat) (s : State) : Out :=
  .next <|
    if 8 ≤ core ∨ !s.dev.coresOn.getLsbD core ∨ s.dev.restarting.getLsbD core then s
    else (s.bump Reg.FT_CNT_WATCHDOG).restartCore core

/-- CORE_RESTART_DONE: a core is back; the commands that waited for it run as the block comes to them (R21, Step.lean). -/
def execCoreRestartDone (core : Nat) (s : State) : Out :=
  .next <|
    if 8 ≤ core ∨ !s.dev.restarting.getLsbD core then s
    else s.modDev fun d => { d with restarting := d.restarting &&& ~~~(BitVec.ofNat 8 (2 ^ core)) }

/-- BRIDGE_FAILURE: the die-to-die bridge fails at run time (Table CM-3). -/
def execBridgeFailure (s : State) : Out :=
  .next <|
    if !s.dev.bridgeUp ∨ s.dev.singleDie ∨ s.dev.state = .poweredOff ∨ s.dev.state = .deepStandby ∨ s.dev.state = .boot then s
    else (s.modDev fun d => { d with bridgeUp := false }).toFaulted

end Sys2Proof.Machine
end

