-- ==== Sys2Proof/Machine/Groups.lean ====
section
/-! DEFINITION. Reduce groups (R115) and step-ledger jobs (R350, R351): their commands. -/

namespace Sys2Proof.Machine

/-- Does an entry of a member table name a port bound to the composition, or the PEER port of another K9 (R115, R127)? -/
def State.contributorOk (s : State) (y : Comp) (m : Nat × Nat) : Bool :=
  y.members.any (fun b => b.node == m.1 && b.lport == m.2) || (s.links.look m.2).any fun l => decide (l.role = .peer)

/-- Are the entries of a list all different? -/
def distinct (l : List (Nat × Nat)) : Bool := l.eraseDups.length == l.length

/-- REDUCE_GROUP_CREATE (0x3001). -/
def execReduceGroupCreate (c : Ctx) (h gid press : Nat) (members : List (Nat × Nat)) (parent : Option (Nat × Nat)) (s : State) :
    Out :=
  .next <| nirod (.reduceGroupCreate c h gid press members parent) c (Cmd.f 0x3001 Legal.S) (Target.ofComp h) (withComp h fun y s =>
    if 65536 ≤ gid ∨ (s.groupFor h gid).isSome then invalid 1 s
    else if 8 ≤ press ∨ !y.pressMask.getLsbD press ∨ s.comps.any (fun q => q.1 != h && q.2.pressMask.getLsbD press) then invalid 2 s
    else if members.length < 2 ∨ 256 < members.length ∨ !distinct members ∨ !members.all (s.contributorOk y) then invalid 3 s
    else if parent.any fun p => decide (4096 ≤ p.1) || decide (256 ≤ p.2) then invalid 4 s
    else if 1024 ≤ s.work.groups.length then fail St.NO_CAPACITY s
    else
      let g : Group := { comp := h, gid := gid, press := press, members := members, parent := parent, done := [], aborted := [] }
      ok [] (s.modWork fun w => { w with groups := w.groups.put w.nextGroup g, nextGroup := w.nextGroup + 1 })) s

/-- Abort the open instances of a group, and say how many there were. The spec names no status for their members: they get
ST_GROUP_MISMATCH, as a descriptor for the group would from now on (log entry 30). -/
def State.abortGroup (g : Nat) (s : State) : Nat × State :=
  let open_ := (s.work.ops.filter fun o => o.2.group == g && decide (o.2.phase = .running)).map Prod.fst
  (open_.length, open_.foldl (fun s o => s.redAbort o St.GROUP_MISMATCH none none) s)

/-- REDUCE_GROUP_DESTROY (0x3002). -/
def execReduceGroupDestroy (c : Ctx) (h gid : Nat) (s : State) : Out :=
  .next <| nirod (.reduceGroupDestroy c h gid) c (Cmd.f 0x3002 Legal.L) (Target.ofComp h) (withComp h fun _ s =>
    match s.groupFor h gid with
    | none => fail St.NOT_FOUND s
    | some (g, _) =>
      let r := s.abortGroup g
      ok [.num r.1] (r.2.modWork fun w => { w with groups := w.groups.del g })) s

/-- Is a copy destination reachable under the composition (R350)? A range of this K9 is checked against its extents. -/
def State.copyBad (s : State) (h entries : Nat) (copy : Option (Nat × Nat)) : Option Nat :=
  match copy with
  | none => none
  | some (node, addr) =>
    if node = s.topo.node then
      (if (s.rangeOf h addr (64 * entries)).isNone then some St.OUT_OF_EXTENT else none)
    else if (s.routeFor node).any s.reachable then none
    else some St.INVALID_PARAM

/-- LEDGER_OPEN (0x3003). -/
def execLedgerOpen (c : Ctx) (h node ring entries depth : Nat) (copy : Option (Nat × Nat)) (s : State) : Out :=
  .next <| nirod (.ledgerOpen c h node ring entries depth copy) c (Cmd.fo 0x3003 Legal.S) (Target.ofComp h) (withComp h fun y s =>
    let safe (x : Extent) : Bool := !x.vq && (decide (x.durability = .mirrored) || decide (x.tier = .t2Home))
    if !y.members.any (fun m => m.node == node) ∨ (s.jobFor h node).isSome then invalid 1 s
    else if entries < 16 ∨ 1048576 < entries then invalid 3 s
    else if depth = 0 ∨ 1024 < depth ∨ entries < depth then invalid 4 s
    else if (s.rangeOf h ring (64 * entries)).isNone then fail St.OUT_OF_EXTENT s
    else if !s.rangeIs h ring (64 * entries) safe then invalid 2 s
    else match s.copyBad h entries copy with
      | some st => if st = St.INVALID_PARAM then invalid 5 s else fail st s
      | none =>
        let j : Job := { comp := h, node := node, ring := ring, entries := entries, depth := depth, copy := copy, nextStep := 1,
                         openSteps := 0, closer := none }
        ok [.num s.work.nextJob] (s.modWork fun w => { w with jobs := w.jobs.put w.nextJob j, nextJob := w.nextJob + 1 })) s

/-- LEDGER_CLOSE (0x3004): it replies once every open step has been recorded. -/
def execLedgerClose (c : Ctx) (job : Nat) (s : State) : Out :=
  let tg := match s.work.jobs.look job with
    | some j => Target.ofComp j.comp
    | none => Target.none
  .next <| nirod (.ledgerClose c job) c (Cmd.fo 0x3004 Legal.L) tg (fun s =>
    match s.work.jobs.look job with
    | none => fail St.NOT_FOUND s
    | some j =>
      if j.closer.isSome then fail St.NOT_FOUND s
      else
        let s := s.modWork fun w => { w with jobs := w.jobs.put job { j with closer := some (c.session, c.seq) } }
        wait (s.closeJob job)) s

end Sys2Proof.Machine
end

