-- ==== Sys2Proof/Machine/Power.lean ====
section
/-! DEFINITION. Supplies, board pins, PPS, throttling, JTAG (R426 to R436), the event controller's rows (R380 to R389),
the fallow of stacks (R390), and STANDBY and DEEP_STANDBY (R391 to R394). -/

namespace Sys2Proof.Machine

/-! ### Supplies, RESET_N, WAKE_N, rails -/

/-- Without group A supplies, or after a thermal trip, nothing is left but what flash keeps. The sealed image of
DEEP_STANDBY stays until the next power-on deletes it (Table SE-9). -/
def State.powerDown (s : State) : State :=
  let i := s.image
  let s := s.clearAll false true
  { s with
    image := i
    dev := { s.dev with state := .poweredOff, prior := .poweredOff, coresOn := 0 }
    pins := { s.pins with railMv := [], tjD0 := 0, tjD1 := 0, sleepLow := false, tap := .idcode } }

/-- BOOT from POWERED_OFF: POWER_CYCLES counts (R417), and a seal left by a power loss is deleted unread. -/
def State.bootFromOff (s : State) : State :=
  let s := if s.image.isSome then s.dropImage else s
  s.startBoot false

/-- POWER_ON (R400, R431). With RESET_N low, BOOT waits for its release. -/
def execPowerOn (s : State) : Out :=
  .next <|
    if s.pins.powered then s
    else
      let s := { s with
        pins := { s.pins with powered := true }
        rcd := { s.rcd with cycles := min (s.rcd.cycles + 1) 0xFFFFFFFF } }
      if s.pins.resetLow then s else s.bootFromOff

/-- The loss of group A supplies: THERMTRIP_N is released too (R435). -/
def State.losePower (s : State) : State :=
  let s := s.powerDown
  { s with pins := { s.pins with powered := false, thermtripLow := false } }

/-- POWER_LOSS (R431). -/
def execPowerLoss (s : State) : Out := .next <| if s.pins.powered then s.losePower else s

/-- The filter of RESET_N and WAKE_N (R427): shorter than 0.5 us is ignored, 1 us or longer is taken; the spec leaves the
lengths between open. -/
def State.filtered (s : State) (lowNs : Nat) : Bool :=
  decide (1000 ≤ lowNs) || (decide (500 ≤ lowNs) && decide (s.free % 2 = 1))

/-- RESET_N_ASSERT: the device is held in reset (R427). -/
def execResetNAssert (lowNs : Nat) (s : State) : Out :=
  .next <|
    if !s.filtered lowNs then s.drawn
    else
      let s := s.drawn
      let s := if s.pins.powered ∧ !s.pins.thermtripLow ∧ s.dev.state ≠ .poweredOff then s.clearAll false false else s
      { s with pins := { s.pins with resetLow := true, sleepLow := false } }

/-- RESET_N_RELEASE: step 1 starts within 100 us (R427). -/
def execResetNRelease (s : State) : Out :=
  .next <|
    if !s.pins.resetLow then s
    else
      let s := { s with pins := { s.pins with resetLow := false } }
      if !s.pins.powered ∨ s.pins.thermtripLow then s
      else if s.dev.state = .poweredOff then s.bootFromOff
      else s.startBoot s.image.isSome

/-- A wake from DEEP_STANDBY: SLEEP_N rises, and BOOT waits for the rails (R433). -/
def State.wakeDeep (s : State) : State :=
  { s with
    pins := { s.pins with sleepLow := false, railsPending := some s.clk.timeNs }
    dev := { s.dev with wakeCause := (true, false, false, 1023) } }

/-- WAKE_N_ASSERT (R392, R394, R427): it acts in STANDBY and DEEP_STANDBY, or as soon as an entry under way completes;
RESET_N low takes precedence. -/
def execWakeNAssert (lowNs : Nat) (s : State) : Out :=
  .next <|
    if !s.filtered lowNs then s.drawn
    else
      let s := s.drawn
      if !s.pins.powered ∨ s.pins.resetLow then s
      else if s.dev.state = .standby then s.standbyExit (true, false, false, 1023)
      else if s.dev.state = .deepStandby then (if s.pins.sleepLow then s.wakeDeep else s)
      else s.modDev fun d => { d with quiesce := d.quiesce.map fun q => { q with wake := some (q.wake.getD 1023) } }

/-- RAILS_IN_RANGE: BOOT starts from DEEP_STANDBY, with the event controller's retention registers (R389, R433). -/
def execRailsInRange (s : State) : Out :=
  .next <|
    if s.dev.state ≠ .deepStandby ∨ s.pins.railsPending.isNone then s
    else
      let s := s.clearAll true false
      (s.startBoot true).modDev fun d => { d with prior := .deepStandby }

/-- RAILS_RESTORE_TIMEOUT: 100 ms after SLEEP_N rose it falls again (R433). -/
def execRailsRestoreTimeout (s : State) : Out :=
  .next <|
    match s.pins.railsPending with
    | none => s
    | some t =>
      let s := s.advanceTo (t + 100000000)
      { s with pins := { s.pins with sleepLow := true, railsPending := none } }

/-- RAIL_UNDERVOLTAGE: a group B or C rail low for more than 10 us while SLEEP_N is high resets the K9, and its index is
the DETAIL of the next boot's first journal entry; a group A rail is a loss of power (R432). -/
def execRailUndervoltage (rail lowNs : Nat) (s : State) : Out :=
  .next <|
    if !s.pins.powered ∨ 12 ≤ rail then s
    else if 9 ≤ rail then s.losePower
    else if lowNs ≤ 10000 ∨ s.pins.sleepLow ∨ s.pins.railsPending.isSome ∨ s.dev.state = .poweredOff then s
    else
      let s := { s with pins := { s.pins with railDetail := some rail } }
      if s.pins.resetLow then s else s.resetInto false

/-! ### PPS_IN (R428) -/

/-- TIME_NS steps forward to `t`; the step is not time in which supplies were present (R417). -/
def State.stepTime (t : Nat) (s : State) : State :=
  let u := s.advanceTo t
  { u with
    clk := { u.clk with opRemNs := s.clk.opRemNs, slew := 0, slewFrac := 0 }
    rcd := { u.rcd with opSeconds := s.rcd.opSeconds } }

/-- An accepted edge at `t`: TIME_NS steps or slews. -/
def State.alignTime (t : Nat) (s : State) : State :=
  let second := 1000000000
  let e : Int := (t : Int) - ((t + second / 2) / second * second : Nat)
  let s := { s with clk := { s.clk with ppsError := e, ppsLocked := decide (-100 ≤ e ∧ e ≤ 100) } }
  let s :=
    if s.clk.ppsFirst then s.stepTime (ceilDiv t second * second)
    else if e < -10000 then s.stepTime (t + e.natAbs)
    else { s with clk := { s.clk with slew := -125 * e, slewFrac := 0 } }
  { s with clk := { s.clk with ppsFirst := false, ppsLast := some s.clk.timeNs } }

/-- PPS_IN_EDGE: an edge less than 999,000,000 ns after the last accepted one is rejected and counted. -/
def execPpsInEdge (stamp : Nat) (s : State) : Out :=
  .next <|
    if !s.pins.powered then s
    else
      let s := s.advanceTo stamp
      let t := s.clk.timeNs
      if s.clk.ppsLast.any fun p => decide (t < p + 999000000) then s.bump Reg.EL_CNT_PPS_REJECT
      else s.alignTime t

/-- PPS_LOST: 1,100 ms after the last accepted edge. -/
def execPpsLost (s : State) : Out :=
  .next <|
    match s.clk.ppsLast with
    | none => s
    | some p =>
      let s := s.advanceTo (p + 1100000000)
      let s := { s with clk := { s.clk with ppsLast := none, ppsFirst := true, ppsLocked := false } }
      s.occur Ev.PPS_LOST 0 0

/-! ### Throttling and the thermal trip (R325, R435) -/

/-- The level of a hottest sensor, in 0.1 C (Table EL-10). -/
def throttleLevel (hot : Nat) : Nat := if 1030 ≤ hot then 3 else if 1000 ≤ hot then 2 else if 970 ≤ hot then 1 else 0

/-- The threshold of a level. -/
def throttleThreshold (level : Nat) : Nat := if level = 3 then 1030 else if level = 2 then 1000 else 970

/-- The sensors' readings. -/
def State.setTemps (d0 d1 : Nat) (s : State) : State := { s with pins := { s.pins with tjD0 := d0, tjD1 := d1 } }

/-- The level changes, at most once per 1 ms. -/
def State.setThrottle (n : Nat) (s : State) : State :=
  let s := match s.pins.throttleAt with
    | some t => s.advanceTo (t + 1000000)
    | none => s
  let s := { s with pins := { s.pins with throttle := n, throttleAt := some s.clk.timeNs } }
  (s.bump Reg.EL_CNT_THROTTLE_CHANGES).occur Ev.THERMAL_THROTTLE 0 n

/-- Do the clocks that throttling gates run? -/
def State.running (s : State) : Bool :=
  s.pins.powered && !s.pins.resetLow && decide (s.dev.state ≠ .poweredOff ∧ s.dev.state ≠ .deepStandby)

/-- THROTTLE_LEVEL_RISE. -/
def execThrottleLevelRise (d0 d1 : Nat) (s : State) : Out :=
  .next <|
    if !s.running then s
    else
      let s := s.setTemps d0 d1
      let n := throttleLevel (max d0 d1)
      if s.pins.throttle < n then s.setThrottle n else s

/-- THROTTLE_LEVEL_FALL: one level, once the hottest sensor is 3 C below the level's threshold. -/
def execThrottleLevelFall (d0 d1 : Nat) (s : State) : Out :=
  .next <|
    if !s.running then s
    else
      let s := s.setTemps d0 d1
      if 0 < s.pins.throttle ∧ max d0 d1 + 30 ≤ throttleThreshold s.pins.throttle then s.setThrottle (s.pins.throttle - 1) else s

/-- THERMAL_TRIP: 112 C for 10 us drives THERMTRIP_N low and stops every clock but AON, with no reply or flush. -/
def execThermalTrip (heldNs : Nat) (s : State) : Out :=
  .next <|
    if !s.running ∨ heldNs < 10000 then s
    else
      let t := s.clk
      let s := s.powerDown
      { s with clk := t, pins := { s.pins with thermtripLow := true } }

/-! ### JTAG (R328, R430) -/

/-- Is a private instruction granted in the present debug state (Table SE-7)? -/
def jtagGranted (d : DebugState) : Jtag → Bool
  | .perfTrace | .csrScanRo => decide (d ≠ .sealed)
  | .memRead | .coreHalt | .csrWrite => decide (d = .opened ∨ d = .returning)
  | .scanChain => decide (d = .returning)
  | _ => true

/-- Does an instruction drive the lanes' boundary cells? -/
def jtagDrives : Jtag → Bool
  | .extest | .extestPulse | .extestTrain => true
  | _ => false

/-- JTAG_INSTRUCTION: one that may not act loads as BYPASS; a private one that is not granted counts SE_CNT_AUTH_FAIL. -/
def execJtagInstruction (i : Jtag) (s : State) : Out :=
  .next <|
    if !s.pins.powered then s
    else
      let load (j : Jtag) (s : State) : State := { s with pins := { s.pins with tap := j } }
      if !jtagGranted s.sec.debugSt i then (s.bump Reg.SE_CNT_AUTH_FAIL) |> load .bypass
      else if jtagDrives i ∧ !(s.pins.resetLow ∨ s.dev.state = .maintenance) then load .bypass s
      else if i = .idcode then (load i s).emit (.jtag 0x109A9F3B)
      else load i s

/-- TRST_N_ASSERT: the TAP controller is reset, which selects IDCODE (IEEE 1149.1; PRESUMED, log entry 32). -/
def execTrstNAssert (s : State) : Out :=
  .next <| if s.pins.powered then { s with pins := { s.pins with tap := .idcode } } else s

/-! ### The event controller's rows -/

/-- EVT_IN_CHANGE: a new sample of an EVT_IN pin, compared with the source's SENSE (R380). -/
def execEvtInChange (pin : Nat) (high : Bool) (s : State) : Out :=
  .next <|
    if 8 ≤ pin ∨ high = s.pins.evtIn.getLsbD pin then s
    else
      let x := s.source (16 + pin)
      let m := BitVec.ofNat 8 (2 ^ pin)
      let s := { s with pins := { s.pins with evtIn := if high then s.pins.evtIn ||| m else s.pins.evtIn &&& ~~~m } }
      if !s.pins.powered ∨ s.pins.resetLow ∨ s.dev.state = .poweredOff then s
      else
        let s := s.modSource (16 + pin) fun _ => { x with input := high }
        let fits := if high then x.sense == 0 || x.sense == 2 || x.sense == 4 else x.sense == 1 || x.sense == 3 || x.sense == 4
        if fits then s.raise (16 + pin) 0 0 else s

/-- Does the MGMT part of the event controller run? -/
def State.evcRuns (s : State) : Bool := s.running && decide (s.dev.state ≠ .standby)

/-- EVENT_OFFER: the most urgent PENDING event with an eligible target is offered (R385, R386). -/
def execEventOffer (s : State) : Out := .next <| if s.evcRuns then s.offerNext else s

/-- CLAIM_TIMEOUT: an offer on the main path is withdrawn, and the event offered to the next eligible target (R386). -/
def execClaimTimeout (ev : Nat) (s : State) : Out :=
  .next <|
    match s.ev.offers.find? fun o => o.ev == ev with
    | none => s
    | some o =>
      if (s.source ev).fallback ∨ !s.evcRuns then s
      else
        let s := s.advanceTo (o.timeNs + 1000 * s.field Reg.EVC_TIMING 31 16)
        let s := (s.modEv fun e => { e with
          offers := e.offers.filter fun q => q.ev != ev
          tried := e.tried.put ev (((e.tried.look ev).getD []) ++ o.targets) }).bump Reg.EVC_CNT_REOFFER
        match s.mainTarget ev with
        | none => s
        | some k =>
          let t := (s.ev.tried.look ev).getD []
          let fresh := (List.range 16).any fun j => s.eligible ev j && !t.contains j
          let s := if fresh then s else s.modEv fun e => { e with tried := e.tried.del ev }
          s.makeOffer ev [k]

/-- EVC_IDLE_TIMEOUT: with no event that can be offered, none ACTIVE and no offer out, the MGMT part goes fallow (R389). -/
def execEvcIdleTimeout (s : State) : Out :=
  .next <|
    if s.evcRuns ∧ s.offerable.isEmpty ∧ s.ev.offers.isEmpty ∧ !(s.ev.sources.any fun q => q.2.holder.isSome) then
      s.modEv fun e => { e with fallow := true }
    else s

/-- EVC_WAKE: a PENDING source with ENABLE and WAKE restores the controller (R389). -/
def execEvcWake (s : State) : Out :=
  .next <|
    if s.evcRuns ∧ s.ev.sources.any (fun q => q.2.pending && q.2.enable && q.2.wake) then
      s.modEv fun e => { e with fallow := false }
    else s

/-- EVT_SUBSCRIBE (0x6001): the lowest free index from 8 to 15; an OWNER may name only THERMAL_THROTTLE (R388). -/
def execEvtSubscribe (c : Ctx) (mask : List Nat) (address port : Nat) (s : State) : Out :=
  .next <| nirod (.evtSubscribe c mask address port) c (Cmd.fo 0x6001 Legal.R) Target.none (fun s =>
    let owner := decide (s.classOf c = some .owner)
    if mask.any fun e => decide (1023 < e) then invalid 0 s
    else if 2 ^ 128 ≤ address then invalid 1 s
    else if 65536 ≤ port then invalid 2 s
    else if owner && mask.any fun e => e != Ev.THERMAL_THROTTLE then fail St.NOT_AUTHORISED s
    else match s.ev.subs.lowestFree 8 8 with
      | none => fail St.NO_CAPACITY s
      | some k =>
        let u : Subscriber := { session := c.session, mask := mask, address := address, port := port, seq := 0, isOwner := owner }
        ok [.num k] (s.modEv fun e => { e with subs := e.subs.put k u, thresholds := e.thresholds.del k })) s

/-- A body on a subscriber of the command's own session. -/
def withSub (c : Ctx) (k : Nat) (f : State → Res) (s : State) : Res :=
  if (s.ev.subs.look k).any fun u => u.session == c.session then f s else fail St.NOT_FOUND s

/-- EVT_UNSUBSCRIBE (0x6002). -/
def execEvtUnsubscribe (c : Ctx) (sub : Nat) (s : State) : Out :=
  .next <| nirod (.evtUnsubscribe c sub) c (Cmd.fo 0x6002 Legal.A) Target.none
    (withSub c sub fun s => ok [] (s.unsubscribe sub)) s

/-- EVT_CLAIM (0x6003): the event, or 1,023 (R386). -/
def execEvtClaim (c : Ctx) (sub ev : Nat) (s : State) : Out :=
  .next <| nirod (.evtClaim c sub ev) c (Cmd.fo 0x6003 Legal.A) Target.none (withSub c sub fun s =>
    let r := s.claim sub (some ev)
    ok [.num r.1] r.2) s

/-- EVT_COMPLETE (0x6004): an event the subscriber does not hold changes nothing (R387). -/
def execEvtComplete (c : Ctx) (sub ev : Nat) (s : State) : Out :=
  .next <| nirod (.evtComplete c sub ev) c (Cmd.fo 0x6004 Legal.A) Target.none
    (withSub c sub fun s => ok [] (s.complete sub ev)) s

/-! ### HBM stacks (R19, R390) -/

/-- The mask of a stack. -/
def stackBit (k : Nat) : BitVec 8 := BitVec.ofNat 8 (2 ^ k)

/-- HBM_IDLE_TIMEOUT: a stack with no access enters self-refresh. -/
def execHbmIdleTimeout (stack : Nat) (s : State) : Out :=
  .next <|
    if s.running ∧ stack < (if s.dev.singleDie then 4 else 8) then s.modDev fun d => { d with hbmSr := d.hbmSr ||| stackBit stack }
    else s

/-- HBM_WAKE_DONE: a stack that an access has woken serves what it held. -/
def execHbmWakeDone (stack : Nat) (s : State) : Out :=
  .next <|
    if stack < 8 ∧ s.dev.hbmWaking.getLsbD stack then
      (s.modDev fun d => { d with
        hbmSr := d.hbmSr &&& ~~~(stackBit stack)
        hbmWaking := d.hbmWaking &&& ~~~(stackBit stack) }).settle
    else s

/-! ### STANDBY and DEEP_STANDBY (R391 to R394) -/

/-- The steps still open before the device is quiet. -/
def State.openSteps (s : State) : Nat :=
  s.memInflight + s.tx.own.length + s.work.seeds.length + s.work.ops.length + s.tx.fences.length + s.tx.fenceQ.length
    + s.pool.ioRunning.length

/-- Reply to a POWER_STATE_SET. -/
def State.answerPower (i q st : Nat) (items : List Item) (s : State) : State :=
  s.reply { session := i, seq := q, badItem := none } 0x6101 st items

/-- The states from which a target is legal (R372, R393, R413): a CONFIDENTIAL composition forbids DEEP_STANDBY, an update
that is being activated, confirmed or reverted forbids both. -/
def State.powerLegal (s : State) (target : Nat) : Nat :=
  if target = 0 ∨ 3 ≤ target then Legal.P
  else if s.fw.upd = .activating ∨ s.fw.upd = .pendingConfirm ∨ s.fw.upd = .reverting then 0
  else if target = 2 ∧ s.comps.any (fun q => q.2.confidential) then 0
  else Legal.RS

/-- Begin a POWER_STATE_SET that is legal: ACTIVE leaves STANDBY; the others withhold credits and wait for quiet. -/
def State.beginPower (i q target : Nat) (s : State) : State :=
  if target = 0 then
    let s := if s.dev.state = .standby then s.standbyExit (false, true, false, 1023) else s
    s.answerPower i q St.OK [.num s.dev.state.code]
  else
    s.modDev fun d => { d with
      creditsWithheld := true
      quiesce := some { session := i, seq := q, deep := decide (target = 2), startNs := s.clk.timeNs, wake := none, flushing := false } }

/-- POWER_STATE_SET (0x6101). One that arrives while another runs waits for it (R392). -/
def execPowerStateSet (c : Ctx) (target : Nat) (s : State) : Out :=
  .next <| nirodFull (.powerStateSet c target) c (Cmd.f 0x6101 Legal.P) Target.none (fun s => s.powerLegal target) (fun s =>
    if 3 ≤ target then invalid 0 s
    else if s.dev.quiesce.isSome then wait (s.modDev fun d => { d with powerWaiting := d.powerWaiting ++ [(c.session, c.seq, target)] })
    else wait (s.beginPower c.session c.seq target)) s

/-- Apply the POWER_STATE_SETs that waited, up to the first that has to wait for quiet itself. -/
def State.nextPower : Nat → State → State
  | 0, s => s
  | n + 1, s =>
    match s.dev.powerWaiting with
    | [] => s
    | (i, q, target) :: rest =>
      if s.dev.quiesce.isSome then s
      else
        let s := s.modDev fun d => { d with powerWaiting := rest }
        let legal := s.powerLegal target
        if bit legal s.dev.state.code then State.nextPower n (s.beginPower i q target)
        else State.nextPower n ((s.bump Reg.CM_CNT_WRONG_STATE).answerPower i q St.WRONG_STATE [.detail Det.CURRENT_STATE s.dev.state.code, .detail Det.LEGAL_STATES legal])

/-- An entry ends, and the credits flow again where the device stays in its state. -/
def State.endEntry (s : State) : State :=
  let s := s.modDev fun d => { d with quiesce := none, creditsWithheld := false }
  s.nextPower s.dev.powerWaiting.length

/-- Ports go off (R391): their links end, their keys with them (R331). -/
def State.portsOff (s : State) : State :=
  s.links.keys.foldl (fun s p => (s.leaveUp p .disabled).modPort p fun l => { l with st := .disabled, cryptOn := false }) s

/-- Background moves stop, to go on later. -/
def State.stopMoves (s : State) : State :=
  let again : List Background := s.pool.moves.map fun m =>
    { extent := m.extent, leaf := m.leaf, kind := m.kind
      tray := (((s.extent m.extent).bind fun x => x.chunkOf m.leaf).map Chunk.tray).getD 0 }
  s.modPool fun p => { p with moves := [], background := again ++ p.background }

/-- STANDBY entry, once the device is quiet (R391 step 4). -/
def State.enterStandby (q : Quiesce) (s : State) : State :=
  let s := s.stopMoves.flushRecords.portsOff
  let s := (List.range' 1 7).foldl (fun s k => s.targetGone k) s
  let rest (p : Press) : Press := { p with
    state := if p.state = .offline ∨ p.state = .resetting then p.state else .fallow
    ctx := none
    store := []
    norms := none }
  let s := { s with
    presses := s.presses.each fun _ p => rest p
    ev := { s.ev with fallow := true }
    dev := { s.dev with
      hbmSr := 0xFF
      hbmWaking := 0
      coresOn := 1
      ctrlListen := true
      pausedAt := some s.clk.timeNs
      resume := s.dev.state
      quiesce := none } }
  let s := ((s.enter .standby).bump Reg.PWR_CNT_STANDBY_ENTRIES).answerPower q.session q.seq St.OK [.num 2]
  let s := match q.wake with
    | some ev => s.standbyExit (decide (ev = 1023), false, decide (ev ≠ 1023), ev)
    | none => s
  s.nextPower s.dev.powerWaiting.length

/-- Lines that DEEP_STANDBY entry still recalls, and copies that it still writes back (R393 steps 1 and 2). -/
def State.deepPending (s : State) : Bool :=
  (s.coh.any fun q => q.2.dir.any fun e => decide (e.2.state ≠ .reclaimed))
    || (s.pool.extents.any fun q => q.2.chunks.any fun c => c.2.t1Dirty || c.2.t0.any fun f => f.2.dirty)

/-- Start the recall of every line and the write-back of every dirty copy. -/
def State.startFlush (s : State) : State :=
  let s := s.modDev fun d => { d with quiesce := d.quiesce.map fun q => { q with flushing := true } }
  let s := s.coh.foldl (fun s q =>
    (List.filter (fun (e : Nat × DirEntry) => decide (e.2.state ≠ .reclaimed)) q.2.dir).foldl (fun s e => s.recallLine q.1 16 e.1) s) s
  s.pool.extents.foldl (fun s q =>
    let s := s.writeBackExtent q.1 .writeBack
    q.2.chunks.foldl (fun s c => if c.2.t1Dirty then s.programChunk q.1 c.1 else s) s) s

/-- Trays with room for one copy of the save image: an attached tray with a free T1 frame. -/
def State.imageTrays (s : State) : Nat :=
  countIf (List.range 24) fun t => s.trayUp t && decide (137 ≤ s.t1Free 256 t)

/-- What the save image keeps of an extent: T0 is lost, and the commands that waited have lost their sessions. -/
def Extent.saved (x : Extent) : Extent :=
  { x with
    chunks := x.chunks.each fun _ c => { c with t0 := [], arriving := [] }
    sealer := none
    drainers := []
    rekeying := false
    replicaFetch := [] }

/-- What it keeps of a composition: binding keys are not sealed (Table SE-9). -/
def Comp.saved (c : Comp) : Comp :=
  { c with
    bindSlots := []
    windowEnd := none
    prevMap := []
    evicting := none
    destroyer := none }

/-- The save image (R393 step 3). -/
def State.saveImage (s : State) : SaveImage where
  bank := s.activeBank
  comps := s.comps.each fun _ c => c.saved
  pool := { s.pool with
    extents := s.pool.extents.each fun _ x => x.saved
    moves := []
    background := []
    xlat := [] }
  fmap := s.fmap
  groups := s.work.groups
  nextGroup := s.work.nextGroup
  coh := s.coh.each fun _ d => { d with snoops := [], grants := [], recaller := none }

/-- DEEP_STANDBY entry, steps 3 to 6 of R393; a wake that arrived meanwhile acts as soon as SLEEP_N falls (R433). -/
def State.enterDeep (q : Quiesce) (s : State) : State :=
  if s.imageTrays < 2 then (s.answerPower q.session q.seq St.NO_CAPACITY []).endEntry
  else
    let s := (s.flushRecords.bump Reg.SE_CNT_ZEROISE).answerPower q.session q.seq St.OK
      [.num 1, .num ((s.clk.timeNs - q.startNs) / 1000)]
    let prior := s.dev.state
    let s := { s with image := some s.saveImage, dev := { s.dev with pausedAt := some s.clk.timeNs } }
    let subs := s.ev.subs.keys
    let s := subs.foldl (fun s k => s.unsubscribe k) s
    let s := (List.range 8).foldl (fun s k => s.targetGone k) s
    let s := s.clearAll true false
    let s := { s with
      dev := { s.dev with state := .deepStandby, prior := prior, coresOn := 0 }
      pins := { s.pins with sleepLow := true } }
    if q.wake.any fun ev => ev == 1023 then s.wakeDeep else s

/-- An entry whose device has left READY and SERVING meanwhile cannot go on. -/
def State.entryLost (q : Quiesce) (s : State) : State :=
  ((s.bump Reg.CM_CNT_WRONG_STATE).answerPower q.session q.seq St.WRONG_STATE [.detail Det.CURRENT_STATE s.dev.state.code, .detail Det.LEGAL_STATES Legal.RS]).endEntry

/-- Is the device still where an entry may go on? -/
def State.entryOpen (s : State) : Bool := decide (s.dev.state = .ready) || decide (s.dev.state = .serving)

/-- QUIESCE_COMPLETE: the device is quiet (R391). For DEEP_STANDBY the first one starts the recalls and write-backs, and
the entry ends when they have ended. -/
def execQuiesceComplete (s : State) : Out :=
  .next <|
    match s.dev.quiesce with
    | none => s
    | some q =>
      if !s.entryOpen then s.entryLost q
      else if s.openSteps ≠ 0 then s
      else if !q.deep then s.enterStandby q
      else if s.deepPending then (if q.flushing then s else s.startFlush)
      else s.enterDeep q

/-- QUIESCE_TIMEOUT: the device is not quiet within QUIESCE_MS; credits return, and the command fails (R391 step 3). -/
def execQuiesceTimeout (s : State) : Out :=
  .next <|
    match s.dev.quiesce with
    | none => s
    | some q =>
      if !s.entryOpen then s.entryLost q
      else if s.openSteps = 0 ∨ q.flushing then s
      else
        let s := s.advanceTo (q.startNs + 1000000 * s.field Reg.PWR_QUIESCE 15 0)
        ((s.bump Reg.PWR_CNT_QUIESCE_FAIL).answerPower q.session q.seq St.EXTENT_BUSY [.num s.openSteps]).endEntry

end Sys2Proof.Machine
end

