-- ==== Sys2Proof/Machine/Tx.lean ====
section
/-! DEFINITION. Fabric transactions (chapter 08): LOAD to GFP_RESPONSE_RECEIVE, FENCE, timeouts, and packets for other
nodes. -/

namespace Sys2Proof.Machine

/-- LOAD (0x01): checked by R22 and served from the tier that holds its lines. -/
def execLoad (h : Hdr) (s : State) : Out := .next (s.request { opcode := 0x01, hdr := h, data := [] })

/-- STORE (0x02). -/
def execStore (h : Hdr) (data : List Byte) (s : State) : Out := .next (s.request { opcode := 0x02, hdr := h, data := data })

/-- AT_ADD32 (0x10). -/
def execAtAdd32 (h : Hdr) (data : List Byte) (s : State) : Out := .next (s.request { opcode := 0x10, hdr := h, data := data })

/-- AT_ADD64 (0x11). -/
def execAtAdd64 (h : Hdr) (data : List Byte) (s : State) : Out := .next (s.request { opcode := 0x11, hdr := h, data := data })

/-- AT_SWAP32 (0x12). -/
def execAtSwap32 (h : Hdr) (data : List Byte) (s : State) : Out := .next (s.request { opcode := 0x12, hdr := h, data := data })

/-- AT_SWAP64 (0x13). -/
def execAtSwap64 (h : Hdr) (data : List Byte) (s : State) : Out := .next (s.request { opcode := 0x13, hdr := h, data := data })

/-- AT_CAS32 (0x14). -/
def execAtCas32 (h : Hdr) (data : List Byte) (s : State) : Out := .next (s.request { opcode := 0x14, hdr := h, data := data })

/-- AT_CAS64 (0x15). -/
def execAtCas64 (h : Hdr) (data : List Byte) (s : State) : Out := .next (s.request { opcode := 0x15, hdr := h, data := data })

/-- AT_MIN32 (0x16). -/
def execAtMin32 (h : Hdr) (data : List Byte) (s : State) : Out := .next (s.request { opcode := 0x16, hdr := h, data := data })

/-- AT_MIN64 (0x17). -/
def execAtMin64 (h : Hdr) (data : List Byte) (s : State) : Out := .next (s.request { opcode := 0x17, hdr := h, data := data })

/-- AT_MAX32 (0x18). -/
def execAtMax32 (h : Hdr) (data : List Byte) (s : State) : Out := .next (s.request { opcode := 0x18, hdr := h, data := data })

/-- AT_MAX64 (0x19). -/
def execAtMax64 (h : Hdr) (data : List Byte) (s : State) : Out := .next (s.request { opcode := 0x19, hdr := h, data := data })

/-! ### FENCE (R203, R204) -/

/-- FENCE (0x20): it queues at the K9 that holds its source's port; at any other K9 it gets ST_INVALID_PARAM. Only an
ACCEL port has a source of its own. -/
def execFence (h : Hdr) (data : List Byte) (s : State) : Out :=
  .next <|
    let p : Packet := { opcode := 0x20, hdr := h, data := data }
    let r := s.ingress p
    match r.2 with
    | none => r.1
    | some _ =>
      if ((r.1.links.look h.lport).any fun l => decide (l.role = .accel)) then
        r.1.modTx fun x => { x with fenceQ := x.fenceQ ++ [p] }
      else r.1.respond 0x20 h St.INVALID_PARAM []

/-- The destinations of a FENCE with the next SRC_SEQ sent to each: those listed, or every one with writes open. -/
def State.fenceMarks (s : State) (p : Packet) (c : Nat) : List (Nat × Nat) :=
  let n := leAt p.data 4 2
  let listed := (List.range n).map fun i => leAt p.data (8 + 2 * i) 2
  (s.tx.tracks.filter fun t => t.lport == p.hdr.lport && t.comp == c && (n == 0 || listed.contains t.dst)).map
    fun t => (t.dst, t.next)

/-- FENCE_DEQUEUE: the oldest FENCE of a port leaves the ingress queue when fewer than 16 are open there; it records its
marks and its deadline starts (R203, R204). -/
def execFenceDequeue (lport : Nat) (s : State) : Out :=
  .next <|
    match s.tx.fenceQ.find? fun p => p.hdr.lport == lport with
    | none => s
    | some p =>
      if 16 ≤ countIf s.tx.fences fun f => f.pkt.hdr.lport == lport then s
      else match s.boundTo lport with
        | none => s.modTx fun x => { x with fenceQ := x.fenceQ.erase p }
        | some (c, _) =>
          let us := leAt p.data 0 3
          let us := if us = 0 then s.field Reg.TX_FENCE_DEADLINE_US 23 0 else us
          let f : Fence := { pkt := p, comp := c, marks := s.fenceMarks p c, deadline := s.clk.timeNs + 1000 * us }
          s.modTx fun x => { x with fenceQ := x.fenceQ.erase p, fences := x.fences ++ [f] }

/-- Writes of a mark that are not acknowledged yet. -/
def State.fenceLeft (s : State) (f : Fence) (m : Nat × Nat) : Nat :=
  match s.tx.tracks.find? fun t => t.lport == f.pkt.hdr.lport && t.dst == m.1 && t.comp == f.comp with
  | none => 0
  | some t =>
    let d := seqDist m.2 t.acked
    if 2 ^ 31 ≤ d then 0
    else d - countIf t.above fun q => decide (seqDist q t.acked < d)

/-- Is a watermark short of its mark? -/
def State.fenceOpen (s : State) (f : Fence) : List (Nat × Nat) :=
  f.marks.filterMap fun m => if s.fenceLeft f m = 0 then none else some (m.1, s.fenceLeft f m)

/-- The open FENCE of a port with a tag. -/
def State.fenceOf (s : State) (lport tag : Nat) : Option Fence :=
  s.tx.fences.find? fun f => f.pkt.hdr.lport == lport && f.pkt.hdr.tag == tag

/-- End an open FENCE with its response. -/
def State.endFence (f : Fence) (st : Nat) (data : List Byte) (s : State) : State :=
  (s.modTx fun x => { x with fences := x.fences.erase f }).respond 0x20 f.pkt.hdr st data

/-- FENCE_COMPLETE: every recorded watermark is reached and FENCE_RESP ST_OK is sent (R203); nothing happens before. -/
def execFenceComplete (lport tag : Nat) (s : State) : Out :=
  .next <|
    match s.fenceOf lport tag with
    | none => s
    | some f => if (s.fenceOpen f).isEmpty then s.endFence f St.OK [] else s

/-- FENCE_DEADLINE: the deadline passes first; ST_FENCE_INCOMPLETE lists the destinations outstanding (R204). -/
def execFenceDeadline (lport tag : Nat) (s : State) : Out :=
  .next <|
    match s.fenceOf lport tag with
    | none => s
    | some f =>
      let s := s.advanceTo f.deadline
      let left := (s.fenceOpen f).foldl (fun (m : NMap Nat) q => m.put q.1 q.2) []
      if left.isEmpty then s.endFence f St.OK []
      else (s.bumpComp f.comp Reg.TX_CNT_FENCE_INCOMPLETE).endFence f St.FENCE_INCOMPLETE
        ((left.take 512).flatMap fun q => leBytes 2 q.1 ++ leBytes 2 0 ++ leBytes 4 q.2)

/-! ### Responses and forwarding -/

/-- Is a response opcode defined (Table TX-2)? -/
def responseDefined (op : Nat) : Bool :=
  [0x81, 0x82, 0xA0, 0xB0].contains op || decide (0x90 ≤ op ∧ op ≤ 0x99) || decide (0xC0 ≤ op ∧ op ≤ 0xC4)
    || decide (0xD0 ≤ op ∧ op ≤ 0xD2)

/-- The agent of a snoop answer: the domain and index at the answering node with the line open. -/
def State.snooped (s : State) (node line kind : Nat) : Option (Nat × Nat) :=
  s.coh.findSome? fun q => (q.2.agents.findKey fun _ a => a.node == node).bind fun a =>
    if q.2.snoops.any fun x => x.line == line && x.agent == a && x.kind == kind then some (q.1, a) else none

/-- A request of the K9's own is no longer open. -/
def State.closeOwn (tag : Nat) (s : State) : State := s.modTx fun x => { x with own := x.own.del tag }

/-- GFP_RESPONSE_RECEIVE: a response for this K9 closes its own request (R187), one for another node is forwarded and
moves the FENCE watermark at the source's port; a response that is malformed, unbound or matched by no open request is
discarded and counted (R182, R184, R193, R287). The bytes of a drill, replica or ledger response are taken in by the
rows that name their arrival. -/
def execGfpResponseReceive (p : Packet) (s : State) : Out :=
  .next <|
    let h := p.hdr
    match s.links.look h.lport with
    | none => s
    | some l =>
      if !s.portRuns h.lport then s
      else
        let s := (s.mirror h.lport false p).takeIngress p
        if l.role = Role.analysis then s.bumpPort h.lport Reg.LK_CNT_RX_DISCARD
        else if h.crc ≠ h.goodCrc p.opcode then s.bump Reg.TX_CNT_HDR_CRC
        else if l.role = Role.tray then s.bump Reg.TX_CNT_BINDING
        else if !s.topo.assigned then s.bump Reg.TP_CNT_NO_ROUTE
        else if !responseDefined p.opcode || h.resv != 0 || h.release then s.bump Reg.TX_CNT_MALFORMED
        else if (s.bindingOf l h).isNone then s.bump Reg.TX_CNT_BINDING
        else if h.dst ≠ s.topo.node then s.route p none
        else match s.tx.own.look h.tag with
          | none => s.bump Reg.TX_CNT_MALFORMED
          | some o =>
            if o.pkt.hdr.dst ≠ h.src ∨ o.pkt.opcode + 0x80 ≠ p.opcode then s.bump Reg.TX_CNT_MALFORMED
            else if o.purpose = 3 then
              match s.snooped h.src (o.pkt.hdr.addr / 128) (o.pkt.opcode - 0x50) with
              | some (d, a) => s.answerSnoop d a (o.pkt.hdr.addr / 128) (some (o.pkt.opcode - 0x50)) p.data false
              | none => s.closeOwn h.tag
            else if o.purpose = 2 then
              let r := s.redRelay o.object p.data
              if r.2 then r.1.closeOwn h.tag else r.1
            else if o.purpose = 4 then (s.closeOwn h.tag).sendRecorded o.object
            else s.closeOwn h.tag

/-- PACKET_FORWARD: a request for another node passes steps 1 to 3 of R22 and leaves by a member of its route (R273); a
request for this node is not one of these, and is left to its own row. -/
def execPacketForward (p : Packet) (s : State) : Out :=
  .next <|
    if p.hdr.dst = s.topo.node ∨ 0x80 ≤ p.opcode then s
    else (s.ingress p).1

/-- RESPONSE_TIMEOUT: a request of the K9's own is sent again with RETRY set, up to TX_RETRY_LIMIT times; then it is given
up (R202): a replica fetch is tried again after 1 ms (R79), a partial for a root K9 ends its instance, and a ledger copy is
let go. Snoops have a timeout of their own (R219). -/
def execResponseTimeout (tag : Nat) (s : State) : Out :=
  .next <|
    match s.tx.own.look tag with
    | none => s
    | some o =>
      if o.purpose = 3 then s
      else if o.tries < s.field Reg.TX_RETRY_LIMIT 3 0 then
        let p := { o.pkt with hdr := ({ o.pkt.hdr with retry := true }).sealed o.pkt.opcode }
        (s.modTx fun x => { x with own := x.own.put tag { o with pkt := p, tries := o.tries + 1 } }).route p none
      else
        let s := s.closeOwn tag
        if o.purpose = 1 then
          s.modExtent (o.object / 2 ^ 32) fun x => { x with replicaFetch := x.replicaFetch.change (o.object % 2 ^ 32) fun _ => false }
        else if o.purpose = 2 then s.redAbort o.object St.OP_TIMEOUT none none
        else if o.purpose = 4 then s.sendRecorded o.object
        else s

/-- ATOMIC_HOLD_EXPIRY: a saved atomic response is dropped after TX_ATOMIC_HOLD_US (R198). -/
def execAtomicHoldExpiry (src comp seq : Nat) (s : State) : Out :=
  .next <|
    match (s.pair src comp).bind fun p => p.saved.find? fun v => v.seq == seq with
    | none => s
    | some v =>
      (s.advanceTo v.until_).modPair src comp fun p => { p with saved := p.saved.filter fun w => w.seq != seq }

end Sys2Proof.Machine
end

