-- ==== Sys2Proof/Machine/Dispatch.lean ====
section
/-! DEFINITION. One arm per command: a direct call of its meaning. -/

namespace Sys2Proof.Machine

def exec (i : Instr) (s : State) : Host.Outcome State Fault Refusal :=
  match i with
  | .powerOn => Sys2Proof.Machine.execPowerOn s
  | .powerLoss => Sys2Proof.Machine.execPowerLoss s
  | .resetNAssert lowNs => Sys2Proof.Machine.execResetNAssert lowNs s
  | .resetNRelease => Sys2Proof.Machine.execResetNRelease s
  | .bootStepTimeout => Sys2Proof.Machine.execBootStepTimeout s
  | .wakeNAssert lowNs => Sys2Proof.Machine.execWakeNAssert lowNs s
  | .railsInRange => Sys2Proof.Machine.execRailsInRange s
  | .railsRestoreTimeout => Sys2Proof.Machine.execRailsRestoreTimeout s
  | .railUndervoltage rail lowNs => Sys2Proof.Machine.execRailUndervoltage rail lowNs s
  | .ppsInEdge stamp => Sys2Proof.Machine.execPpsInEdge stamp s
  | .ppsLost => Sys2Proof.Machine.execPpsLost s
  | .evtInChange pin high => Sys2Proof.Machine.execEvtInChange pin high s
  | .throttleLevelRise d0 d1 => Sys2Proof.Machine.execThrottleLevelRise d0 d1 s
  | .throttleLevelFall d0 d1 => Sys2Proof.Machine.execThrottleLevelFall d0 d1 s
  | .thermalTrip heldNs => Sys2Proof.Machine.execThermalTrip heldNs s
  | .nirodPartReceive p => Sys2Proof.Machine.execNirodPartReceive p s
  | .partTimeout session seq => Sys2Proof.Machine.execPartTimeout session seq s
  | .sessionIdleTimeout session => Sys2Proof.Machine.execSessionIdleTimeout session s
  | .snapshotExpiry session snap => Sys2Proof.Machine.execSnapshotExpiry session snap s
  | .sessionOpen c cls compId spdm partBytes => Sys2Proof.Machine.execSessionOpen c cls compId spdm partBytes s
  | .sessionClose c => Sys2Proof.Machine.execSessionClose c s
  | .nop c => Sys2Proof.Machine.execNop c s
  | .deviceInfo c => Sys2Proof.Machine.execDeviceInfo c s
  | .deviceStateSet c target => Sys2Proof.Machine.execDeviceStateSet c target s
  | .deviceReset c => Sys2Proof.Machine.execDeviceReset c s
  | .csrRead c addrs => Sys2Proof.Machine.execCsrRead c addrs s
  | .csrWrite c pairs => Sys2Proof.Machine.execCsrWrite c pairs s
  | .colophon c snap offset => Sys2Proof.Machine.execColophon c snap offset s
  | .compCreate c r => Sys2Proof.Machine.execCompCreate c r s
  | .sliceEvictionDone h => Sys2Proof.Machine.execSliceEvictionDone h s
  | .compDestroy c h => Sys2Proof.Machine.execCompDestroy c h s
  | .compDestroyDone h => Sys2Proof.Machine.execCompDestroyDone h s
  | .compMemberAdd c h lport node => Sys2Proof.Machine.execCompMemberAdd c h lport node s
  | .compMemberRemove c h lport reclaim => Sys2Proof.Machine.execCompMemberRemove c h lport reclaim s
  | .compRenew c h member => Sys2Proof.Machine.execCompRenew c h member s
  | .compPressSet c h mask => Sys2Proof.Machine.execCompPressSet c h mask s
  | .compInfo c h => Sys2Proof.Machine.execCompInfo c h s
  | .compMeterRead c h => Sys2Proof.Machine.execCompMeterRead c h s
  | .compStats c h => Sys2Proof.Machine.execCompStats c h s
  | .compObserverSet c h digests => Sys2Proof.Machine.execCompObserverSet c h digests s
  | .cohDomainCreate c h onchip overflow => Sys2Proof.Machine.execCohDomainCreate c h onchip overflow s
  | .cohDomainDestroy c d => Sys2Proof.Machine.execCohDomainDestroy c d s
  | .cohAgentAdd c d idx node lport hops => Sys2Proof.Machine.execCohAgentAdd c d idx node lport hops s
  | .cohAgentRemove c d idx reclaim => Sys2Proof.Machine.execCohAgentRemove c d idx reclaim s
  | .cohExtentAttach c d e => Sys2Proof.Machine.execCohExtentAttach c d e s
  | .cohExtentDetach c d e => Sys2Proof.Machine.execCohExtentDetach c d e s
  | .cohRecallDone d => Sys2Proof.Machine.execCohRecallDone d s
  | .cohReclaimClear c d e => Sys2Proof.Machine.execCohReclaimClear c d e s
  | .cohDomainInfo c d => Sys2Proof.Machine.execCohDomainInfo c d s
  | .extentCreate c h r => Sys2Proof.Machine.execExtentCreate c h r s
  | .extentDestroy c e => Sys2Proof.Machine.execExtentDestroy c e s
  | .extentHint c e first count hint => Sys2Proof.Machine.execExtentHint c e first count hint s
  | .extentSeal c e => Sys2Proof.Machine.execExtentSeal c e s
  | .extentSealDone e replicaDigest => Sys2Proof.Machine.execExtentSealDone e replicaDigest s
  | .extentRevoke c e => Sys2Proof.Machine.execExtentRevoke c e s
  | .extentDrain c e => Sys2Proof.Machine.execExtentDrain c e s
  | .extentDrainDone e => Sys2Proof.Machine.execExtentDrainDone e s
  | .extentAdopt c e h => Sys2Proof.Machine.execExtentAdopt c e h s
  | .extentInfo c e => Sys2Proof.Machine.execExtentInfo c e s
  | .kvCreate c r => Sys2Proof.Machine.execKvCreate c r s
  | .kvPublish c k => Sys2Proof.Machine.execKvPublish c k s
  | .kvLookup c h key => Sys2Proof.Machine.execKvLookup c h key s
  | .kvAcquire c k => Sys2Proof.Machine.execKvAcquire c k s
  | .kvRelease c k => Sys2Proof.Machine.execKvRelease c k s
  | .kvRenew c k leaseS => Sys2Proof.Machine.execKvRenew c k leaseS s
  | .kvHint c k hint => Sys2Proof.Machine.execKvHint c k hint s
  | .kvDestroy c k => Sys2Proof.Machine.execKvDestroy c k s
  | .kvLeaseExpiry k => Sys2Proof.Machine.execKvLeaseExpiry k s
  | .vqCodebookSet c h cb addr => Sys2Proof.Machine.execVqCodebookSet c h cb addr s
  | .vqCodebookClear c h cb => Sys2Proof.Machine.execVqCodebookClear c h cb s
  | .vqCodebookInfo c h => Sys2Proof.Machine.execVqCodebookInfo c h s
  | .vqSlotStatus c e first count => Sys2Proof.Machine.execVqSlotStatus c e first count s
  | .reduceGroupCreate c h gid press members parent => Sys2Proof.Machine.execReduceGroupCreate c h gid press members parent s
  | .reduceGroupDestroy c h gid => Sys2Proof.Machine.execReduceGroupDestroy c h gid s
  | .ledgerOpen c h node ring entries depth copy => Sys2Proof.Machine.execLedgerOpen c h node ring entries depth copy s
  | .ledgerClose c job => Sys2Proof.Machine.execLedgerClose c job s
  | .nodeIdSet c node => Sys2Proof.Machine.execNodeIdSet c node s
  | .routeSet c first entries => Sys2Proof.Machine.execRouteSet c first entries s
  | .routeGet c first count => Sys2Proof.Machine.execRouteGet c first count s
  | .neighbourList c => Sys2Proof.Machine.execNeighbourList c s
  | .neighbourAccept c lport => Sys2Proof.Machine.execNeighbourAccept c lport s
  | .ftManagerSet c digests quorum sigs => Sys2Proof.Machine.execFtManagerSet c digests quorum sigs s
  | .expel c r => Sys2Proof.Machine.execExpel c r s
  | .readmit c r => Sys2Proof.Machine.execReadmit c r s
  | .ftExpelList c => Sys2Proof.Machine.execFtExpelList c s
  | .ftHealthGet c => Sys2Proof.Machine.execFtHealthGet c s
  | .spdmGetVersion c => Sys2Proof.Machine.execSpdmGetVersion c s
  | .spdmGetCapabilities c => Sys2Proof.Machine.execSpdmGetCapabilities c s
  | .spdmNegotiateAlgorithms c common => Sys2Proof.Machine.execSpdmNegotiateAlgorithms c common s
  | .spdmGetDigests c => Sys2Proof.Machine.execSpdmGetDigests c s
  | .spdmGetCertificate c => Sys2Proof.Machine.execSpdmGetCertificate c s
  | .spdmChallenge c nonce => Sys2Proof.Machine.execSpdmChallenge c nonce s
  | .spdmGetMeasurements c nonce => Sys2Proof.Machine.execSpdmGetMeasurements c nonce s
  | .spdmKeyExchange c => Sys2Proof.Machine.execSpdmKeyExchange c s
  | .spdmFinish c spdm sig => Sys2Proof.Machine.execSpdmFinish c spdm sig s
  | .spdmKeyUpdate c spdm toDevice => Sys2Proof.Machine.execSpdmKeyUpdate c spdm toDevice s
  | .spdmHeartbeat c spdm => Sys2Proof.Machine.execSpdmHeartbeat c spdm s
  | .spdmEndSession c spdm => Sys2Proof.Machine.execSpdmEndSession c spdm s
  | .secStatus c => Sys2Proof.Machine.execSecStatus c s
  | .secBindkeyGet c level => Sys2Proof.Machine.execSecBindkeyGet c level s
  | .weightBind c h addr sigOk unwrapOk => Sys2Proof.Machine.execWeightBind c h addr sigOk unwrapOk s
  | .weightUnbind c h slot => Sys2Proof.Machine.execWeightUnbind c h slot s
  | .secImport c h bounce len dest slot tags => Sys2Proof.Machine.execSecImport c h bounce len dest slot tags s
  | .secExport c h src len bounce => Sys2Proof.Machine.execSecExport c h src len bounce s
  | .debugEnter c t => Sys2Proof.Machine.execDebugEnter c t s
  | .debugExit c => Sys2Proof.Machine.execDebugExit c s
  | .reprovision c t => Sys2Proof.Machine.execReprovision c t s
  | .fmKeySet c slot digest => Sys2Proof.Machine.execFmKeySet c slot digest s
  | .evtSubscribe c mask address port => Sys2Proof.Machine.execEvtSubscribe c mask address port s
  | .evtUnsubscribe c sub => Sys2Proof.Machine.execEvtUnsubscribe c sub s
  | .evtClaim c sub ev => Sys2Proof.Machine.execEvtClaim c sub ev s
  | .evtComplete c sub ev => Sys2Proof.Machine.execEvtComplete c sub ev s
  | .powerStateSet c target => Sys2Proof.Machine.execPowerStateSet c target s
  | .quiesceComplete => Sys2Proof.Machine.execQuiesceComplete s
  | .quiesceTimeout => Sys2Proof.Machine.execQuiesceTimeout s
  | .fwUpdateBegin c m => Sys2Proof.Machine.execFwUpdateBegin c m s
  | .fwUpdateBlock c handle comp offset data => Sys2Proof.Machine.execFwUpdateBlock c handle comp offset data s
  | .fwUpdateVerify c handle => Sys2Proof.Machine.execFwUpdateVerify c handle s
  | .fwActivate c handle => Sys2Proof.Machine.execFwActivate c handle s
  | .unitSwitchDone u => Sys2Proof.Machine.execUnitSwitchDone u s
  | .switchPhaseTimeout u => Sys2Proof.Machine.execSwitchPhaseTimeout u s
  | .healthConfirm c => Sys2Proof.Machine.execHealthConfirm c s
  | .confirmWindowExpiry => Sys2Proof.Machine.execConfirmWindowExpiry s
  | .fwUpdateAbort c handle => Sys2Proof.Machine.execFwUpdateAbort c handle s
  | .revertDone u => Sys2Proof.Machine.execRevertDone u s
  | .fwStatus c => Sys2Proof.Machine.execFwStatus c s
  | .recList c => Sys2Proof.Machine.execRecList c s
  | .recRead c ids => Sys2Proof.Machine.execRecRead c ids s
  | .recClear c ids t => Sys2Proof.Machine.execRecClear c ids t s
  | .ftUnfence c press engine sweepOk => Sys2Proof.Machine.execFtUnfence c press engine sweepOk s
  | .ftInject c cls unit leaf start count interval => Sys2Proof.Machine.execFtInject c cls unit leaf start count interval s
  | .rehearsalInjection handle => Sys2Proof.Machine.execRehearsalInjection handle s
  | .pressReset c press => Sys2Proof.Machine.execPressReset c press s
  | .pressResetDone press microOk failed => Sys2Proof.Machine.execPressResetDone press microOk failed s
  | .lockSet c addr value => Sys2Proof.Machine.execLockSet c addr value s
  | .evcSoftSetWrite c value => Sys2Proof.Machine.execEvcSoftSetWrite c value s
  | .evcPendingClear c value setInSameCycle => Sys2Proof.Machine.execEvcPendingClear c value setInSameCycle s
  | .evcTgtClaimRead core => Sys2Proof.Machine.execEvcTgtClaimRead core s
  | .evcTgtCompleteWrite core value => Sys2Proof.Machine.execEvcTgtCompleteWrite core value s
  | .swHistClear c value => Sys2Proof.Machine.execSwHistClear c value s
  | .swQShaperWrite c addr value => Sys2Proof.Machine.execSwQShaperWrite c addr value s
  | .furrowSlotWrite c slot value => Sys2Proof.Machine.execFurrowSlotWrite c slot value s
  | .jrnClearPaths c value => Sys2Proof.Machine.execJrnClearPaths c value s
  | .jrnSelWrite c value => Sys2Proof.Machine.execJrnSelWrite c value s
  | .recClogSelWrite c value => Sys2Proof.Machine.execRecClogSelWrite c value s
  | .lkPortEnable c value => Sys2Proof.Machine.execLkPortEnable c value s
  | .lkPortDisable c value => Sys2Proof.Machine.execLkPortDisable c value s
  | .lkSplitSet c value => Sys2Proof.Machine.execLkSplitSet c value s
  | .signalDetect lport => Sys2Proof.Machine.execSignalDetect lport s
  | .signalLoss lport => Sys2Proof.Machine.execSignalLoss lport s
  | .detectDone lport => Sys2Proof.Machine.execDetectDone lport s
  | .laneLockDone lport polInv => Sys2Proof.Machine.execLaneLockDone lport polInv s
  | .alignDone lport linkId farPort reversed orderOk => Sys2Proof.Machine.execAlignDone lport linkId farPort reversed orderOk s
  | .equalizeDone lport preset => Sys2Proof.Machine.execEqualizeDone lport preset s
  | .fastEqualizeFail lport => Sys2Proof.Machine.execFastEqualizeFail lport s
  | .linkInitDone lport far => Sys2Proof.Machine.execLinkInitDone lport far s
  | .trainingStepTimeout lport => Sys2Proof.Machine.execTrainingStepTimeout lport s
  | .dataFlitReceive lport t packets => Sys2Proof.Machine.execDataFlitReceive lport t packets s
  | .idleFlitReceive lport t => Sys2Proof.Machine.execIdleFlitReceive lport t s
  | .fallowReqReceive lport => Sys2Proof.Machine.execFallowReqReceive lport s
  | .fallowAckReceive lport => Sys2Proof.Machine.execFallowAckReceive lport s
  | .keySwitchReceive lport keyClass => Sys2Proof.Machine.execKeySwitchReceive lport keyClass s
  | .nakReceive lport ackSeq => Sys2Proof.Machine.execNakReceive lport ackSeq s
  | .ackStallTimeout lport => Sys2Proof.Machine.execAckStallTimeout lport s
  | .nakResendTimeout lport => Sys2Proof.Machine.execNakResendTimeout lport s
  | .linkKeyEstablished lport => Sys2Proof.Machine.execLinkKeyEstablished lport s
  | .rekeyDue lport => Sys2Proof.Machine.execRekeyDue lport s
  | .portIdleTimeout lport => Sys2Proof.Machine.execPortIdleTimeout lport s
  | .fallowLockBurst lport => Sys2Proof.Machine.execFallowLockBurst lport s
  | .wakeToneReceive lport => Sys2Proof.Machine.execWakeToneReceive lport s
  | .portWakeDone lport => Sys2Proof.Machine.execPortWakeDone lport s
  | .portWakeTimeout lport => Sys2Proof.Machine.execPortWakeTimeout lport s
  | .pressIdleTimeout press => Sys2Proof.Machine.execPressIdleTimeout press s
  | .pressFallowDone press => Sys2Proof.Machine.execPressFallowDone press s
  | .pressWakeDone press => Sys2Proof.Machine.execPressWakeDone press s
  | .hbmIdleTimeout stack => Sys2Proof.Machine.execHbmIdleTimeout stack s
  | .hbmWakeDone stack => Sys2Proof.Machine.execHbmWakeDone stack s
  | .evcIdleTimeout => Sys2Proof.Machine.execEvcIdleTimeout s
  | .evcWake => Sys2Proof.Machine.execEvcWake s
  | .eventOffer => Sys2Proof.Machine.execEventOffer s
  | .claimTimeout ev => Sys2Proof.Machine.execClaimTimeout ev s
  | .watchdogExpiry core => Sys2Proof.Machine.execWatchdogExpiry core s
  | .escapeWaitExpiry lport vc => Sys2Proof.Machine.execEscapeWaitExpiry lport vc s
  | .spillFetchDone lport queue => Sys2Proof.Machine.execSpillFetchDone lport queue s
  | .shaperRefill => Sys2Proof.Machine.execShaperRefill s
  | .queueSample => Sys2Proof.Machine.execQueueSample s
  | .egressSend lport => Sys2Proof.Machine.execEgressSend lport s
  | .furrowSlotChange => Sys2Proof.Machine.execFurrowSlotChange s
  | .load h => Sys2Proof.Machine.execLoad h s
  | .store h data => Sys2Proof.Machine.execStore h data s
  | .atAdd32 h data => Sys2Proof.Machine.execAtAdd32 h data s
  | .atAdd64 h data => Sys2Proof.Machine.execAtAdd64 h data s
  | .atSwap32 h data => Sys2Proof.Machine.execAtSwap32 h data s
  | .atSwap64 h data => Sys2Proof.Machine.execAtSwap64 h data s
  | .atCas32 h data => Sys2Proof.Machine.execAtCas32 h data s
  | .atCas64 h data => Sys2Proof.Machine.execAtCas64 h data s
  | .atMin32 h data => Sys2Proof.Machine.execAtMin32 h data s
  | .atMin64 h data => Sys2Proof.Machine.execAtMin64 h data s
  | .atMax32 h data => Sys2Proof.Machine.execAtMax32 h data s
  | .atMax64 h data => Sys2Proof.Machine.execAtMax64 h data s
  | .fence h data => Sys2Proof.Machine.execFence h data s
  | .fenceDequeue lport => Sys2Proof.Machine.execFenceDequeue lport s
  | .fenceComplete lport tag => Sys2Proof.Machine.execFenceComplete lport tag s
  | .fenceDeadline lport tag => Sys2Proof.Machine.execFenceDeadline lport tag s
  | .chReadShared h => Sys2Proof.Machine.execChReadShared h s
  | .chReadOwn h => Sys2Proof.Machine.execChReadOwn h s
  | .chUpgrade h => Sys2Proof.Machine.execChUpgrade h s
  | .chWriteback h data => Sys2Proof.Machine.execChWriteback h data s
  | .chEvictClean h => Sys2Proof.Machine.execChEvictClean h s
  | .snpInvalidateResp d agent line data => Sys2Proof.Machine.execSnpInvalidateResp d agent line data s
  | .snpShareResp d agent line data => Sys2Proof.Machine.execSnpShareResp d agent line data s
  | .snpOwnResp d agent line data => Sys2Proof.Machine.execSnpOwnResp d agent line data s
  | .snoopTimeout d agent line => Sys2Proof.Machine.execSnoopTimeout d agent line s
  | .gfpResponseReceive p => Sys2Proof.Machine.execGfpResponseReceive p s
  | .packetForward p => Sys2Proof.Machine.execPacketForward p s
  | .responseTimeout tag => Sys2Proof.Machine.execResponseTimeout tag s
  | .atomicHoldExpiry src comp seq => Sys2Proof.Machine.execAtomicHoldExpiry src comp seq s
  | .noRouteWaitExpiry held => Sys2Proof.Machine.execNoRouteWaitExpiry held s
  | .heldRequestSend held => Sys2Proof.Machine.execHeldRequestSend held s
  | .probe lport r => Sys2Proof.Machine.execProbe lport r s
  | .probeAnswer lport r => Sys2Proof.Machine.execProbeAnswer lport r s
  | .probeInterval => Sys2Proof.Machine.execProbeInterval s
  | .labNodeCandidate => Sys2Proof.Machine.execLabNodeCandidate s
  | .routeUpdateWithdraw h epoch count resv nodes => Sys2Proof.Machine.execRouteUpdateWithdraw h epoch count resv nodes s
  | .routeUpdateRestore h epoch count resv nodes => Sys2Proof.Machine.execRouteUpdateRestore h epoch count resv nodes s
  | .routeUpdateAck h => Sys2Proof.Machine.execRouteUpdateAck h s
  | .fill h d => Sys2Proof.Machine.execFill h d s
  | .copy h d => Sys2Proof.Machine.execCopy h d s
  | .compare h d => Sys2Proof.Machine.execCompare h d s
  | .nmReduce h d => Sys2Proof.Machine.execNmReduce h d s
  | .nmLeafDone op leaf => Sys2Proof.Machine.execNmLeafDone op leaf s
  | .allReduce h d => Sys2Proof.Machine.execAllReduce h d s
  | .reduceScatter h d => Sys2Proof.Machine.execReduceScatter h d s
  | .reduceToMem h d => Sys2Proof.Machine.execReduceToMem h d s
  | .reduceSegment h seg data => Sys2Proof.Machine.execReduceSegment h seg data s
  | .reduceBlockDone op block => Sys2Proof.Machine.execReduceBlockDone op block s
  | .reduceInstanceTimeout op => Sys2Proof.Machine.execReduceInstanceTimeout op s
  | .gather h d => Sys2Proof.Machine.execGather h d s
  | .scatter h d => Sys2Proof.Machine.execScatter h d s
  | .filterPredicate h d => Sys2Proof.Machine.execFilterPredicate h d s
  | .filterThreshold h d => Sys2Proof.Machine.execFilterThreshold h d s
  | .filterTopk h d => Sys2Proof.Machine.execFilterTopk h d s
  | .filterBlockSelect h d => Sys2Proof.Machine.execFilterBlockSelect h d s
  | .attend h d => Sys2Proof.Machine.execAttend h d s
  | .encode h d => Sys2Proof.Machine.execEncode h d s
  | .opSubmitDequeue op => Sys2Proof.Machine.execOpSubmitDequeue op s
  | .opTimeout op => Sys2Proof.Machine.execOpTimeout op s
  | .seedActivate press => Sys2Proof.Machine.execSeedActivate press s
  | .seedCompletionReceive press op index => Sys2Proof.Machine.execSeedCompletionReceive press op index s
  | .drillLeafArrive seed answer => Sys2Proof.Machine.execDrillLeafArrive seed answer s
  | .blockRefetchDone seed copy => Sys2Proof.Machine.execBlockRefetchDone seed copy s
  | .codebookLoadDone press cb => Sys2Proof.Machine.execCodebookLoadDone press cb s
  | .chainStart press => Sys2Proof.Machine.execChainStart press s
  | .verdictReady press engine isMatch => Sys2Proof.Machine.execVerdictReady press engine isMatch s
  | .tieBreakDone press engine r => Sys2Proof.Machine.execTieBreakDone press engine r s
  | .chainCommit press engine => Sys2Proof.Machine.execChainCommit press engine s
  | .seedDone seed => Sys2Proof.Machine.execSeedDone seed s
  | .seedFailed seed => Sys2Proof.Machine.execSeedFailed seed s
  | .ledgerWriteApplied op lost => Sys2Proof.Machine.execLedgerWriteApplied op lost s
  | .scratchpadParityError press port slot again => Sys2Proof.Machine.execScratchpadParityError press port slot again s
  | .quantumExpiry press => Sys2Proof.Machine.execQuantumExpiry press s
  | .switchWindowExpiry press => Sys2Proof.Machine.execSwitchWindowExpiry press s
  | .contextScrubDone press => Sys2Proof.Machine.execContextScrubDone press s
  | .sweepPeriodStart => Sys2Proof.Machine.execSweepPeriodStart s
  | .sweepPassDone press engine pass => Sys2Proof.Machine.execSweepPassDone press engine pass s
  | .healthScoreTick => Sys2Proof.Machine.execHealthScoreTick s
  | .t1AccessDone e leaf mirror a => Sys2Proof.Machine.execT1AccessDone e leaf mirror a s
  | .t1LateThreshold e leaf => Sys2Proof.Machine.execT1LateThreshold e leaf s
  | .t2LateThreshold e leaf => Sys2Proof.Machine.execT2LateThreshold e leaf s
  | .stepDeadlineExpiry step => Sys2Proof.Machine.execStepDeadlineExpiry step s
  | .leafCopyDone e leaf => Sys2Proof.Machine.execLeafCopyDone e leaf s
  | .writeBackDone e leaf => Sys2Proof.Machine.execWriteBackDone e leaf s
  | .backgroundMoveStart tray => Sys2Proof.Machine.execBackgroundMoveStart tray s
  | .mirrorRebuildDone e chunk => Sys2Proof.Machine.execMirrorRebuildDone e chunk s
  | .replicaFetchDone e leaf ok => Sys2Proof.Machine.execReplicaFetchDone e leaf ok s
  | .replicaFetchRetry e leaf => Sys2Proof.Machine.execReplicaFetchRetry e leaf s
  | .recencyTick => Sys2Proof.Machine.execRecencyTick s
  | .agePass => Sys2Proof.Machine.execAgePass s
  | .trayAttach tray g => Sys2Proof.Machine.execTrayAttach tray g s
  | .pageReadResult tray sheaf failed => Sys2Proof.Machine.execPageReadResult tray sheaf failed s
  | .retryStepResult tray sheaf page ok => Sys2Proof.Machine.execRetryStepResult tray sheaf page ok s
  | .softReadResult tray sheaf page ok => Sys2Proof.Machine.execSoftReadResult tray sheaf page ok s
  | .pageProgramResult tray sheaf failedDie => Sys2Proof.Machine.execPageProgramResult tray sheaf failedDie s
  | .blockEraseResult tray sb failedDie => Sys2Proof.Machine.execBlockEraseResult tray sb failedDie s
  | .pageRelocateResult tray sheaf failedPage => Sys2Proof.Machine.execPageRelocateResult tray sheaf failedPage s
  | .checkpointDue tray => Sys2Proof.Machine.execCheckpointDue tray s
  | .tempReadPoll tray deciC => Sys2Proof.Machine.execTempReadPoll tray deciC s
  | .patrolDue tray sb => Sys2Proof.Machine.execPatrolDue tray sb s
  | .compLeaseExpiry h => Sys2Proof.Machine.execCompLeaseExpiry h s
  | .memberLeaseExpiry h lport => Sys2Proof.Machine.execMemberLeaseExpiry h lport s
  | .drainWindowClose h => Sys2Proof.Machine.execDrainWindowClose h s
  | .recorderSample rec value => Sys2Proof.Machine.execRecorderSample rec value s
  | .recorderFlush => Sys2Proof.Machine.execRecorderFlush s
  | .extremeFlush => Sys2Proof.Machine.execExtremeFlush s
  | .coreRestartDone core => Sys2Proof.Machine.execCoreRestartDone core s
  | .bridgeFailure => Sys2Proof.Machine.execBridgeFailure s
  | .jtagInstruction what => Sys2Proof.Machine.execJtagInstruction what s
  | .trstNAssert => Sys2Proof.Machine.execTrstNAssert s
  | .neighbourDiscoveryEchoArp k => Sys2Proof.Machine.execNeighbourDiscoveryEchoArp k s
  | .bootStepDone ok unit detail => Sys2Proof.Machine.execBootStepDone ok unit detail s
  | .shadowLoadDone badComponent => Sys2Proof.Machine.execShadowLoadDone badComponent s
  | .secImportExportDone => Sys2Proof.Machine.execSecImportExportDone s
  | .macRekeyDone e => Sys2Proof.Machine.execMacRekeyDone e s
  | .transmitterHoldOffEnd lport => Sys2Proof.Machine.execTransmitterHoldOffEnd lport s

end Sys2Proof.Machine
end

