-- ==== Sys2Proof/Machine/Step.lean ====
section
/-! DEFINITION. One step of the block: it takes the command at the front of its queue. On an empty queue it runs the
oldest command that waited for a management core which has come back (R21), or lets one cycle of the AON clock pass. -/

namespace Sys2Proof.Machine

/-- One AON cycle (log entry 5): TIME_NS advances by 40 (R17), less or more while it is slewed (R428). Without power
nothing moves. Credits that are no longer withheld are announced (R228, R260). -/
def idle (s : State) : State := s.tickAon.announceAll

/-- The command at the front of the queue runs on the queue's rest. -/
def step (s : State) : Host.Outcome State Fault Refusal :=
  match s.pending with
  | [] => match s.nextDeferred with
    | some q => exec q.2 (s.dropDeferred q)
    | none => .next (idle s)
  | c :: rest => exec c { s with pending := rest }

/-- `s` with the command that a table word spells put at the front of its queue; the table gives no bits (Decode). -/
def State.withFetchWord (s : State) (nbits w : Nat) : State :=
  match Sys2Proof.decodeTableWord nbits w with
  | some i => { s with pending := i :: s.pending }
  | none => s

end Sys2Proof.Machine
end

