-- ==== Sys2Proof/Safety.lean ====
section
/-! DEFINITION. What claims about the block are stated in: when a management command passes the checks of R368, the state
its body then runs in, when a request's port speaks for a member, and the form that every step keeps. -/

namespace Sys2Proof.Machine

/-- The state in which the body of a Nirod command runs (R366, R369): its SEQ is recorded, unless NIROD_PART_RECEIVE has
recorded it, and the command counts as started. Session 0 keeps no sequence state (R363). -/
def State.taken (c : Ctx) (op : Nat) (tg : Target) (s : State) : State :=
  if c.session = 0 then s
  else (if s.waits c then s else (s.stepSix c.session c.seq op tg).2).start c

/-- Does a Nirod command pass steps 3 and 6 to 11 of R368, so that its body runs? The control port is up, its session is
open (or session 0 may send it), its SEQ is new or waits, its core runs, its class and the states permit it, nothing
supersedes it, and its items are well formed. -/
def State.admits (s : State) (c : Ctx) (k : Cmd) (tg : Target) (legalNow : State → Nat) : Bool :=
  let t := s.taken c k.op tg
  let sess := t.nirod.sessions.look c.session
  let cls := sess.bind Session.cls
  s.controlUp && !s.fw.romOnly
    && (if c.session = 0 then k.open_ && c.seq == 0
        else (s.waits c || (s.stepSix c.session c.seq k.op tg).1) && !t.dev.restarting.getLsbD (t.coreFor c.session))
    && (k.open_ || k.permits cls)
    && bit (legalNow t) t.dev.state.code
    && (tg.comp.bind fun h => checkComp k cls ((sess.map Session.comp).getD 256) h t).isNone
    && (cls.bind fun x => t.superseder c x k.op tg).isNone
    && c.badItem.isNone

/-- A Nirod command of row `k` with target `tg`, at `s`, passes every check of R368, and its body starts at `t`. -/
def State.starts (s t : State) (c : Ctx) (k : Cmd) (tg : Target) : Prop :=
  s.admits c k tg (fun _ => k.legal) = true ∧ t = s.taken c k.op tg

/-- The canonical form of everything that holds pool bytes: the pool, and the pool inside a save image (R393). -/
def State.MemOk (s : State) : Prop :=
  Memory.wf s.pool.mem = true ∧ (s.image.map fun m => Memory.wf m.pool.mem).getD true = true

end Sys2Proof.Machine
end

