-- ==== Sys2Proof/WellFormed.lean ====
section
/-! DEFINITION. Well-formed commands: every operand fits the field the spec gives it. A meaning does not rest on this:
it checks a field of an arriving packet or message itself where a rule says so. -/

namespace Sys2Proof

/-- A number that fits a field of `w` bits. -/
def fits (w n : Nat) : Bool := decide (n < 2 ^ w)

/-- The header of a Nirod message: SESSION_ID and SEQ of 32 bits (Table CM-1); session 0 carries SEQ 0 (R363). -/
def Ctx.wf (c : Ctx) : Bool := fits 32 c.session && fits 32 c.seq && (c.session != 0 || c.seq == 0)

/-- The fields of a GFP header at their widths, the port it came in on among them (Table TX-1, R245). -/
def Hdr.wf (h : Hdr) : Bool :=
  fits 8 h.lport && fits 3 h.tc && fits 16 h.tag && fits 12 h.src && fits 12 h.dst && fits 16 h.compId && fits 8 h.epoch
    && fits 8 h.status && fits 13 h.length && fits 5 h.lines && fits 57 h.addr && fits 32 h.seq

/-- A packet: an opcode byte, its header, and at most 4,096 bytes of payload (Table TX-1). -/
def Packet.wf (p : Packet) : Bool := fits 8 p.opcode && p.hdr.wf && decide (p.data.length ≤ 4096)

/-- A Nirod packet at the widths of Table CM-1. -/
def NirodPart.wf (p : NirodPart) : Bool :=
  fits 8 p.version && fits 16 p.opcode && fits 32 p.session && fits 32 p.seq && fits 16 p.length && fits 8 p.part

/-- COMP_CREATE parameters at the widths of Table CP-1. -/
def CompReq.wf (r : CompReq) : Bool :=
  fits 16 r.compId && fits 8 r.form && fits 8 r.ordering && fits 8 r.isolation && fits 8 r.confidential && fits 32 r.leaseS
    && fits 32 r.memberLeaseMs && fits 32 r.drainUs

/-- EXTENT_CREATE parameters: addresses of 57 bits (Table MT-2). -/
def ExtentReq.wf (r : ExtentReq) : Bool :=
  fits 57 r.base && fits 57 r.size && fits 8 r.tier && fits 8 r.layout && fits 8 r.protection && fits 8 r.durability
    && fits 8 r.hint

/-- KV_CREATE parameters (Table MT-9). -/
def KvReq.wf (r : KvReq) : Bool := fits 32 r.extent && fits 57 r.objOffset

/-- The trailer of a flit at the widths of Table LK-6. -/
def Trailer.wf (t : Trailer) : Bool := fits 12 t.seq && fits 12 t.ackSeq && fits 3 t.vc && fits 8 t.endOffset && fits 3 t.creditVc

/-- A routing-table entry names at most sixteen logical ports (Table TP-3). -/
def RouteReq.wf (r : RouteReq) : Bool := fits 12 r.node && decide (r.members.length ≤ 16) && r.members.all (fits 8)

/-- A tray index: 0 to 23 (R65). -/
def trayOk (n : Nat) : Bool := decide (n < 24)

/-- A matrix engine: 0 to 4 (R82). -/
def engineOk (n : Nat) : Bool := decide (n < 5)

/-- A unit that exists: a core, a press, a SerDes tile, an HBM stack or a tray (R12, R65). -/
def SwUnit.wf : SwUnit → Bool
  | .core n => fits 3 n
  | .press n => fits 3 n
  | .tile n => fits 3 n
  | .stack n => fits 3 n
  | .tray n => trayOk n

/-- The Nirod message of a command, where it came in one. -/
def Instr.ctx : Instr → Option Ctx
  | .sessionOpen c _ _ _ _ => some c
  | .sessionClose c => some c
  | .nop c => some c
  | .deviceInfo c => some c
  | .deviceStateSet c _ => some c
  | .deviceReset c => some c
  | .csrRead c _ => some c
  | .csrWrite c _ => some c
  | .colophon c _ _ => some c
  | .compCreate c _ => some c
  | .compDestroy c _ => some c
  | .compMemberAdd c _ _ _ => some c
  | .compMemberRemove c _ _ _ => some c
  | .compRenew c _ _ => some c
  | .compPressSet c _ _ => some c
  | .compInfo c _ => some c
  | .compMeterRead c _ => some c
  | .compStats c _ => some c
  | .compObserverSet c _ _ => some c
  | .cohDomainCreate c _ _ _ => some c
  | .cohDomainDestroy c _ => some c
  | .cohAgentAdd c _ _ _ _ _ => some c
  | .cohAgentRemove c _ _ _ => some c
  | .cohExtentAttach c _ _ => some c
  | .cohExtentDetach c _ _ => some c
  | .cohReclaimClear c _ _ => some c
  | .cohDomainInfo c _ => some c
  | .extentCreate c _ _ => some c
  | .extentDestroy c _ => some c
  | .extentHint c _ _ _ _ => some c
  | .extentSeal c _ => some c
  | .extentRevoke c _ => some c
  | .extentDrain c _ => some c
  | .extentAdopt c _ _ => some c
  | .extentInfo c _ => some c
  | .kvCreate c _ => some c
  | .kvPublish c _ => some c
  | .kvLookup c _ _ => some c
  | .kvAcquire c _ => some c
  | .kvRelease c _ => some c
  | .kvRenew c _ _ => some c
  | .kvHint c _ _ => some c
  | .kvDestroy c _ => some c
  | .vqCodebookSet c _ _ _ => some c
  | .vqCodebookClear c _ _ => some c
  | .vqCodebookInfo c _ => some c
  | .vqSlotStatus c _ _ _ => some c
  | .reduceGroupCreate c _ _ _ _ _ => some c
  | .reduceGroupDestroy c _ _ => some c
  | .ledgerOpen c _ _ _ _ _ _ => some c
  | .ledgerClose c _ => some c
  | .nodeIdSet c _ => some c
  | .routeSet c _ _ => some c
  | .routeGet c _ _ => some c
  | .neighbourList c => some c
  | .neighbourAccept c _ => some c
  | .ftManagerSet c _ _ _ => some c
  | .expel c _ => some c
  | .readmit c _ => some c
  | .ftExpelList c => some c
  | .ftHealthGet c => some c
  | .spdmGetVersion c => some c
  | .spdmGetCapabilities c => some c
  | .spdmNegotiateAlgorithms c _ => some c
  | .spdmGetDigests c => some c
  | .spdmGetCertificate c => some c
  | .spdmChallenge c _ => some c
  | .spdmGetMeasurements c _ => some c
  | .spdmKeyExchange c => some c
  | .spdmFinish c _ _ => some c
  | .spdmKeyUpdate c _ _ => some c
  | .spdmHeartbeat c _ => some c
  | .spdmEndSession c _ => some c
  | .secStatus c => some c
  | .secBindkeyGet c _ => some c
  | .weightBind c _ _ _ _ => some c
  | .weightUnbind c _ _ => some c
  | .secImport c _ _ _ _ _ _ => some c
  | .secExport c _ _ _ _ => some c
  | .debugEnter c _ => some c
  | .debugExit c => some c
  | .reprovision c _ => some c
  | .fmKeySet c _ _ => some c
  | .evtSubscribe c _ _ _ => some c
  | .evtUnsubscribe c _ => some c
  | .evtClaim c _ _ => some c
  | .evtComplete c _ _ => some c
  | .powerStateSet c _ => some c
  | .fwUpdateBegin c _ => some c
  | .fwUpdateBlock c _ _ _ _ => some c
  | .fwUpdateVerify c _ => some c
  | .fwActivate c _ => some c
  | .healthConfirm c => some c
  | .fwUpdateAbort c _ => some c
  | .fwStatus c => some c
  | .recList c => some c
  | .recRead c _ => some c
  | .recClear c _ _ => some c
  | .ftUnfence c _ _ _ => some c
  | .ftInject c _ _ _ _ _ _ => some c
  | .pressReset c _ => some c
  | .lockSet c _ _ => some c
  | .evcSoftSetWrite c _ => some c
  | .evcPendingClear c _ _ => some c
  | .swHistClear c _ => some c
  | .swQShaperWrite c _ _ => some c
  | .furrowSlotWrite c _ _ => some c
  | .jrnClearPaths c _ => some c
  | .jrnSelWrite c _ => some c
  | .recClogSelWrite c _ => some c
  | .lkPortEnable c _ => some c
  | .lkPortDisable c _ => some c
  | .lkSplitSet c _ => some c
  | _ => none

/-- The GFP header of a command that is a packet. -/
def Instr.hdr : Instr → Option Hdr
  | .load h => some h
  | .store h _ => some h
  | .atAdd32 h _ => some h
  | .atAdd64 h _ => some h
  | .atSwap32 h _ => some h
  | .atSwap64 h _ => some h
  | .atCas32 h _ => some h
  | .atCas64 h _ => some h
  | .atMin32 h _ => some h
  | .atMin64 h _ => some h
  | .atMax32 h _ => some h
  | .atMax64 h _ => some h
  | .fence h _ => some h
  | .chReadShared h => some h
  | .chReadOwn h => some h
  | .chUpgrade h => some h
  | .chWriteback h _ => some h
  | .chEvictClean h => some h
  | .gfpResponseReceive p => some p.hdr
  | .packetForward p => some p.hdr
  | .routeUpdateWithdraw h _ _ _ _ => some h
  | .routeUpdateRestore h _ _ _ _ => some h
  | .routeUpdateAck h => some h
  | .fill h _ => some h
  | .copy h _ => some h
  | .compare h _ => some h
  | .nmReduce h _ => some h
  | .allReduce h _ => some h
  | .reduceScatter h _ => some h
  | .reduceToMem h _ => some h
  | .reduceSegment h _ _ => some h
  | .gather h _ => some h
  | .scatter h _ => some h
  | .filterPredicate h _ => some h
  | .filterThreshold h _ => some h
  | .filterTopk h _ => some h
  | .filterBlockSelect h _ => some h
  | .attend h _ => some h
  | .encode h _ => some h
  | _ => none

/-- The operands of a command beside its message or header. -/
def Instr.operandsOk : Instr → Bool
  | .railUndervoltage rail _ => decide (rail < 12)
  | .ppsInEdge stamp => fits 64 stamp
  | .evtInChange pin _ => fits 3 pin
  | .throttleLevelRise d0 d1 => fits 16 d0 && fits 16 d1
  | .throttleLevelFall d0 d1 => fits 16 d0 && fits 16 d1
  | .nirodPartReceive p => p.wf
  | .partTimeout session seq => fits 32 session && fits 32 seq
  | .sessionIdleTimeout session => fits 32 session
  | .snapshotExpiry session _ => fits 32 session
  | .sessionOpen _ cls compId spdm partBytes => fits 8 cls && fits 16 compId && fits 32 spdm && fits 16 partBytes
  | .deviceStateSet _ target => fits 8 target
  | .csrRead _ addrs => addrs.all (fits 32)
  | .csrWrite _ pairs => pairs.all fun p => fits 32 p.1
  | .colophon _ _ offset => fits 32 offset
  | .compCreate _ r => r.wf
  | .sliceEvictionDone h => fits 8 h
  | .compDestroy _ h => fits 8 h
  | .compDestroyDone h => fits 8 h
  | .compMemberAdd _ h lport node => fits 8 h && fits 8 lport && fits 12 node
  | .compMemberRemove _ h lport _ => fits 8 h && fits 8 lport
  | .compRenew _ h _ => fits 8 h
  | .compPressSet _ h _ => fits 8 h
  | .compInfo _ h => fits 8 h
  | .compMeterRead _ h => fits 8 h
  | .compStats _ h => fits 8 h
  | .compObserverSet _ h digests => fits 8 h && decide (digests.length ≤ 65536)
  | .cohDomainCreate _ h _ _ => fits 8 h
  | .cohDomainDestroy _ d => fits 6 d
  | .cohAgentAdd _ d idx node lport hops => fits 6 d && fits 4 idx && fits 12 node && fits 8 lport && fits 4 hops
  | .cohAgentRemove _ d idx _ => fits 6 d && fits 4 idx
  | .cohExtentAttach _ d e => fits 6 d && fits 32 e
  | .cohExtentDetach _ d e => fits 6 d && fits 32 e
  | .cohRecallDone d => fits 6 d
  | .cohReclaimClear _ d e => fits 6 d && fits 32 e
  | .cohDomainInfo _ d => fits 6 d
  | .extentCreate _ h r => fits 8 h && r.wf
  | .extentDestroy _ e => fits 32 e
  | .extentHint _ e first count hint => fits 32 e && fits 32 first && fits 32 count && fits 8 hint
  | .extentSeal _ e => fits 32 e
  | .extentSealDone e _ => fits 32 e
  | .extentRevoke _ e => fits 32 e
  | .extentDrain _ e => fits 32 e
  | .extentDrainDone e => fits 32 e
  | .extentAdopt _ e h => fits 32 e && fits 8 h
  | .extentInfo _ e => fits 32 e
  | .kvCreate _ r => r.wf
  | .kvPublish _ k => fits 32 k
  | .kvLookup _ h _ => fits 8 h
  | .kvAcquire _ k => fits 32 k
  | .kvRelease _ k => fits 32 k
  | .kvRenew _ k leaseS => fits 32 k && fits 32 leaseS
  | .kvHint _ k hint => fits 32 k && fits 8 hint
  | .kvDestroy _ k => fits 32 k
  | .kvLeaseExpiry k => fits 32 k
  | .vqCodebookSet _ h cb addr => fits 8 h && fits 8 cb && fits 57 addr
  | .vqCodebookClear _ h cb => fits 8 h && fits 8 cb
  | .vqCodebookInfo _ h => fits 8 h
  | .vqSlotStatus _ e _ _ => fits 32 e
  | .reduceGroupCreate _ h gid press members _ => fits 8 h && fits 16 gid && fits 8 press && members.all fun m => fits 12 m.1 && fits 8 m.2
  | .reduceGroupDestroy _ h gid => fits 8 h && fits 16 gid
  | .ledgerOpen _ h node ring _ _ _ => fits 8 h && fits 12 node && fits 57 ring
  | .nodeIdSet _ node => fits 12 node
  | .routeSet _ first entries => fits 12 first && entries.all RouteReq.wf
  | .routeGet _ first _ => fits 12 first
  | .neighbourAccept _ lport => fits 8 lport
  | .expel _ r => fits 12 r.node && fits 64 r.expiry
  | .readmit _ r => fits 12 r.node && fits 64 r.expiry
  | .spdmFinish _ spdm _ => fits 32 spdm
  | .spdmKeyUpdate _ spdm _ => fits 32 spdm
  | .spdmHeartbeat _ spdm => fits 32 spdm
  | .spdmEndSession _ spdm => fits 32 spdm
  | .weightBind _ h addr _ _ => fits 8 h && fits 57 addr
  | .weightUnbind _ h slot => fits 8 h && fits 8 slot
  | .secImport _ h bounce _ dest _ _ => fits 8 h && fits 57 bounce && fits 57 dest
  | .secExport _ h src _ bounce => fits 8 h && fits 57 src && fits 57 bounce
  | .fmKeySet _ slot _ => fits 8 slot
  | .evtSubscribe _ mask _ port => mask.all (fits 10) && fits 16 port
  | .evtUnsubscribe _ sub => fits 8 sub
  | .evtClaim _ sub ev => fits 8 sub && fits 10 ev
  | .evtComplete _ sub ev => fits 8 sub && fits 10 ev
  | .powerStateSet _ target => fits 8 target
  | .unitSwitchDone u => u.wf
  | .switchPhaseTimeout u => u.wf
  | .revertDone u => u.wf
  | .fwUpdateBlock _ handle comp offset data => fits 32 handle && fits 8 comp && fits 32 offset && decide (data.length ≤ 73728)
  | .recRead _ ids => ids.all (fits 16)
  | .recClear _ ids _ => ids.all (fits 16)
  | .ftUnfence _ press engine _ => fits 3 press && engineOk engine
  | .pressReset _ press => fits 3 press
  | .pressResetDone press _ _ => fits 3 press
  | .lockSet _ addr _ => fits 32 addr
  | .evcTgtClaimRead core => fits 3 core
  | .evcTgtCompleteWrite core _ => fits 3 core
  | .swQShaperWrite _ addr _ => fits 32 addr
  | .furrowSlotWrite _ slot _ => fits 6 slot
  | .signalDetect lport => fits 8 lport
  | .signalLoss lport => fits 8 lport
  | .detectDone lport => fits 8 lport
  | .laneLockDone lport _ => fits 8 lport
  | .alignDone lport _ farPort _ _ => fits 8 lport && fits 8 farPort
  | .equalizeDone lport preset => fits 8 lport && fits 4 preset
  | .fastEqualizeFail lport => fits 8 lport
  | .linkInitDone lport far => fits 8 lport && fits 2 far.role
  | .trainingStepTimeout lport => fits 8 lport
  | .dataFlitReceive lport t packets => fits 8 lport && t.wf && packets.all Packet.wf
  | .idleFlitReceive lport t => fits 8 lport && t.wf
  | .fallowReqReceive lport => fits 8 lport
  | .fallowAckReceive lport => fits 8 lport
  | .keySwitchReceive lport keyClass => fits 8 lport && fits 2 keyClass
  | .nakReceive lport ackSeq => fits 8 lport && fits 12 ackSeq
  | .ackStallTimeout lport => fits 8 lport
  | .nakResendTimeout lport => fits 8 lport
  | .linkKeyEstablished lport => fits 8 lport
  | .rekeyDue lport => fits 8 lport
  | .portIdleTimeout lport => fits 8 lport
  | .fallowLockBurst lport => fits 8 lport
  | .wakeToneReceive lport => fits 8 lport
  | .portWakeDone lport => fits 8 lport
  | .portWakeTimeout lport => fits 8 lport
  | .pressIdleTimeout press => fits 3 press
  | .pressFallowDone press => fits 3 press
  | .pressWakeDone press => fits 3 press
  | .hbmIdleTimeout stack => fits 3 stack
  | .hbmWakeDone stack => fits 3 stack
  | .claimTimeout ev => fits 10 ev
  | .watchdogExpiry core => fits 3 core
  | .escapeWaitExpiry lport vc => fits 8 lport && fits 3 vc
  | .spillFetchDone lport queue => fits 8 lport && fits 4 queue
  | .egressSend lport => fits 8 lport
  | .fenceDequeue lport => fits 8 lport
  | .fenceComplete lport tag => fits 8 lport && fits 16 tag
  | .fenceDeadline lport tag => fits 8 lport && fits 16 tag
  | .snpInvalidateResp d agent _ _ => fits 6 d && fits 4 agent
  | .snpShareResp d agent _ _ => fits 6 d && fits 4 agent
  | .snpOwnResp d agent _ _ => fits 6 d && fits 4 agent
  | .snoopTimeout d agent _ => fits 6 d && fits 4 agent
  | .gfpResponseReceive p => p.wf
  | .packetForward p => p.wf
  | .responseTimeout tag => fits 16 tag
  | .atomicHoldExpiry src comp seq => fits 12 src && fits 8 comp && fits 32 seq
  | .probe lport r => fits 8 lport && fits 12 r.node && fits 4 r.member
  | .probeAnswer lport r => fits 8 lport && fits 12 r.node && fits 4 r.member
  | .routeUpdateWithdraw _ _ _ _ nodes => nodes.all (fits 12)
  | .routeUpdateRestore _ _ _ _ nodes => nodes.all (fits 12)
  | .seedActivate press => fits 3 press
  | .seedCompletionReceive press _ _ => fits 3 press
  | .codebookLoadDone press cb => fits 3 press && fits 6 cb
  | .chainStart press => fits 3 press
  | .verdictReady press engine _ => fits 3 press && engineOk engine
  | .tieBreakDone press engine _ => fits 3 press && engineOk engine
  | .chainCommit press engine => fits 3 press && engineOk engine
  | .scratchpadParityError press port slot _ => fits 3 press && fits 4 port && decide (slot < 1536)
  | .quantumExpiry press => fits 3 press
  | .switchWindowExpiry press => fits 3 press
  | .contextScrubDone press => fits 3 press
  | .sweepPassDone press engine _ => fits 3 press && engineOk engine
  | .t1AccessDone e _ _ _ => fits 32 e
  | .t1LateThreshold e _ => fits 32 e
  | .t2LateThreshold e _ => fits 32 e
  | .leafCopyDone e _ => fits 32 e
  | .writeBackDone e _ => fits 32 e
  | .backgroundMoveStart tray => trayOk tray
  | .mirrorRebuildDone e _ => fits 32 e
  | .replicaFetchDone e _ _ => fits 32 e
  | .replicaFetchRetry e _ => fits 32 e
  | .trayAttach tray _ => trayOk tray
  | .pageReadResult tray _ _ => trayOk tray
  | .retryStepResult tray _ _ _ => trayOk tray
  | .softReadResult tray _ _ _ => trayOk tray
  | .pageProgramResult tray _ _ => trayOk tray
  | .blockEraseResult tray _ _ => trayOk tray
  | .pageRelocateResult tray _ _ => trayOk tray
  | .checkpointDue tray => trayOk tray
  | .tempReadPoll tray _ => trayOk tray
  | .patrolDue tray _ => trayOk tray
  | .compLeaseExpiry h => fits 8 h
  | .memberLeaseExpiry h lport => fits 8 h && fits 8 lport
  | .drainWindowClose h => fits 8 h
  | .recorderSample rec _ => fits 16 rec
  | .coreRestartDone core => fits 3 core
  | .macRekeyDone e => fits 32 e
  | .transmitterHoldOffEnd lport => fits 8 lport
  | _ => true

/-- A well-formed command: its message or header, and its other operands. -/
def Instr.wf (i : Instr) : Bool := (i.ctx.elim true Ctx.wf) && (i.hdr.elim true Hdr.wf) && i.operandsOk

end Sys2Proof
end

