-- ==== Sys2Proof/Certificates/Slice0/Obligations.lean ====
section
/-! DEFINITION. The statements for the provers. A clause about a Nirod command is over every state `s` in which the
command passes the checks of R368 and the state `t` in which its body then starts (`State.starts`), so it covers every
session, sequence number and authority that the spec admits. -/

open Sys2Proof Sys2Proof.Machine

/-- A step takes the command at the front of the queue and is that command's execution on the queue's rest. -/
def Obligations.StepRunsTheFront : Prop :=
  ∀ (s : State) (c : Instr) (rest : List Instr), step { s with pending := c :: rest } = exec c { s with pending := rest }

/-- R17: one cycle of the AON clock adds 40 to TIME_NS. The model lets a cycle pass on an empty queue (log entry 5). -/
def Obligations.IdleStepAdvancesTime : Prop :=
  ∀ (s : State), s.pending = [] → s.nextDeferred = none → s.pins.powered = true → s.clk.slew = 0 → s.clk.slewFrac = 0 →
    ∃ t, step s = .next t ∧ t.clk.timeNs = s.clk.timeNs + 40 ∧ t.pool = s.pool ∧ t.nirod = s.nirod ∧ t.dev = s.dev
      ∧ t.topo = s.topo

/-- Registers whose reset values the tables state: CM_STATE is BOOT with PRIOR_STATE 0, PWR_STATE has CORES_ON 0xFF,
PWR_WAKE_CAUSE's EVENT_NUM is 1,023, and the pool's settings; there is no composition, no session and no waiting command,
and every logical port is DISABLED with FALLOW_EN set. -/
def Obligations.ResetLeavesBoot : Prop :=
  State.reset.readValue Reg.CM_STATE = 3 ∧ State.reset.readValue Reg.PWR_WAKE_CAUSE = 1023
    ∧ State.reset.dev.coresOn = 0xFF ∧ State.reset.readValue Reg.POOL_CFG = 25
    ∧ State.reset.readValue Reg.POOL_T1_LATE_US = 10 ∧ State.reset.readValue Reg.POOL_T2_LATE_US = 5000
    ∧ State.reset.readValue Reg.POOL_PIN_LIMIT = 90 ∧ State.reset.readValue Reg.POOL_T0_FRAMES = 0x9DA000
    ∧ State.reset.comps = [] ∧ State.reset.nirod.sessions = [] ∧ State.reset.pending = []
    ∧ ∀ p ∈ State.reset.links, p.2.st = .disabled ∧ p.2.fallowEn = true

/-- The canonical form of the pool's memory holds at reset. -/
def Obligations.ResetMemoryCanonical : Prop := State.reset.MemOk

/-- Every step keeps the canonical form of everything that holds pool bytes: addresses strictly rising, no zero byte
listed. -/
def Obligations.StepKeepsMemoryCanonical : Prop :=
  ∀ (s t : State), s.MemOk → step s = .next t → t.MemOk

/-- R32: a byte that has been written reads as it was written, and every other byte of the pool as before. Reading a run
of bytes is reading each byte of it. -/
def Obligations.PoolReadsWhatWasWritten : Prop :=
  (∀ (m : List Host.Cell) (a : Nat) (b : List Byte) (x : Nat), Memory.wf m = true →
    cellRead (cellWrites m a b) x = if a ≤ x ∧ x < a + b.length then b.getD (x - a) 0 else cellRead m x)
  ∧ (∀ (m : List Host.Cell) (a n : Nat), Memory.wf m = true →
    cellReads m a n = (List.range n).map fun i => cellRead m (a + i))

/-! ### The control port and its sessions -/

/-- SESSION_OPEN, SESSION_CLOSE, NOP, DEVICE_INFO and DEVICE_STATE_SET, admitted (R363, R364, R367, R371). -/
def Obligations.SessionCommandsComplete : Prop :=
  (∀ (s t : State) (c : Ctx), s.starts t c (Cmd.any 0x0003 Legal.A) Target.none →
    exec (.nop c) s = .next (t.reply c 0x0003 St.OK [.num t.dev.state.code, .num t.clk.timeNs]))
  ∧ (∀ (s t : State) (c : Ctx), s.starts t c (Cmd.any 0x0004 Legal.A) Target.none →
    exec (.deviceInfo c) s = .next (t.reply c 0x0004 St.OK [.num (b2n Config.isLh), .num 0xA1,
      .digest (Config.identity t.sec.identityGen), .num t.topo.node, .num t.dev.state.code, .num (b2n t.dev.singleDie),
      .num t.sec.svn]))
  ∧ (∀ (s t : State) (c : Ctx), s.starts t c (Cmd.fob 0x0002 Legal.A) Target.none →
    exec (.sessionClose c) s = .next ((t.reply c 0x0002 St.OK []).endSession c.session))
  ∧ (∀ (s t : State) (c : Ctx) (cls compId spdm partBytes : Nat) (x : Session) (k : Digest) (a : Cls),
    s.starts t c (Cmd.any 0x0001 Legal.A) Target.none →
    cls ≤ 2 → 1024 ≤ partBytes → partBytes ≤ 8192 → partBytes % 64 = 0 →
    t.nirod.sessions.look spdm = some x → x.cls = none → x.signer = some k →
    a = (if cls = 0 then .fabricManager else if cls = 1 then .owner else .observer) →
    t.keyAdmits k a (if cls = 0 then none else t.handleOf compId) = true →
    exec (.sessionOpen c cls compId spdm partBytes) s = .next
      ((t.modSession spdm fun x => { x with
          cls := some a
          comp := (if cls = 0 then none else t.handleOf compId).getD 256
          compId := compId
          partBytes := partBytes
          idleS := t.field Reg.CM_SESSION_CFG 15 0
          lastCmdNs := t.clk.timeNs }).reply c 0x0001 St.OK [.num spdm, .num (t.field Reg.CM_SESSION_CFG 15 0)]))
  ∧ (∀ (s t : State) (c : Ctx) (target : Nat) (d : DevState),
    s.admits c (Cmd.f 0x0005 0) Target.none (fun u => u.deviceTargetLegal target) = true → t = s.taken c 0x0005 Target.none →
    target ≤ 2 → t.dev.state ≠ .faulted →
    d = (if target = 1 then .draining else if target = 2 then .maintenance else t.activeState) →
    exec (.deviceStateSet c target) s = .next ((t.enter d).reply c 0x0005 St.OK [.num d.code]))

/-- R361, R367, R376: a part timeout discards its message and counts it, an idle session ends, and a snapshot that has
not been read for 10 s is freed; each at its own time. R358, R359, R368: what arrives at the control port. A well-formed
part of a known session whose tag is good joins its message; a packet whose header CRC fails is discarded and counted;
neighbour discovery and echo are answered while the port is up. -/
def Obligations.ControlPortCompletes : Prop :=
  (∀ (s : State) (a : Assembly), s.nirod.asm.find? (fun b => b.session == a.session && b.seq == a.seq) = some a →
    exec (.partTimeout a.session a.seq) s = .next
      (((s.advanceTo (a.firstNs + 100000000)).modNirod fun n => { n with
        asm := n.asm.filter fun b => !(b.session == a.session && b.seq == a.seq) }).bump Reg.CM_CNT_PART_TIMEOUT))
  ∧ (∀ (s : State) (i : Nat) (x : Session), s.nirod.sessions.look i = some x →
    exec (.sessionIdleTimeout i) s = .next ((s.advanceTo (x.lastCmdNs + x.idleS * 1000000000)).endSession i))
  ∧ (∀ (s : State) (i : Nat) (x : Session) (p : Snapshot), s.nirod.sessions.look i = some x →
    x.snaps.find? (fun q => q.id == p.id) = some p →
    exec (.snapshotExpiry i p.id) s = .next
      ((s.advanceTo (p.readNs + 10000000000)).modSession i fun x => { x with snaps := x.snaps.filter fun q => q.id != p.id }))
  ∧ (∀ (s : State) (p : NirodPart), s.controlUp = true → p.hdrCrcOk = true → partWellFormed (s.partBytes p.session) p = true →
    p.session ≠ 0 → s.nirod.sessions.has p.session = true → p.encrypted = true → p.tagOk = true →
    exec (.nirodPartReceive p) s = .next (s.assemble p))
  ∧ (∀ (s : State) (p : NirodPart), s.controlUp = true → p.hdrCrcOk = false →
    exec (.nirodPartReceive p) s = .next (s.bump Reg.CM_CNT_HDR_CRC))
  ∧ (∀ (s : State) (k : NetKind), s.controlUp = true → k = .neighbourDiscovery ∨ k = .icmpEcho →
    exec (.neighbourDiscoveryEchoArp k) s = .next { s with out := s.out ++ [.net k] })
  ∧ (∀ (s : State), s.controlUp = true → exec (.neighbourDiscoveryEchoArp .other) s = .next s)

/-! ### Registers (R9, R10, R374) -/

/-- CSR_READ of one to 256 registers answers their values in order (R374). CSR_WRITE, and the rows that are a write of
one register: a register that software writes whole takes the value under its mask when the value is in range, its rule
does not refuse it and the block is not locked; LOCK_SET locks its block; the selectors of the journal and of the clear
log latch their entry (R9, R242, R374, R405, R416, R423). -/
def Obligations.RegisterAccessesComplete : Prop :=
  (∀ (s t : State) (c : Ctx) (addrs : List Nat), s.starts t c (Cmd.f 0x0010 Legal.R) Target.none →
    addrs ≠ [] → addrs.length ≤ 256 → (∀ a ∈ addrs, (regKind a).isSome = true) →
    exec (.csrRead c addrs) s = .next ((t.csrReads addrs).2.reply c 0x0010 St.OK (t.csrReads addrs).1))
  ∧ (∀ (s t : State) (c : Ctx) (a : Nat) (v : Word) (mask : Nat) (rwl : Bool) (r : Nat),
    s.starts t c (Cmd.f 0x0011 Legal.C) Target.none →
    regKind a = some (.cfg mask rwl r) → (rwl && t.locked a) = false → cfgInRange a (v.toNat &&& mask) = true →
    t.cfgRefused a (v.toNat &&& mask) = false →
    exec (.csrWrite c [(a, v)]) s = .next
      (((t.setReg a (v.toNat &&& mask)).cfgEffect a (v.toNat &&& mask)).reply c 0x0011 St.OK [.num Wr.WRITTEN]))
  ∧ (∀ (s t : State) (c : Ctx) (a : Nat) (v : Word),
    s.starts t c (Cmd.f 0x0011 Legal.C) Target.none →
    regKind a = some .lock → bit v.toNat 0 = true →
    exec (.lockSet c a v) s = .next ((t.setReg a 1).reply c 0x0011 St.OK [.num Wr.WRITTEN]))
  ∧ (∀ (s t : State) (c : Ctx) (v : Word),
    s.starts t c (Cmd.f 0x0011 Legal.C) Target.none →
    exec (.jrnSelWrite c v) s = .next
      (((t.setReg Reg.JRN_SEL (v.toNat &&& 0xFFF)).modFw fun f => { f with
        jrnLatch := f.journal[v.toNat % 4096]? }).reply c 0x0011 St.OK [.num Wr.WRITTEN]))
  ∧ (∀ (s t : State) (c : Ctx) (v : Word),
    s.starts t c (Cmd.f 0x0011 Legal.C) Target.none →
    exec (.jrnClearPaths c v) s = .next
      ((if bit v.toNat 0 then t.modFw fun f => { f with clearPaths := true } else t).reply c 0x0011 St.OK [.num Wr.WRITTEN]))
  ∧ (∀ (s t : State) (c : Ctx) (v : Word), s.starts t c (Cmd.f 0x0011 Legal.C) Target.none →
    exec (.recClogSelWrite c v) s = .next
      (({ t.setReg Reg.REC_CLOG_SEL (v.toNat &&& 0x3FF) with
          rcd := { t.rcd with latch := t.rcd.clearLog[v.toNat % 1024]? } }).reply c 0x0011 St.OK [.num Wr.WRITTEN]))
  ∧ (∀ (s t : State) (c : Ctx) (n : Nat) (v : Word) (x : Comp), s.starts t c (Cmd.f 0x0011 Legal.C) Target.none →
    n < 64 → t.comp (v.toNat % 256) = some x → x.furrow = true →
    exec (.furrowSlotWrite c n v) s = .next
      ((t.setReg (Reg.FURROW_SLOT + 4 * n) (v.toNat &&& 0x800000FF)).reply c 0x0011 St.OK [.num Wr.WRITTEN]))
  ∧ (∀ (s t : State) (c : Ctx) (v : Word), s.starts t c (Cmd.f 0x0011 Legal.C) Target.none →
    t.links.has t.selQueue.1 = true → bit v.toNat 0 = true →
    exec (.swHistClear c v) s = .next
      (((t.modSelQueue fun q => { q with depthHist := [], delayHist := [], depthMax := 0 }).dropTrays t).reply c 0x0011
        St.OK [.num Wr.WRITTEN]))
  ∧ (∀ (s t : State) (c : Ctx) (v : Word) (l : LPort), s.starts t c (Cmd.f 0x0011 Legal.C) Target.none →
    t.links.look t.selQueue.1 = some l → bits v.toNat 18 0 ≤ 262144 →
    (bit v.toNat 31 = true → 4128 ≤ (l.queue t.selQueue.2).burst) →
    exec (.swQShaperWrite c Reg.SW_Q_SHAPER v) s = .next
      (((t.modSelQueue fun q => { q with shapeOn := bit v.toNat 31, rate := bits v.toNat 18 0 }).dropTrays t).reply c
        0x0011 St.OK [.num Wr.WRITTEN]))

/-- R9, R374: a CSR_WRITE entry that names a locked register changes nothing and answers LOCKED; one that names no
register answers NO_REGISTER; the command then answers ST_CSR_REFUSED. A register that software writes whole reads back
as it was written, and every other register as before. -/
def Obligations.RegistersKeepTheirRules : Prop :=
  (∀ (s t : State) (c : Ctx) (a : Nat) (v : Word) (mask r : Nat), s.starts t c (Cmd.f 0x0011 Legal.C) Target.none →
    regKind a = some (.cfg mask true r) → t.reg (lockOf a) % 2 = 1 →
    exec (.csrWrite c [(a, v)]) s = .next (t.reply c 0x0011 St.CSR_REFUSED [.num Wr.LOCKED]))
  ∧ (∀ (s t : State) (c : Ctx) (a : Nat) (v : Word), s.starts t c (Cmd.f 0x0011 Legal.C) Target.none →
    regKind a = none → exec (.csrWrite c [(a, v)]) s = .next (t.reply c 0x0011 St.CSR_REFUSED [.num Wr.NO_REGISTER]))
  ∧ (∀ (s t : State) (c : Ctx) (a : Nat) (v : Word) (sc : CtrScope), s.starts t c (Cmd.f 0x0011 Legal.C) Target.none →
    regKind a = some (.ctr sc) →
    exec (.csrWrite c [(a, v)]) s = .next (t.reply c 0x0011 St.CSR_REFUSED [.num Wr.IGNORED]))
  ∧ (∀ (s : State) (a b v : Nat), v < 2 ^ 32 → (s.setReg a v).reg a = v ∧ (b ≠ a → (s.setReg a v).reg b = s.reg b))

/-- The registers of the event controller that have rows of their own (R379, R382, R383, R386, R387): EVC_SOFT_SET raises
its event; writing 1 to PENDING clears it, unless hardware sets it in the same cycle or its level holds, and then it
stays and is counted; a claim read takes the most urgent offer; a complete write lets the event go. -/
def Obligations.EventRegistersComplete : Prop :=
  (∀ (s t : State) (c : Ctx) (v : Word), s.starts t c (Cmd.f 0x0011 Legal.C) Target.none → bits v.toNat 9 0 ≤ 15 →
    exec (.evcSoftSetWrite c v) s = .next
      (((t.raise (bits v.toNat 9 0) 0 0).dropTrays t).reply c 0x0011 St.OK [.num Wr.WRITTEN]))
  ∧ (∀ (s t : State) (c : Ctx) (v : Word) (ev : Nat), s.starts t c (Cmd.f 0x0011 Legal.C) Target.none →
    ev = t.reg Reg.EVC_SRC_SEL % 1024 → bit v.toNat 31 = true → (t.source ev).pending = true →
    (t.source ev).holds = false →
    exec (.evcPendingClear c v false) s = .next
      ((t.modSource ev fun x => { x with pending := false }).reply c 0x0011 St.OK [.num Wr.WRITTEN]))
  ∧ (∀ (s t : State) (c : Ctx) (v : Word) (ev : Nat), s.starts t c (Cmd.f 0x0011 Legal.C) Target.none →
    ev = t.reg Reg.EVC_SRC_SEL % 1024 → bit v.toNat 31 = true → (t.source ev).pending = true →
    exec (.evcPendingClear c v true) s = .next
      ((t.bump Reg.EVC_CNT_RESET_SEEN).reply c 0x0011 St.OK [.num Wr.WRITTEN]))
  ∧ (∀ (s : State) (k e : Nat), k < 8 → s.targetPresent k = true →
    s.mostUrgent ((s.ev.offers.filter fun o => o.targets.contains k).map Offer.ev) = some e →
    ∃ t, exec (.evcTgtClaimRead k) s = .next t ∧ (t.source e).pending = false
      ∧ (t.source e).holder = some (k, s.groupOf e)
      ∧ t.ev.offers = s.ev.offers.filter (fun o => o.ev != e) ∧ t.cnt = s.cnt)
  ∧ (∀ (s : State) (k : Nat), k < 8 → s.targetPresent k = true →
    (s.ev.offers.filter fun o => o.targets.contains k) = [] →
    exec (.evcTgtClaimRead k) s = .next (s.bump Reg.EVC_CNT_SPURIOUS))
  ∧ (∀ (s : State) (k g : Nat) (v : Word), k < 8 → s.targetPresent k = true →
    (s.source (bits v.toNat 9 0)).holder = some (k, g) →
    exec (.evcTgtCompleteWrite k v) s = .next (s.modSource (bits v.toNat 9 0) fun x => { x with
      holder := none, pending := x.pending || x.holds }))

/-! ### Supplies, pins, clock and temperature (R392, R417, R427 to R436) -/

/-- POWER_ON, RESET_N_RELEASE and RAILS_IN_RANGE start BOOT at step 1; POWER_LOSS and RESET_N_ASSERT take every object
and session away and keep what flash holds; a group B or C rail that stays low resets the K9, and the next boot's first
journal entry names it; a timeout of the rails takes SLEEP_N low again; WAKE_N takes STANDBY back to the state it left
(R392, R400, R417, R427, R431 to R433). R427: a pulse shorter than 0.5 us on RESET_N or WAKE_N is ignored. -/
def Obligations.SuppliesComplete : Prop :=
  (∀ (s : State), s.pins.powered = false → s.pins.resetLow = false →
    ∃ t, exec .powerOn s = .next t ∧ t.pins.powered = true ∧ t.dev.state = .boot ∧ t.fw.step = 1 ∧ t.fw.fromDeep = false
      ∧ t.rcd.cycles = min (s.rcd.cycles + 1) 0xFFFFFFFF ∧ t.fw.bootCount = (s.fw.bootCount + 1) % 2 ^ 32)
  ∧ (∀ (s : State), s.pins.powered = true →
    ∃ t, exec .powerLoss s = .next t ∧ t.pins.powered = false ∧ t.dev.state = .poweredOff ∧ t.dev.coresOn = 0
      ∧ t.comps = [] ∧ t.nirod.sessions = [] ∧ t.pool = Pool.reset ∧ t.fw.journal = s.fw.journal
      ∧ t.rcd.flash = s.rcd.flash ∧ t.rcd.opSeconds = s.rcd.opSeconds ∧ t.image = s.image)
  ∧ (∀ (s : State) (n : Nat), 1000 ≤ n → s.pins.powered = true → s.pins.thermtripLow = false →
    s.dev.state ≠ .poweredOff →
    ∃ t, exec (.resetNAssert n) s = .next t ∧ t.pins.resetLow = true ∧ t.comps = [] ∧ t.nirod.sessions = []
      ∧ t.ev.sources = [] ∧ t.csr = [] ∧ t.cnt = [] ∧ t.fw.journal = s.fw.journal ∧ t.clk.timeNs = s.clk.timeNs)
  ∧ (∀ (s : State), s.pins.resetLow = true → s.pins.powered = true → s.pins.thermtripLow = false →
    s.dev.state ≠ .poweredOff →
    ∃ t, exec .resetNRelease s = .next t ∧ t.pins.resetLow = false ∧ t.dev.state = .boot ∧ t.fw.step = 1
      ∧ t.clk = s.clk)
  ∧ (∀ (s : State) (n : Nat), 1000 ≤ n → s.pins.powered = true → s.pins.resetLow = false → s.dev.state = .standby →
    ∃ t, exec (.wakeNAssert n) s = .next t ∧ t.dev.state = s.dev.resume ∧ t.dev.coresOn = 0xFF ∧ t.dev.hbmSr = 0
      ∧ t.dev.ctrlListen = false ∧ t.dev.wakeCause = (true, false, false, 1023) ∧ t.ev.fallow = false
      ∧ t.dev.pausedAt = none)
  ∧ (∀ (s : State) (n : Nat), s.dev.state = .deepStandby → s.pins.railsPending = some n →
    ∃ t, exec .railsInRange s = .next t ∧ t.dev.state = .boot ∧ t.dev.prior = .deepStandby ∧ t.fw.step = 1
      ∧ t.fw.fromDeep = true ∧ t.ev.sources = s.ev.sources ∧ t.pins.railsPending = none)
  ∧ (∀ (s : State) (n : Nat), s.pins.railsPending = some n →
    ∃ t, exec .railsRestoreTimeout s = .next t ∧ t.pins.sleepLow = true ∧ t.pins.railsPending = none
      ∧ t.clk.timeNs = max s.clk.timeNs (n + 100000000))
  ∧ (∀ (s : State) (r n : Nat), r < 9 → 10000 < n → s.pins.powered = true → s.pins.sleepLow = false →
    s.pins.railsPending = none → s.dev.state ≠ .poweredOff → s.pins.resetLow = false →
    ∃ t, exec (.railUndervoltage r n) s = .next t ∧ t.dev.state = .boot ∧ t.fw.step = 1 ∧ t.comps = []
      ∧ t.nirod.sessions = [] ∧ t.fw.journal.head?.map JEntry.detail = some r)
  ∧ (∀ (s : State) (r n : Nat), 9 ≤ r → r < 12 → s.pins.powered = true →
    ∃ t, exec (.railUndervoltage r n) s = .next t ∧ t.pins.powered = false ∧ t.dev.state = .poweredOff)
  ∧ (∀ (s : State) (n : Nat), n < 500 →
    exec (.resetNAssert n) s = .next { s with draws := s.draws + 1 }
      ∧ exec (.wakeNAssert n) s = .next { s with draws := s.draws + 1 })

/-- R428: the first PPS_IN edge steps TIME_NS forward to a whole second; a later edge less than 999,000,000 ns after the
last accepted one is rejected and counted; any other slews TIME_NS when it is not more than 10 us behind; the loss of
PPS_IN raises event 25 and forgets the edge. R325, R435: the hottest sensor sets the throttle level at 97, 100 and 103
C, the level falls by one once the sensor is 3 C below its threshold, each change counts and raises event 24, and 112 C
for 10 us drives THERMTRIP_N low and stops the device. -/
def Obligations.SensorsComplete : Prop :=
  (∀ (s : State) (n : Nat), s.pins.powered = true → s.clk.ppsFirst = true → s.clk.ppsLast = none → s.clk.timeNs ≤ n →
    ∃ t, exec (.ppsInEdge n) s = .next t ∧ t.clk.timeNs = (n + 999999999) / 1000000000 * 1000000000
      ∧ t.clk.ppsFirst = false ∧ t.clk.ppsLast = some t.clk.timeNs ∧ t.clk.slew = 0)
  ∧ (∀ (s : State) (n p : Nat), s.pins.powered = true → s.clk.ppsLast = some p → s.clk.timeNs ≤ n → n < p + 999000000 →
    ∃ t, exec (.ppsInEdge n) s = .next t ∧ t.clk.timeNs = n ∧ t.clk.ppsLast = some p
      ∧ t.cnt = addCtr s.cnt Reg.EL_CNT_PPS_REJECT 1)
  ∧ (∀ (s : State) (n p : Nat) (e : Int), s.pins.powered = true → s.clk.ppsFirst = false → s.clk.ppsLast = some p →
    s.clk.timeNs ≤ n → p + 999000000 ≤ n → e = (n : Int) - ((n + 500000000) / 1000000000 * 1000000000 : Nat) →
    -10000 ≤ e →
    ∃ t, exec (.ppsInEdge n) s = .next t ∧ t.clk.timeNs = n ∧ t.clk.ppsLast = some n ∧ t.clk.slew = -125 * e
      ∧ t.clk.ppsError = e ∧ t.clk.ppsLocked = decide (-100 ≤ e ∧ e ≤ 100))
  ∧ (∀ (s : State) (p : Nat), s.clk.ppsLast = some p → s.clk.timeNs ≤ p + 1100000000 →
    ∃ t, exec .ppsLost s = .next t ∧ t.clk.timeNs = p + 1100000000 ∧ t.clk.ppsLast = none ∧ t.clk.ppsFirst = true
      ∧ t.clk.ppsLocked = false ∧ (t.source 25).pending = true)
  ∧ (∀ (s : State) (a b : Nat), s.running = true → s.pins.throttle < throttleLevel (max a b) →
    ∃ t, exec (.throttleLevelRise a b) s = .next t ∧ t.pins.throttle = throttleLevel (max a b) ∧ t.pins.tjD0 = a
      ∧ t.pins.tjD1 = b ∧ (t.source 24).pending = true)
  ∧ (∀ (s : State) (a b : Nat), s.running = true → 0 < s.pins.throttle →
    max a b + 30 ≤ throttleThreshold s.pins.throttle →
    ∃ t, exec (.throttleLevelFall a b) s = .next t ∧ t.pins.throttle = s.pins.throttle - 1
      ∧ (t.source 24).pending = true)
  ∧ (∀ (s : State) (n : Nat), s.running = true → 10000 ≤ n →
    ∃ t, exec (.thermalTrip n) s = .next t ∧ t.pins.thermtripLow = true ∧ t.dev.state = .poweredOff ∧ t.clk = s.clk
      ∧ t.comps = [] ∧ t.nirod.sessions = [] ∧ t.out = s.out ∧ t.rcd.flash = s.rcd.flash)
  ∧ throttleLevel 969 = 0 ∧ throttleLevel 970 = 1 ∧ throttleLevel 1000 = 2 ∧ throttleLevel 1030 = 3

/-- R328, R430: a private JTAG instruction that the debug state does not grant loads as BYPASS and counts, an instruction
that drives the pins loads as BYPASS outside reset and MAINTENANCE, IDCODE shifts out the device's code, and every other
instruction is loaded; TRST_N selects IDCODE (log entry 32, the model's own). -/
def Obligations.JtagComplete : Prop :=
  (∀ (s : State) (i : Jtag), s.pins.powered = true → jtagGranted s.sec.debugSt i = false →
    exec (.jtagInstruction i) s = .next { s with cnt := addCtr s.cnt Reg.SE_CNT_AUTH_FAIL 1, pins := { s.pins with tap := .bypass } })
  ∧ (∀ (s : State) (i : Jtag), s.pins.powered = true → jtagGranted s.sec.debugSt i = true → jtagDrives i = true →
    s.pins.resetLow = false → s.dev.state ≠ .maintenance →
    exec (.jtagInstruction i) s = .next { s with pins := { s.pins with tap := .bypass } })
  ∧ (∀ (s : State), s.pins.powered = true →
    exec (.jtagInstruction .idcode) s = .next { s with pins := { s.pins with tap := .idcode }, out := s.out ++ [.jtag 0x109A9F3B] })
  ∧ (∀ (s : State) (i : Jtag), s.pins.powered = true → jtagGranted s.sec.debugSt i = true → i ≠ .idcode →
    (jtagDrives i = true → s.pins.resetLow = true ∨ s.dev.state = .maintenance) →
    exec (.jtagInstruction i) s = .next { s with pins := { s.pins with tap := i } })
  ∧ (∀ (s : State), s.pins.powered = true → exec .trstNAssert s = .next { s with pins := { s.pins with tap := .idcode } })

/-! ### The event controller (R380 to R389) -/

/-- EVT_IN changes raise their source as its SENSE says; an offer goes to its target and to nobody while the controller
is fallow; a claim that times out offers the event again; the controller goes fallow when nothing waits and wakes for a
source with ENABLE and WAKE (R380, R385, R386, R389). R386 to R388: EVT_SUBSCRIBE takes the lowest free index from 8,
for an OWNER only for event 24; EVT_UNSUBSCRIBE removes the subscriber and returns its events to PENDING; EVT_CLAIM
answers the event it takes or 1,023; EVT_COMPLETE ends a hold. -/
def Obligations.EventControllerCompletes : Prop :=
  (∀ (s : State) (pin : Nat), pin < 8 → s.pins.evtIn.getLsbD pin = false → s.pins.powered = true →
    s.pins.resetLow = false → s.dev.state ≠ .poweredOff → (s.source (16 + pin)).sense ∈ [0, 2, 4] →
    ∃ t, exec (.evtInChange pin true) s = .next t ∧ (t.source (16 + pin)).pending = true
      ∧ (t.source (16 + pin)).input = true ∧ t.pins.evtIn = s.pins.evtIn ||| BitVec.ofNat 8 (2 ^ pin))
  ∧ (∀ (s : State) (pin : Nat), pin < 8 → s.pins.evtIn.getLsbD pin = true → s.pins.powered = true →
    s.pins.resetLow = false → s.dev.state ≠ .poweredOff → (s.source (16 + pin)).sense ∈ [0, 2] →
    ∃ t, exec (.evtInChange pin false) s = .next t ∧ (t.source (16 + pin)).pending = (s.source (16 + pin)).pending
      ∧ (t.source (16 + pin)).input = false)
  ∧ (∀ (s : State) (ev k : Nat), s.evcRuns = true → s.ev.fallow = false → s.mostUrgent s.offerable = some ev →
    (s.source ev).fallback = false → s.mainTarget ev = some k → s.ev.tried = [] → k < 8 → s.ev.subs.look k = none →
    ∃ t, exec .eventOffer s = .next t ∧ t.ev.sources = s.ev.sources
      ∧ t.ev.offers = s.ev.offers ++ [{ ev := ev, targets := [k], tried := [], timeNs := s.clk.timeNs }])
  ∧ (∀ (s : State), s.ev.fallow = true → exec .eventOffer s = .next s)
  ∧ (∀ (s : State) (o : Offer), s.evcRuns = true → (s.ev.offers.find? fun q => q.ev == o.ev) = some o →
    (s.source o.ev).fallback = false →
    ∃ t, exec (.claimTimeout o.ev) s = .next t ∧ t.cnt = addCtr s.cnt Reg.EVC_CNT_REOFFER 1)
  ∧ (∀ (s : State), s.evcRuns = true → s.offerable = [] → s.ev.offers = [] →
    (s.ev.sources.all fun q => q.2.holder.isNone) = true →
    exec .evcIdleTimeout s = .next { s with ev := { s.ev with fallow := true } })
  ∧ (∀ (s : State) (n : Nat) (x : Source), s.evcRuns = true → (n, x) ∈ s.ev.sources → x.pending = true →
    x.enable = true → x.wake = true → exec .evcWake s = .next { s with ev := { s.ev with fallow := false } })
  ∧ (∀ (s t : State) (c : Ctx) (mask : List Nat) (addr port k : Nat), s.starts t c (Cmd.fo 0x6001 Legal.R) Target.none →
    (∀ e ∈ mask, e ≤ 1023) → addr < 2 ^ 128 → port < 65536 →
    (t.classOf c = some .owner → ∀ e ∈ mask, e = Ev.THERMAL_THROTTLE) → t.ev.subs.lowestFree 8 8 = some k →
    exec (.evtSubscribe c mask addr port) s = .next
      ((t.modEv fun e => { e with
          subs := e.subs.put k { session := c.session, mask := mask, address := addr, port := port, seq := 0
                                 isOwner := decide (t.classOf c = some .owner) }
          thresholds := e.thresholds.del k }).reply c 0x6001 St.OK [.num k]))
  ∧ (∀ (s t : State) (c : Ctx) (k : Nat) (u : Subscriber), s.starts t c (Cmd.fo 0x6002 Legal.A) Target.none →
    t.ev.subs.look k = some u → u.session = c.session →
    exec (.evtUnsubscribe c k) s = .next ((t.unsubscribe k).reply c 0x6002 St.OK []))
  ∧ (∀ (s t : State) (c : Ctx) (k ev : Nat) (u : Subscriber), s.starts t c (Cmd.fo 0x6003 Legal.A) Target.none →
    t.ev.subs.look k = some u → u.session = c.session →
    (t.ev.offers.any fun o => o.ev == ev && o.targets.contains k) = true →
    exec (.evtClaim c k ev) s = .next
      (((t.modSource ev fun x => { x with pending := false, holder := some (k, t.groupOf ev) }).modEv fun v => { v with
          offers := v.offers.filter (fun o => o.ev != ev), tried := v.tried.del ev }).reply c 0x6003 St.OK [.num ev]))
  ∧ (∀ (s t : State) (c : Ctx) (k ev : Nat) (u : Subscriber), s.starts t c (Cmd.fo 0x6003 Legal.A) Target.none →
    t.ev.subs.look k = some u → u.session = c.session →
    (t.ev.offers.any fun o => o.ev == ev && o.targets.contains k) = false →
    exec (.evtClaim c k ev) s = .next ((t.bump Reg.EVC_CNT_SPURIOUS).reply c 0x6003 St.OK [.num 1023]))
  ∧ (∀ (s t : State) (c : Ctx) (k ev g : Nat) (u : Subscriber), s.starts t c (Cmd.fo 0x6004 Legal.A) Target.none →
    t.ev.subs.look k = some u → u.session = c.session → (t.source ev).holder = some (k, g) →
    exec (.evtComplete c k ev) s = .next
      ((t.modSource ev fun x => { x with holder := none, pending := x.pending || x.holds }).reply c 0x6004 St.OK []))

/-- R382, R384, R385: an event is offered only to targets whose current priority and threshold it beats; a target that
holds an event of GROUP g is offered only events of a lower GROUP. R381, R382: a raise makes its source PENDING and
changes no other source, no offer, no subscriber and no pool byte; from event 24 up it is the newest record of the log.
-/
def Obligations.EventsFollowPriority : Prop :=
  (∀ (s : State) (ev k : Nat), s.eligible ev k = true →
    s.targetPresent k = true ∧ (s.source ev).targets.getLsbD k = true
      ∧ (∀ e g, (e, g) ∈ s.heldBy k → s.groupOf ev < g) ∧ s.groupOf ev < s.threshold k / 2 ^ s.prigroup)
  ∧ (∀ (s : State) (ev u d : Nat), ((s.raise ev u d).source ev).pending = true
    ∧ (∀ k, k ≠ ev → (s.raise ev u d).source k = s.source k)
    ∧ (s.raise ev u d).ev.offers = s.ev.offers ∧ (s.raise ev u d).ev.subs = s.ev.subs
    ∧ (s.raise ev u d).pool.mem = s.pool.mem
    ∧ (24 ≤ ev → (s.raise ev u d).ev.log.getLast? = some { ev := ev, unit := u, timeNs := s.clk.timeNs, detail := d }))

/-! ### Fallow, STANDBY and DEEP_STANDBY (R390 to R394) -/

/-- POWER_STATE_SET withholds credits and waits for quiet, or leaves STANDBY at once; the entry ends in STANDBY with core
0 alone and every stack in self-refresh; an entry that is not quiet in time fails, and credits return; a stack goes into
self-refresh and wakes (R390 to R392). -/
def Obligations.PowerStatesComplete : Prop :=
  (∀ (s t : State) (c : Ctx) (n : Nat),
    s.admits c (Cmd.f 0x6101 Legal.P) Target.none (fun u => u.powerLegal n) = true → t = s.taken c 0x6101 Target.none →
    n = 1 ∨ n = 2 → t.dev.quiesce = none →
    exec (.powerStateSet c n) s = .next { t with dev := { t.dev with
      creditsWithheld := true
      quiesce := some { session := c.session, seq := c.seq, deep := decide (n = 2), startNs := t.clk.timeNs
                        wake := none, flushing := false } } })
  ∧ (∀ (s t : State) (c : Ctx),
    s.admits c (Cmd.f 0x6101 Legal.P) Target.none (fun u => u.powerLegal 0) = true → t = s.taken c 0x6101 Target.none →
    t.dev.quiesce = none → t.dev.state = .standby →
    ∃ u, exec (.powerStateSet c 0) s = .next u ∧ u.dev.state = t.dev.resume ∧ u.dev.coresOn = 0xFF ∧ u.dev.hbmSr = 0
      ∧ u.dev.wakeCause = (false, true, false, 1023))
  ∧ (∀ (s : State) (q : Quiesce), s.dev.quiesce = some q → s.entryOpen = true → s.openSteps = 0 → q.deep = false →
    q.wake = none → s.dev.powerWaiting = [] →
    ∃ t, exec .quiesceComplete s = .next t ∧ t.dev.state = .standby ∧ t.dev.coresOn = 1 ∧ t.dev.hbmSr = 0xFF
      ∧ t.dev.ctrlListen = true ∧ t.dev.quiesce = none ∧ t.ev.fallow = true)
  ∧ (∀ (s : State) (q : Quiesce), s.dev.quiesce = some q → s.entryOpen = true → s.openSteps ≠ 0 → q.flushing = false →
    s.dev.powerWaiting = [] →
    ∃ t, exec .quiesceTimeout s = .next t ∧ t.dev.state = s.dev.state ∧ t.dev.quiesce = none
      ∧ t.dev.creditsWithheld = false ∧ t.cnt = addCtr s.cnt Reg.PWR_CNT_QUIESCE_FAIL 1)
  ∧ (∀ (s : State) (k : Nat), s.running = true → k < 4 ∨ (k < 8 ∧ s.dev.singleDie = false) →
    exec (.hbmIdleTimeout k) s = .next { s with dev := { s.dev with hbmSr := s.dev.hbmSr ||| BitVec.ofNat 8 (2 ^ k) } })
  ∧ (∀ (s : State) (k : Nat), k < 8 → s.dev.hbmWaking.getLsbD k = true →
    exec (.hbmWakeDone k) s = .next
      (({ s with dev := { s.dev with
            hbmSr := s.dev.hbmSr &&& ~~~(BitVec.ofNat 8 (2 ^ k))
            hbmWaking := s.dev.hbmWaking &&& ~~~(BitVec.ofNat 8 (2 ^ k)) } } : State).settle))

/-! ### Boot, resets and management cores (R21, R336, R371, R400 to R406) -/

/-- R400, R404, R405: the running boot step ends with its DONE entry, its effect and the next step, or with its FAILED
entry, the boot failure counted, and the alternate, skip, bank, revert or FAULTED that its failure leads to; a step that
exceeds its limit has failed. R400, R401, R406: the last step of a confirmed bank ends in READY without a composition
and in SERVING with one; step 1, 3 or 4 that fails with nothing to fall back to ends in FAULTED with FAULT_N low and the
boot ROM alone running. A reset by command, a core that restarts and comes back, and a bridge that fails (R21, R336,
R371, R418): DEVICE_RESET answers, flushes the recorder and starts BOOT; a core whose watchdog expires stops taking
commands and its events return to PENDING; the bridge's failure is FAULTED with FAULT_N low. -/
def Obligations.BootCompletes : Prop :=
  (∀ (s : State) (n unit detail : Nat), s.booting = true → s.fw.step = n →
    exec (.bootStepDone true unit detail) s = .next (((s.journal n (s.pathOf n) 1 unit detail).stepEffect n).nextStep n))
  ∧ (∀ (s : State) (n unit detail : Nat), s.booting = true → s.fw.step = n → n ≠ 14 →
    exec (.bootStepDone false unit detail) s = .next
      ((((s.journal n (s.pathOf n) 2 unit detail).bump Reg.FW_CNT_BOOT_FAIL).countBoot n).stepFailed n unit true))
  ∧ (∀ (s : State) (n : Nat), s.booting = true → s.fw.step = n → n ≠ 14 → n ≠ 8 → n ≠ 11 →
    ∃ t u, t = s.advanceTo (s.fw.stepNs + 1000 * stepLimitUs n)
      ∧ u = ((t.journal n (t.pathOf n) 2 0xFF t.free).drawn.bump Reg.FW_CNT_BOOT_FAIL).countBoot n
      ∧ exec .bootStepTimeout s = .next (u.stepFailed n 0xFF true))
  ∧ (∀ (s : State) (unit detail : Nat), s.booting = true → s.fw.step = 14 → s.fw.confirmed = true →
    ∃ t, exec (.bootStepDone true unit detail) s = .next t
      ∧ t.dev.state = (if s.comps = [] then .ready else .serving) ∧ t.fw.upd = s.fw.upd ∧ t.pool = s.pool)
  ∧ (∀ (s : State) (unit detail : Nat), s.booting = true → s.fw.step = 14 → s.fw.confirmed = false →
    ∃ t, exec (.bootStepDone true unit detail) s = .next t ∧ t.fw.upd = .pendingConfirm
      ∧ t.fw.confirmBy = some (s.clk.timeNs + 1000000000 * s.field Reg.FW_CONFIRM_CFG 15 0))
  ∧ (∀ (s : State) (unit detail : Nat), s.booting = true → s.fw.step = 3 → s.fw.confirmed = true → s.fw.other = true →
    ∃ t, exec (.bootStepDone false unit detail) s = .next t ∧ t.dev.state = .faulted ∧ t.pins.faultLow = true
      ∧ t.fw.romOnly = true)
  ∧ (∀ (s t : State) (c : Ctx), s.starts t c (Cmd.f 0x0006 Legal.C) Target.none →
    exec (.deviceReset c) s = .next ((t.reply c 0x0006 St.OK []).flushRecords.resetInto false))
  ∧ (∀ (s : State) (n : Nat), n < 8 → s.dev.coresOn.getLsbD n = true → s.dev.restarting.getLsbD n = false →
    ∃ t, exec (.watchdogExpiry n) s = .next t ∧ t.dev.restarting = s.dev.restarting ||| BitVec.ofNat 8 (2 ^ n)
      ∧ t.cnt = addCtr s.cnt Reg.FT_CNT_WATCHDOG 1 ∧ t.targetPresent n = false)
  ∧ (∀ (s : State) (n : Nat), n < 8 → s.dev.restarting.getLsbD n = true →
    exec (.coreRestartDone n) s = .next
      { s with dev := { s.dev with restarting := s.dev.restarting &&& ~~~(BitVec.ofNat 8 (2 ^ n)) } })
  ∧ (∀ (s : State), s.dev.bridgeUp = true → s.dev.singleDie = false → s.dev.state ≠ .poweredOff →
    s.dev.state ≠ .deepStandby → s.dev.state ≠ .boot →
    ∃ t, exec .bridgeFailure s = .next t ∧ t.dev.state = .faulted ∧ t.pins.faultLow = true ∧ t.dev.bridgeUp = false)

/-! ### Firmware updates (R407 to R415) -/

/-- R399, R407, R414: HEALTH_CONFIRM never lowers the rollback counter, and the other commands of an update leave it, the
pool's bytes and the set of compositions as they were. -/
def Obligations.RollbackCounterNeverFalls : Prop :=
  (∀ (s t : State) (c : Ctx) (i : Instr),
    i = .healthConfirm c → exec i s = .next t → s.fw.rollback ≤ t.fw.rollback)
  ∧ (∀ (s t : State) (c : Ctx) (h k off : Nat) (d : List Byte) (m : Manifest) (i : Instr),
    i ∈ [.fwUpdateBegin c m, .fwUpdateBlock c h k off d, .fwUpdateVerify c h, .fwUpdateAbort c h, .fwActivate c h, .fwStatus c] →
    exec i s = .next t → t.fw.rollback = s.fw.rollback ∧ t.pool.mem = s.pool.mem ∧ t.comps.keys = s.comps.keys)

/-! ### The recorder and the colophon (R376, R417 to R423) -/

/-- A sample of a record whose source runs goes into its bin and its extremes, a flush writes every record to the flash,
a new extreme reaches the flash alone; REC_LIST, REC_READ and REC_CLEAR answer and clear records (R418 to R422). R419,
R420: a sample adds one to its bin and to the sample count, moves the extremes only outwards, and touches no other
record. -/
def Obligations.RecorderCompletes : Prop :=
  (∀ (s : State) (i : Nat) (v : Int), recIds.contains i = true → recKind i = 0 → s.sourceRuns i = true →
    exec (.recorderSample i v) s = .next ((s.sampleRec i v).showSample i v))
  ∧ (∀ (s : State), exec .recorderFlush s = .next s.flushRecords)
  ∧ (∀ (s : State), ∃ t, exec .extremeFlush s = .next t ∧ t.rcd.recs = s.rcd.recs
      ∧ t = { s with rcd := { s.rcd with flash := t.rcd.flash } })
  ∧ (∀ (s t : State) (c : Ctx), s.starts t c (Cmd.f 0x8001 Legal.R) Target.none →
    exec (.recList c) s = .next (t.reply c 0x8001 St.OK
      (recIds.flatMap fun i => [.num i, .num (recKind i), .num (recBins i)])))
  ∧ (∀ (s t : State) (c : Ctx) (ids : List Nat), s.starts t c (Cmd.f 0x8002 Legal.R) Target.none → ids ≠ [] →
    ids.length ≤ 64 → (∀ i ∈ ids, i ∈ recIds) →
    exec (.recRead c ids) s = .next (t.reply c 0x8002 St.OK
      (ids.map (fun i => .bytes ((t.rcrd i).bytes i)) ++ [.num t.rcd.opSeconds, .num t.rcd.cycles])))
  ∧ (∀ (s t : State) (c : Ctx) (ids : List Nat) (k : Token), s.starts t c (Cmd.f 0x8003 Legal.C) Target.none → ids ≠ [] →
    ids.length ≤ 64 → (∀ i ∈ ids, i ∈ recIds) → t.sec.debugSt ≠ .opened → t.sec.debugSt ≠ .returning →
    t.tokenFresh k = true → t.debugSigner k.sig.signer = true ∨ k.sig.signer = Config.returnAuthority →
    t.rcd.clearLog.length < 1024 →
    exec (.recClear c ids k) s = .next ((t.clearRecords ids k.sig.signer).reply c 0x8003 St.OK []))
  ∧ (∀ (s : State) (i : Nat) (v : Int), (s.rcrd i).bins.num (recBin i v) < 0xFFFFFFFF →
    ((s.sampleRec i v).rcrd i).bins.num (recBin i v) = (s.rcrd i).bins.num (recBin i v) + 1
    ∧ ((s.sampleRec i v).rcrd i).samples = (s.rcrd i).samples + 1
    ∧ (∀ b, b ≠ recBin i v → ((s.sampleRec i v).rcrd i).bins.num b = (s.rcrd i).bins.num b)
    ∧ (∀ k, k ≠ i → (s.sampleRec i v).rcrd k = s.rcrd k)
    ∧ (∃ h l, ((s.sampleRec i v).rcrd i).hi = some h ∧ ((s.sampleRec i v).rcrd i).lo = some l ∧ l.1 ≤ v ∧ v ≤ h.1))

/-- COLOPHON 0 captures a snapshot, keeps the session's last four and answers its first bytes; another number reads on
(R376). -/
def Obligations.ColophonCompletes : Prop :=
  (∀ (s t : State) (c : Ctx) (off : Nat) (x : Session) (p : Snapshot), s.starts t c (Cmd.fob 0x0020 Legal.A) Target.none →
    t.nirod.sessions.look c.session = some x →
    p = { id := x.nextSnap, bytes := t.colophon c.session, readNs := t.clk.timeNs } → off ≤ p.bytes.length →
    exec (.colophon c 0 off) s = .next
      ((t.modSession c.session fun x => { x with snaps := (p :: x.snaps).take 4, nextSnap := p.id + 1 }).reply c 0x0020
        St.OK [.num p.id, .num p.bytes.length, .num off, .bytes ((p.bytes.drop off).take 65536)]))
  ∧ (∀ (s t : State) (c : Ctx) (off : Nat) (x : Session) (p : Snapshot), s.starts t c (Cmd.fob 0x0020 Legal.A) Target.none →
    t.nirod.sessions.look c.session = some x → p.id ≠ 0 → (x.snaps.find? fun q => q.id == p.id) = some p →
    off ≤ p.bytes.length →
    exec (.colophon c p.id off) s = .next
      ((t.modSession c.session fun x => { x with
          snaps := x.snaps.map fun q => if q.id = p.id then { q with readNs := t.clk.timeNs } else q }).reply c 0x0020
        St.OK [.num p.id, .num p.bytes.length, .num off, .bytes ((p.bytes.drop off).take 65536)]))

/-! ### Security (R305 to R332) -/

/-- The SPDM messages that need no identity answer in every state from BOOT on; the attestation messages answer with a
valid identity; KEY_EXCHANGE starts a session that is neither finished nor bound, FINISH with a signature that verifies
ties it to its key, KEY_UPDATE starts a message count again and END_SESSION ends the session (R305, R307, R308, R311). -/
def Obligations.SpdmCompletes : Prop :=
  (∀ (s t : State) (c : Ctx), s.starts t c (Cmd.any 0x5001 Legal.A) Target.none →
    exec (.spdmGetVersion c) s = .next (t.reply c 0x5001 St.OK [.num 0x04])
    ∧ exec (.spdmGetCapabilities c) s = .next (t.reply c 0x5001 St.OK [.num 0x61])
    ∧ exec (.spdmNegotiateAlgorithms c true) s = .next (t.reply c 0x5001 St.OK [.num 0x63]))
  ∧ (∀ (s t : State) (c : Ctx) (n : Digest), s.starts t c (Cmd.any 0x5001 Legal.A) Target.none →
    t.sec.identityValid = true →
    exec (.spdmGetDigests c) s = .next (t.reply c 0x5001 St.OK [.num 0x01, .digest t.chainDigest])
    ∧ exec (.spdmGetCertificate c) s = .next (t.reply c 0x5001 St.OK [.num 0x02, .bytes (Config.certificate t.sec.identityGen)])
    ∧ exec (.spdmChallenge c n) s = .next (t.reply c 0x5001 St.OK
        [.num 0x03, .digest t.chainDigest, .bytes (Config.dikSign t.sec.identityGen (digestBytes n ++ digestBytes t.chainDigest))])
    ∧ exec (.spdmGetMeasurements c n) s = .next ((t.bump Reg.SE_CNT_ATTEST).reply c 0x5001 St.OK
        [.num 0x60, .bytes (t.measurements.flatMap MBlock.bytes),
         .bytes (Config.dikSign t.sec.identityGen (digestBytes n ++ t.measurements.flatMap MBlock.bytes))]))
  ∧ (∀ (s t : State) (c : Ctx) (i : Nat), s.starts t c (Cmd.any 0x5001 Legal.A) Target.none →
    t.nirod.sessions.length < 64 → i = t.nirod.nextSession →
    exec (.spdmKeyExchange c) s = .next
      ((t.modNirod fun n => { n with
          sessions := n.sessions.put i (newSession (t.field Reg.CM_SESSION_CFG 15 0) t.clk.timeNs)
          nextSession := i + 1 }).reply c 0x5001 St.OK [.num 0x64, .num i, .bytes (Config.dikSign t.sec.identityGen (leBytes 4 i))]))
  ∧ (∀ (s t : State) (c : Ctx) (i : Nat) (g : Signed) (x : Session), s.starts t c (Cmd.any 0x5001 Legal.A) Target.none →
    t.nirod.sessions.look i = some x → x.signer = none → g.ok = true →
    exec (.spdmFinish c i g) s = .next
      ((t.modSession i fun x => { x with signer := some g.signer }).reply c 0x5001 St.OK [.num 0x65]))
  ∧ (∀ (s t : State) (c : Ctx) (i : Nat) (k : Digest) (x : Session), s.starts t c (Cmd.any 0x5001 Legal.A) Target.none →
    t.nirod.sessions.look i = some x → x.signer = some k →
    exec (.spdmKeyUpdate c i true) s = .next ((t.modSession i fun x => { x with rxMsgs := 0 }).reply c 0x5001 St.OK [.num 0x69])
    ∧ exec (.spdmKeyUpdate c i false) s = .next ((t.modSession i fun x => { x with txMsgs := 0 }).reply c 0x5001 St.OK [.num 0x69])
    ∧ exec (.spdmHeartbeat c i) s = .next (t.reply c 0x5001 St.OK [.num 0x68]))
  ∧ (∀ (s t : State) (c : Ctx) (i : Nat), s.starts t c (Cmd.any 0x5001 Legal.A) Target.none →
    t.nirod.sessions.has i = true →
    exec (.spdmEndSession c i) s = .next ((t.reply c 0x5001 St.OK [.num 0x6C]).endSession i))

/-- The debug states (R326 to R330): DIAG is entered from SEALED with a token of a registered key, OPEN only without a
CONFIDENTIAL composition, and it destroys every key and ends every other session; RETURN needs the return authority and
no composition; DEBUG_EXIT leaves DIAG; REPROVISION leaves RETURN with the next identity generation. -/
def Obligations.DebugStatesComplete : Prop :=
  (∀ (s t : State) (c : Ctx) (k : Token), s.starts t c (Cmd.f 0x5008 Legal.C) Target.none → k.target = 1 →
    t.tokenFresh k = true → t.debugSigner k.sig.signer = true → t.sec.debugSt = .sealed →
    exec (.debugEnter c k) s = .next
      (({ t with sec := { t.sec with debugSt := .diag } } : State).reply c 0x5008 St.OK [.num 1]))
  ∧ (∀ (s t : State) (c : Ctx) (k : Token), s.starts t c (Cmd.f 0x5008 Legal.C) Target.none → k.target = 2 →
    t.tokenFresh k = true → t.debugSigner k.sig.signer = true → t.sec.debugSt = .sealed ∨ t.sec.debugSt = .diag →
    (∀ q ∈ t.comps, q.2.confidential = false) →
    exec (.debugEnter c k) s = .next
      ((((t.zeroise (some c.session)).scrubAll).modSec fun x => { x with debugSt := .opened, debugSincePower := true }).reply c
        0x5008 St.OK [.num 2]))
  ∧ (∀ (s t : State) (c : Ctx) (k : Token), s.starts t c (Cmd.f 0x5008 Legal.C) Target.none → k.target = 3 →
    t.tokenFresh k = true → k.sig.signer = Config.returnAuthority → t.comps = [] →
    exec (.debugEnter c k) s = .next
      ((((t.reply c 0x5008 St.OK [.num 3]).zeroise none).modSec fun x => { x with debugSt := .returning })))
  ∧ (∀ (s t : State) (c : Ctx), s.starts t c (Cmd.f 0x5009 Legal.C) Target.none → t.sec.debugSt = .diag →
    exec (.debugExit c) s = .next (({ t with sec := { t.sec with debugSt := .sealed } } : State).reply c 0x5009 St.OK [.num 0]))
  ∧ (∀ (s t : State) (c : Ctx) (k : Token), s.starts t c (Cmd.f 0x500A Legal.C) Target.none → t.tokenFresh k = true →
    k.sig.signer = Config.returnAuthority → t.sec.debugSt = .returning → t.sec.identityGen < 255 →
    exec (.reprovision c k) s = .next
      (({ t with sec := { t.sec with debugSt := .sealed, identityGen := t.sec.identityGen + 1 } } : State).reply c 0x500A St.OK
        [.num (t.sec.identityGen + 1)]))

/-- R326, R331: entering OPEN or RETURN leaves no binding slot, no chain key and no encrypted port keyed, and ends every
session but the one that asked. -/
def Obligations.ZeroiseLeavesNoKey : Prop :=
  ∀ (s : State) (keep : Option Nat), (s.zeroise keep).sec.chainKey = false
    ∧ (∀ q ∈ (s.zeroise keep).comps, q.2.bindSlots = [])
    ∧ (∀ q ∈ (s.zeroise keep).links, q.2.cryptOn = false)
    ∧ (∀ i, (s.zeroise keep).nirod.sessions.has i = true → keep = some i)

/-! ### Fault management (R352 to R356) -/

/-- R354: an EXPEL or READMIT without a quorum of valid signatures of registered managers changes nothing but the count
of failed authorisations. -/
def Obligations.ExpelNeedsQuorum : Prop :=
  (∀ (s t : State) (c : Ctx) (r : ExpelReq), s.starts t c (Cmd.f 0x4102 Legal.C) Target.none → r.node ≤ 0xFFF →
    (t.topo.assigned = true → r.node ≠ t.topo.node) → r.linkId ≠ t.linkId → t.clk.timeNs ≤ r.expiry →
    r.expiry ≤ t.clk.timeNs + 60000000000 → t.validSigners r.sigs < t.ft.quorum →
    exec (.expel c r) s = .next ((t.bump Reg.SE_CNT_AUTH_FAIL).reply c 0x4102 St.BAD_SIGNATURE []))
  ∧ (∀ (s t : State) (c : Ctx) (r : ExpelReq), s.starts t c (Cmd.f 0x4103 Legal.C) Target.none → r.node ≤ 0xFFF →
    (t.topo.assigned = true → r.node ≠ t.topo.node) → r.linkId ≠ t.linkId → t.clk.timeNs ≤ r.expiry →
    r.expiry ≤ t.clk.timeNs + 60000000000 → t.validSigners r.sigs < t.ft.quorum →
    exec (.readmit c r) s = .next ((t.bump Reg.SE_CNT_AUTH_FAIL).reply c 0x4103 St.BAD_SIGNATURE []))

/-! ### Compositions (R282 to R304) -/

/-- COMP_CREATE takes the lowest free handle and the device from READY to SERVING, a slice's reply waiting for the leaves of
others to leave its stacks; COMP_DESTROY unbinds the members and revokes the extents, and its end frees the handle
(R283, R284, R299). -/
def Obligations.CompositionsBeginAndEnd : Prop :=
  (∀ (s t : State) (c : Ctx) (r : CompReq) (h : Nat), s.starts t c (Cmd.f 0x1001 Legal.RS) Target.none →
    t.compItemBad r = none → t.sec.debugSt ≠ .returning → (r.confidential = 1 → t.sec.debugSt ≠ .opened) →
    (r.confidential = 1 → t.sec.identityValid = true) → t.comps.lowestFree 0 256 = some h → r.form = 0 →
    t.pressesHeld none false r.pressMask = false →
    ∃ u, exec (.compCreate c r) s = .next u ∧ u.comps = t.comps.put h (newComp r t.clk.timeNs)
      ∧ u.dev.state = (if t.dev.state = .ready then .serving else t.dev.state) ∧ u.pool = t.pool)
  ∧ (∀ (s t u : State) (c : Ctx) (r : CompReq) (h : Nat), s.starts t c (Cmd.f 0x1001 Legal.RS) Target.none →
    t.compItemBad r = none → t.sec.debugSt ≠ .returning → (r.confidential = 1 → t.sec.debugSt ≠ .opened) →
    (r.confidential = 1 → t.sec.identityValid = true) → t.comps.lowestFree 0 256 = some h → r.form = 1 →
    t.pressesHeld none true r.pressMask = false → t.unitsHeld r.stackMask r.fpMask = false → t.dev.state = .serving →
    u = ({ t with comps := t.comps.put h (newComp r t.clk.timeNs) } : State).clearStacks h r.stackMask →
    exec (.compCreate c r) s = .next (if (u.foreignLeaves h r.stackMask).isEmpty then u.reply c 0x1001 St.OK (u.createReply h)
      else u.modComp h fun y => { y with evicting := some (c.session, c.seq) }))
  ∧ (∀ (s : State) (h i q : Nat) (y : Comp), s.comp h = some y → y.evicting = some (i, q) →
    s.foreignLeaves h y.stackMask = [] →
    ∃ t, t = s.modComp h (fun y => { y with evicting := none })
      ∧ exec (.sliceEvictionDone h) s = .next (t.reply { session := i, seq := q, badItem := none } 0x1001 St.OK (t.createReply h)))
  ∧ (∀ (s t u : State) (c : Ctx) (h : Nat) (y : Comp), s.starts t c { Cmd.fo 0x1002 Legal.L with compFm := 3 } (Target.ofComp h) →
    t.comp h = some y → y.evicting = none →
    u = (t.modComp h fun y => { y with state := .destroying, destroyer := some (c.session, c.seq), evicting := none }).unbindAll h →
    exec (.compDestroy c h) s = .next ((u.extentsOf h).keys.foldl (fun v e =>
      if (v.extent e).any (fun x => decide (x.state = .active) || decide (x.state = .sealed)) then (v.revokeExtent e).2 else v) u))
  ∧ (∀ (s : State) (h i q : Nat) (y : Comp), s.comp h = some y → y.destroyer = some (i, q) → y.state = .destroying →
    s.extentsOf h = [] → (∀ d ∈ s.coh, d.2.comp ≠ h) →
    ∃ t, t = (s.endContexts h).dropOps h
      ∧ exec (.compDestroyDone h) s = .next ((t.freeHandle h).reply { session := i, seq := q, badItem := none } 0x1002 St.OK
        [.bytes (t.meterRecord h true)]))

/-- The commands on a composition (R286 to R289, R300, R303, R375): a member is added under the next epoch with its lease
running, removed with its agents' lines recalled or reclaimed, renewed; the press mask and the observers are set; the
reads answer and change nothing. -/
def Obligations.CompositionCommandsComplete : Prop :=
  (∀ (s t u : State) (c : Ctx) (h p n : Nat) (y : Comp) (m : Member),
    s.starts t c (Cmd.f 0x1003 Legal.S) { Target.ofComp h with member := some p } → t.comp h = some y →
    t.bindable h p y = true → n < 4096 → y.members.length < 256 → y.windowOpen = false →
    m = { lport := p, node := n, leaseEnd := t.clk.timeNs + 1000000 * y.memberLeaseMs, lapsed := false } →
    u = (t.mapChange h).modComp h (fun y => { y with members := y.members ++ [m] }) →
    exec (.compMemberAdd c h p n) s = .next (u.reply c 0x1003 St.OK [.num (((u.comp h).map Comp.epoch).getD 0)]))
  ∧ (∀ (s t u : State) (c : Ctx) (h p : Nat) (y : Comp) (m : Member) (reclaim : Bool),
    s.starts t c (Cmd.fo 0x1004 Legal.L) { Target.ofComp h with member := some p } → t.comp h = some y →
    (y.members.find? fun m => m.lport == p) = some m → y.windowOpen = false →
    (reclaim = false → ((t.agentsAt h p m.node).all fun a => (t.coh.look a.1).all fun d => d.recaller.isNone) = true) →
    u = (if reclaim then ((t.mapChange h).unbind h p).reclaimPort h p m.node
      else ((t.mapChange h).unbind h p).recallPort h p m.node) →
    exec (.compMemberRemove c h p reclaim) s = .next (u.settle.reply c 0x1004 St.OK [.num (((u.comp h).map Comp.epoch).getD 0)]))
  ∧ (∀ (s t : State) (c : Ctx) (h e : Nat) (y : Comp), s.starts t c (Cmd.fo 0x1005 Legal.L) (Target.ofComp h) →
    t.comp h = some y → e = t.clk.timeNs + 1000000000 * y.leaseS →
    exec (.compRenew c h none) s = .next ((t.modComp h fun y => { y with
        leaseEnd := e, members := y.members.map fun m => m }).reply c 0x1005 St.OK [.num e]))
  ∧ (∀ (s t : State) (c : Ctx) (h e p : Nat) (y : Comp),
    s.starts t c (Cmd.fo 0x1005 Legal.L) { Target.ofComp h with member := some p } → t.comp h = some y →
    (y.members.any fun m => m.lport == p && !m.lapsed && decide (t.clk.timeNs < m.leaseEnd)) = true →
    e = t.clk.timeNs + 1000000000 * y.leaseS →
    exec (.compRenew c h (some p)) s = .next ((t.modComp h fun z => { z with
        leaseEnd := e
        members := z.members.map fun m =>
          if m.lport = p then { m with leaseEnd := t.clk.timeNs + 1000000 * z.memberLeaseMs } else m }).reply c 0x1005 St.OK
        [.num e]))
  ∧ (∀ (s t : State) (c : Ctx) (h : Nat) (k : BitVec 8) (y : Comp), s.starts t c (Cmd.f 0x1006 Legal.L) (Target.ofComp h) →
    t.comp h = some y → t.pressesHeld (some h) y.slice k = false →
    (t.work.groups.vals.all fun g => g.comp != h || k.getLsbD g.press) = true →
    exec (.compPressSet c h k) s = .next ((t.modComp h fun y => { y with pressMask := k }).reply c 0x1006 St.OK []))
  ∧ (∀ (s t : State) (c : Ctx) (h : Nat) (y : Comp),
    s.starts t c { Cmd.fob 0x1007 Legal.R with compFm := 7, compOther := 5 } (Target.ofComp h) → t.comp h = some y →
    exec (.compInfo c h) s = .next (t.reply c 0x1007 St.OK ([.num y.stateWord, .num y.epoch, .num y.resourceWord]
      ++ y.members.map (fun m => .num m.lport) ++ (t.extentsOf h).keys.map .num)))
  ∧ (∀ (s t : State) (c : Ctx) (h : Nat) (y : Comp),
    s.starts t c { Cmd.fob 0x1008 Legal.R with compFm := 7, compOther := 5 } (Target.ofComp h) → t.comp h = some y →
    exec (.compMeterRead c h) s = .next (t.reply c 0x1008 St.OK [.bytes (t.meterRecord h false)]))
  ∧ (∀ (s t : State) (c : Ctx) (h : Nat) (y : Comp), s.starts t c (Cmd.fob 0x1009 Legal.R) (Target.ofComp h) →
    t.comp h = some y →
    exec (.compStats c h) s = .next (t.reply c 0x1009 St.OK [.num t.clk.timeNs,
      .bytes ((t.statRegs h ++ t.statDomains h).flatMap fun q => leBytes 4 q.1 ++ leBytes 4 q.2),
      .bytes ((t.statQueues y).flatMap (leBytes 4))]))
  ∧ (∀ (s t : State) (c : Ctx) (h : Nat) (l : List Digest) (y : Comp), s.starts t c (Cmd.fo 0x100A Legal.L) (Target.ofComp h) →
    t.comp h = some y → l.length ≤ 4 →
    exec (.compObserverSet c h l) s = .next ((t.modComp h fun y => { y with observers := l }).reply c 0x100A St.OK []))

/-- R288 to R292: a composition's lease that runs out expires it, a member's unbinds it or, while a drain window is
open, waits for the window's end; the window's end aborts what belongs to the previous epoch. R286, R291: a change of a
composition's map raises its epoch by one and opens a drain window of its length, and touches no other composition. -/
def Obligations.LeasesAndWindowsComplete : Prop :=
  (∀ (s : State) (h : Nat) (y : Comp), s.comp h = some y → y.state = .active → s.dev.pausedAt = none →
    exec (.compLeaseExpiry h) s = .next ((s.advanceTo y.leaseEnd).expireComp h))
  ∧ (∀ (s : State) (h p : Nat) (y : Comp) (m : Member), s.comp h = some y → (y.members.find? fun m => m.lport == p) = some m →
    y.state = .active → s.dev.pausedAt = none → m.lapsed = false → y.windowOpen = false →
    exec (.memberLeaseExpiry h p) s = .next ((s.advanceTo m.leaseEnd).expireMember h p))
  ∧ (∀ (s : State) (h p : Nat) (y : Comp) (m : Member), s.comp h = some y → (y.members.find? fun m => m.lport == p) = some m →
    y.state = .active → s.dev.pausedAt = none → m.lapsed = false → y.windowOpen = true →
    exec (.memberLeaseExpiry h p) s = .next ((s.advanceTo m.leaseEnd).modComp h fun y => { y with
      members := y.members.map fun m => if m.lport = p then { m with lapsed := true } else m }))
  ∧ (∀ (s t : State) (h n : Nat) (y z : Comp), s.comp h = some y → y.windowEnd = some n →
    t = ((s.advanceTo n).abortOldEpoch h).modComp h (fun y => { y with windowEnd := none, prevMap := [] }) →
    t.comp h = some z → (z.members.all fun m => !m.lapsed) = true → exec (.drainWindowClose h) s = .next t)
  ∧ (∀ (s : State) (h : Nat) (y : Comp), s.comp h = some y → y.epoch + 1 < 2 ^ 32 →
    (∃ z, (s.mapChange h).comp h = some z ∧ z.epoch = y.epoch + 1 ∧ z.windowEnd = some (s.clk.timeNs + 1000 * y.drainUs)
      ∧ z.members = y.members ∧ z.leaseEnd = y.leaseEnd)
    ∧ (∀ k, k ≠ h → (s.mapChange h).comp k = s.comp k) ∧ (s.mapChange h).pool = s.pool)

/-! ### Extents (R29 to R48, R296 to R298) -/

/-- EXTENT_CREATE places an extent that breaks no rule and answers its EXTENT_ID; EXTENT_DESTROY frees a REVOKED or HELD
one under the map rule; EXTENT_HINT hints each of its chunks; EXTENT_SEAL starts a seal, and the digest that matches ends
it; EXTENT_INFO answers the attributes (R29 to R34, R39, R42, R44, R48). -/
def Obligations.ExtentCommandsComplete : Prop :=
  (∀ (s t : State) (c : Ctx) (h : Nat) (r : ExtentReq) (y : Comp) (x : Extent),
    s.starts t c (Cmd.fo 0x2001 Legal.S) (Target.ofComp h) → t.comp h = some y → t.extentItemBad y r = none →
    (r.layout = 1 → r.protection ≠ 1) → t.extentOverlaps h r.base r.size = false →
    t.extentRoom h y (newExtent r h t.pool.nextStore) = true → t.placeExtent (newExtent r h t.pool.nextStore) = some x →
    exec (.extentCreate c h r) s = .next ((t.modPool fun p => { p with
        extents := p.extents.put p.nextExtent x
        nextExtent := p.nextExtent + 1
        nextStore := p.nextStore + 1 }).reply c 0x2001 St.OK [.num t.pool.nextExtent]))
  ∧ (∀ (s t : State) (c : Ctx) (e : Nat) (x : Extent) (y : Comp),
    s.starts t c { Cmd.fo 0x2002 Legal.L with compFm := 3 } (s.targetExtent e) → t.extent e = some x →
    x.state = .revoked ∨ x.state = .held → t.comp x.comp = some y → y.windowOpen = false →
    exec (.extentDestroy c e) s = .next (((t.mapChange x.comp).freeExtent e).reply c 0x2002 St.OK []))
  ∧ (∀ (s t : State) (c : Ctx) (e a n k : Nat) (x : Extent), s.starts t c (Cmd.fo 0x2003 Legal.L) (s.targetExtent e) →
    t.extent e = some x → n ≠ 0 → a + n ≤ x.chunkCount → x.state ≠ .revoking → x.state ≠ .revoked → 1 ≤ k → k ≤ 3 →
    exec (.extentHint c e a n k) s = .next
      (((List.range' a n).foldl (fun s ch => s.hintChunk e k ch) t).reply c 0x2003 St.OK []))
  ∧ (∀ (s t : State) (c : Ctx) (e : Nat) (x : Extent), s.starts t c (Cmd.fo 0x2004 Legal.L) (s.targetExtent e) →
    t.extent e = some x → x.durability = .replicated → x.state = .active → x.sealer = none → t.replicaHere x = none →
    exec (.extentSeal c e) s = .next (t.modExtent e fun x => { x with sealer := some (c.session, c.seq) }))
  ∧ (∀ (s : State) (e i q : Nat) (x : Extent) (d : Digest), s.extent e = some x → x.sealer = some (i, q) →
    s.tx.steps = [] → d = Config.sha3 (s.readPool e 0 x.size) →
    exec (.extentSealDone e d) s = .next ((s.modExtent e fun x => { x.cleanT0 with state := .sealed, sealer := none }).reply
      { session := i, seq := q, badItem := none } 0x2004 St.OK [.digest d]))
  ∧ (∀ (s t : State) (c : Ctx) (e : Nat) (x : Extent),
    s.starts t c { Cmd.fob 0x2008 Legal.R with compFm := 1 } (s.targetExtent e) → t.extent e = some x →
    exec (.extentInfo c e) s = .next (t.reply c 0x2008 St.OK (x.attributes.map .num)))

/-- EXTENT_REVOKE stops every request and operation on an extent and answers how many there were; EXTENT_DRAIN waits for
the end of the drain, which leaves the extent REVOKED; EXTENT_ADOPT moves a HELD extent to another composition under a
new EXTENT_ID (R296 to R298). R298: an adoption keeps the extent's bytes, its base and its size, and the EXTENT_ID it
had is no extent any more. -/
def Obligations.RevocationCompletes : Prop :=
  (∀ (s t : State) (c : Ctx) (e : Nat) (x : Extent), s.starts t c (Cmd.fo 0x2005 Legal.L) (s.targetExtent e) →
    t.extent e = some x → x.state = .active ∨ x.state = .sealed →
    exec (.extentRevoke c e) s = .next ((t.revokeExtent e).2.reply c 0x2005 St.OK [.num (t.revokeExtent e).1]))
  ∧ (∀ (s t : State) (c : Ctx) (e : Nat) (x : Extent), s.starts t c (Cmd.fo 0x2006 Legal.L) (s.targetExtent e) →
    t.extent e = some x →
    (x.state = .revoked → exec (.extentDrain c e) s = .next (t.reply c 0x2006 St.OK []))
    ∧ (x.state = .revoking → exec (.extentDrain c e) s = .next
        (t.modExtent e fun x => { x with drainers := x.drainers ++ [(c.session, c.seq)] })))
  ∧ (∀ (s : State) (e : Nat) (x : Extent), s.extent e = some x → x.state = .revoking → s.drained e = true →
    exec (.extentDrainDone e) s = .next (s.endDrain e))
  ∧ (∀ (s t : State) (c : Ctx) (e h : Nat) (x : Extent) (y : Comp),
    s.starts t c { Cmd.f 0x2007 Legal.L with compFm := 3 } (s.targetExtent e) → t.extent e = some x → t.comp h = some y →
    t.adoptRefused x h y = none →
    exec (.extentAdopt c e h) s = .next ((t.adopt e h).2.reply c 0x2007 St.OK [.num (t.adopt e h).1]))
  ∧ (∀ (s : State) (e h : Nat) (x : Extent), s.extent e = some x → x.written = [] → s.pool.extents.wf = true →
    e < s.pool.nextExtent →
    (∃ z, (s.adopt e h).2.extent (s.adopt e h).1 = some z ∧ z.comp = h ∧ z.state = .active ∧ z.base = x.base ∧ z.size = x.size
      ∧ z.store = x.store)
    ∧ (s.adopt e h).2.extent e = none ∧ (s.adopt e h).2.pool.mem = s.pool.mem)

/-! ### KV objects, codebooks, groups and ledgers (R54 to R57, R115, R165 to R168, R174, R350) -/

/-- KV objects are created FILLING under the next KV number, published, looked up within their composition, acquired,
released, renewed, hinted and destroyed; a lease that runs out retires the object, which goes at once without references
(R54 to R57). R56: KV_DESTROY of an object that is referenced, and KV_RELEASE of one that is not, change nothing. -/
def Obligations.KvObjectsComplete : Prop :=
  (∀ (s t : State) (c : Ctx) (r : KvReq) (x : Extent) (k : Kv), s.starts t c (Cmd.fo 0x2101 Legal.S) (s.targetExtent r.extent) →
    t.extent r.extent = some x → k = newKv r t.clk.timeNs → r.layers ≠ 0 → r.heads ≠ 0 → r.pages ≠ 0 → dimOk r.dim = true →
    (∀ n, r.leaseS = some n → 1 ≤ n ∧ n ≤ 3600) → r.objOffset % (if x.vq then x.slotLines * 128 else 32768) = 0 →
    x.gone = false → r.objOffset + k.quires * k.quireBytes x ≤ x.size → t.kvByKey x.comp r.key = none → x.poison = [] →
    exec (.kvCreate c r) s = .next ((t.modPool fun p => { p with kv := p.kv.put p.nextKv k, nextKv := p.nextKv + 1 }).reply c
      0x2101 St.OK [.num t.pool.nextKv]))
  ∧ (∀ (s t : State) (c : Ctx) (k : Nat) (o : Kv) (x : Extent), s.starts t c (Cmd.fo 0x2102 Legal.L) (s.targetKv k) →
    t.pool.kv.look k = some o → t.extent o.extent = some x → o.state ≠ .retiring →
    exec (.kvPublish c k) s = .next ((t.modKv k fun o => { o with state := .ready }).reply c 0x2102 St.OK [.num 1]))
  ∧ (∀ (s t : State) (c : Ctx) (h k : Nat) (key : BitVec 128) (y : Comp) (o : Kv) (x : Extent),
    s.starts t c (Cmd.fo 0x2103 Legal.R) (Target.ofComp h) → t.comp h = some y → t.kvByKey h key = some (k, o) →
    t.pool.kv.look k = some o → t.extent o.extent = some x → o.state ≠ .retiring → x.gone = false →
    exec (.kvLookup c h key) s = .next (t.reply c 0x2103 St.OK
      ([k, o.state.code, o.layers, o.heads, o.pages, o.dim, b2n o.bf16].map .num ++ rangeItems o.lostRanges)))
  ∧ (∀ (s t : State) (c : Ctx) (k : Nat) (o : Kv) (x : Extent), s.starts t c (Cmd.fo 0x2104 Legal.L) (s.targetKv k) →
    t.pool.kv.look k = some o → t.extent o.extent = some x → o.state ≠ .retiring → x.gone = false → o.refs < 65535 →
    exec (.kvAcquire c k) s = .next ((t.modKv k fun o => { o with refs := o.refs + 1 }).reply c 0x2104 St.OK
      (.num (o.refs + 1) :: rangeItems o.lostRanges)))
  ∧ (∀ (s t : State) (c : Ctx) (k : Nat) (o : Kv), s.starts t c (Cmd.fo 0x2105 Legal.L) (s.targetKv k) →
    t.pool.kv.look k = some o → o.refs ≠ 0 →
    exec (.kvRelease c k) s = .next (((t.modKv k fun o => { o with refs := o.refs - 1 }).freeKvIfDone k).reply c 0x2105 St.OK
      [.num (o.refs - 1)]))
  ∧ (∀ (s t : State) (c : Ctx) (k n e : Nat) (o : Kv) (x : Extent), s.starts t c (Cmd.fo 0x2106 Legal.L) (s.targetKv k) →
    t.pool.kv.look k = some o → t.extent o.extent = some x → o.state ≠ .retiring → 1 ≤ n → n ≤ 3600 →
    e = t.clk.timeNs + 1000000000 * n →
    exec (.kvRenew c k n) s = .next ((t.modKv k fun o => { o with leaseEnd := e }).reply c 0x2106 St.OK [.num e]))
  ∧ (∀ (s t : State) (c : Ctx) (k n a b : Nat) (o : Kv) (x : Extent), s.starts t c (Cmd.fo 0x2107 Legal.L) (s.targetKv k) →
    t.pool.kv.look k = some o → t.extent o.extent = some x → o.state ≠ .retiring → x.state ≠ .revoking → x.state ≠ .revoked →
    1 ≤ n → n ≤ 3 → o.quires * o.quireBytes x ≠ 0 → a = o.objOffset / 2097152 →
    b = (o.objOffset + o.quires * o.quireBytes x - 1) / 2097152 + 1 - a →
    exec (.kvHint c k n) s = .next
      (((List.range' a b).foldl (fun s ch => s.hintChunk o.extent n ch) t).reply c 0x2107 St.OK []))
  ∧ (∀ (s t : State) (c : Ctx) (k : Nat) (o : Kv), s.starts t c (Cmd.fo 0x2108 Legal.L) (s.targetKv k) →
    t.pool.kv.look k = some o → o.refs = 0 → o.implicit = 0 →
    exec (.kvDestroy c k) s = .next ((t.modPool fun p => { p with kv := p.kv.del k }).reply c 0x2108 St.OK []))
  ∧ (∀ (s : State) (k : Nat) (o : Kv), s.pool.kv.look k = some o → o.state ≠ .retiring → s.dev.pausedAt = none →
    (∀ x, s.extent o.extent = some x → x.state ≠ .held) →
    exec (.kvLeaseExpiry k) s = .next
      (((s.advanceTo o.leaseEnd).modKv k fun o => { o with state := .retiring }).freeKvIfDone k))
  ∧ (∀ (s t : State) (c : Ctx) (k : Nat) (o : Kv), s.starts t c (Cmd.fo 0x2108 Legal.L) (s.targetKv k) →
    t.pool.kv.look k = some o → o.refs ≠ 0 → exec (.kvDestroy c k) s = .next (t.reply c 0x2108 St.EXTENT_BUSY []))
  ∧ (∀ (s t : State) (c : Ctx) (k : Nat) (o : Kv), s.starts t c (Cmd.fo 0x2105 Legal.L) (s.targetKv k) →
    t.pool.kv.look k = some o → o.refs = 0 →
    exec (.kvRelease c k) s = .next (t.reply c 0x2105 St.INVALID_PARAM [.detail Det.FAILED_ITEM 0]))

/-- VQ_CODEBOOK_SET copies 64 KiB of finite FP16 under the next generation, VQ_CODEBOOK_CLEAR frees it and keeps the
generation, and the reads answer; REDUCE_GROUP_CREATE and LEDGER_OPEN add their object under the next number,
REDUCE_GROUP_DESTROY aborts what is open and LEDGER_CLOSE replies once every step is recorded (R115, R165 to R168, R174,
R350). -/
def Obligations.CodebooksGroupsLedgersComplete : Prop :=
  (∀ (s t : State) (c : Ctx) (h cb a e off g : Nat) (y : Comp) (x : Extent) (b : List Byte),
    s.starts t c (Cmd.fo 0x2201 Legal.L) (Target.ofComp h) → t.comp h = some y → cb ≤ 63 → a % 128 = 0 → a < 2 ^ 57 →
    t.codebooksBusy h = false → t.findExtent h a 65536 = some (e, off) → t.extent e = some x → b = t.readPool e off 65536 →
    x.gone = false → x.isProtected = false → x.vq = false → codebookFinite b = true →
    (y.codebooks.look cb).any Codebook.registered = true ∨ (t.pinnedOf h + 2 ≤ y.pinQuota ∧ 2 ≤ t.t0Free) →
    x.poisoned off 65536 = false → g = nextGen (((y.codebooks.look cb).map Codebook.gen).getD 0) →
    exec (.vqCodebookSet c h cb a) s = .next (((t.modComp h fun y => { y with
        codebooks := y.codebooks.put cb { gen := g, registered := true, bytes := b } }).forgetCodebook h cb).reply c 0x2201
      St.OK [.num g]))
  ∧ (∀ (s t : State) (c : Ctx) (h cb : Nat) (y : Comp) (b : Codebook), s.starts t c (Cmd.fo 0x2202 Legal.L) (Target.ofComp h) →
    t.comp h = some y → cb ≤ 63 → t.codebooksBusy h = false → y.codebooks.look cb = some b → b.registered = true →
    exec (.vqCodebookClear c h cb) s = .next (((t.modComp h fun y => { y with
        codebooks := y.codebooks.put cb { gen := b.gen, registered := false, bytes := [] } }).forgetCodebook h cb).reply c
      0x2202 St.OK []))
  ∧ (∀ (s t : State) (c : Ctx) (h : Nat) (y : Comp), s.starts t c (Cmd.fo 0x2203 Legal.R) (Target.ofComp h) →
    t.comp h = some y →
    exec (.vqCodebookInfo c h) s = .next (t.reply c 0x2203 St.OK
      (.num (sumOf y.codebooks fun q => if q.2.registered then 2 ^ q.1 else 0)
        :: (List.range 64).map fun i => .num (((y.codebooks.look i).map Codebook.gen).getD 0))))
  ∧ (∀ (s t : State) (c : Ctx) (e a n : Nat) (x : Extent), s.starts t c (Cmd.fo 0x2204 Legal.R) (s.targetExtent e) →
    t.extent e = some x → x.vq = true → 1 ≤ n → n ≤ 1024 → (a + n) * x.slotLines * 128 ≤ x.size →
    exec (.vqSlotStatus c e a n) s = .next (t.reply c 0x2204 St.OK [.bytes ((List.range' a n).flatMap fun k =>
      leBytes 1 (if x.poison.has k then ((x.marks.look k).map Mark.code).getD St.TIER_LOST else St.OK)
        ++ leBytes 1 (b2n (x.slotFresh k)))]))
  ∧ (∀ (s t : State) (c : Ctx) (h gid p : Nat) (l : List (Nat × Nat)) (up : Option (Nat × Nat)) (y : Comp) (g : Group),
    s.starts t c (Cmd.f 0x3001 Legal.S) (Target.ofComp h) → t.comp h = some y → gid < 65536 → t.groupFor h gid = none → p < 8 →
    y.pressMask.getLsbD p = true → (∀ q ∈ t.comps, q.1 ≠ h → q.2.pressMask.getLsbD p = false) → 2 ≤ l.length →
    l.length ≤ 256 → distinct l = true → l.all (t.contributorOk y) = true → (∀ q, up = some q → q.1 < 4096 ∧ q.2 < 256) →
    t.work.groups.length < 1024 →
    g = { comp := h, gid := gid, press := p, members := l, parent := up, done := [], aborted := [] } →
    exec (.reduceGroupCreate c h gid p l up) s = .next ((t.modWork fun w => { w with
        groups := w.groups.put w.nextGroup g, nextGroup := w.nextGroup + 1 }).reply c 0x3001 St.OK []))
  ∧ (∀ (s t : State) (c : Ctx) (h gid k : Nat) (y : Comp) (g : Group), s.starts t c (Cmd.f 0x3002 Legal.L) (Target.ofComp h) →
    t.comp h = some y → t.groupFor h gid = some (k, g) →
    exec (.reduceGroupDestroy c h gid) s = .next
      (((t.abortGroup k).2.modWork fun w => { w with groups := w.groups.del k }).reply c 0x3002 St.OK
        [.num (t.abortGroup k).1]))
  ∧ (∀ (s t : State) (c : Ctx) (h n ring entries depth : Nat) (y : Comp) (j : Job),
    s.starts t c (Cmd.fo 0x3003 Legal.S) (Target.ofComp h) → t.comp h = some y →
    (y.members.any fun m => m.node == n) = true → t.jobFor h n = none → 16 ≤ entries → entries ≤ 1048576 → depth ≠ 0 →
    depth ≤ 1024 → depth ≤ entries → (t.rangeOf h ring (64 * entries)).isSome = true →
    (t.rangeIs h ring (64 * entries) fun x => !x.vq && (decide (x.durability = .mirrored) || decide (x.tier = .t2Home))) = true →
    j = { comp := h, node := n, ring := ring, entries := entries, depth := depth, copy := none, nextStep := 1, openSteps := 0
          closer := none } →
    exec (.ledgerOpen c h n ring entries depth none) s = .next ((t.modWork fun w => { w with
        jobs := w.jobs.put w.nextJob j, nextJob := w.nextJob + 1 }).reply c 0x3003 St.OK [.num t.work.nextJob]))
  ∧ (∀ (s t : State) (c : Ctx) (k : Nat) (j : Job), s.work.jobs.look k = some j →
    s.starts t c (Cmd.fo 0x3004 Legal.L) (Target.ofComp j.comp) → j.closer = none →
    exec (.ledgerClose c k) s = .next ((t.modWork fun w => { w with
        jobs := w.jobs.put k { j with closer := some (c.session, c.seq) } }).closeJob k))

/-! ### Coherence domains: their commands (Table CH-1, R207, R212, R220) -/

/-- COH_DOMAIN_CREATE takes the lowest free domain within the directory's sizes; agents are added, updated, removed by
recall or reclaim; extents attach to one domain at most and detach; the end of a recall ends the command that waits for
it; COH_RECLAIM_CLEAR frees RECLAIMED entries (R207, R212, R220). -/
def Obligations.DomainCommandsComplete : Prop :=
  (∀ (s t : State) (c : Ctx) (h a b d : Nat) (x : Domain), s.starts t c (Cmd.fo 0x1101 Legal.S) (Target.ofComp h) →
    (t.comp h).isSome = true → 1024 ≤ b → t.coh.lowestFree 0 64 = some d → t.cohAllotted.1 + a ≤ 2097152 →
    t.cohAllotted.2 + b ≤ 134217728 →
    x = { comp := h, agents := [], extents := [], onchip := a, overflow := b, dir := [], snoops := [], grants := []
          nextGrant := 0, cnt := [], recaller := none } →
    exec (.cohDomainCreate c h a b) s = .next (({ t with coh := t.coh.put d x } : State).reply c 0x1101 St.OK [.num d]))
  ∧ (∀ (s t : State) (c : Ctx) (d : Nat) (x : Domain), s.starts t c (Cmd.fo 0x1102 Legal.L) (s.targetDom d) →
    t.coh.look d = some x → x.recaller = none →
    exec (.cohDomainDestroy c d) s = .next (State.finish c 0x1102
      (t.recallCommand d 16 ((x.dir.filter fun q => decide (q.2.state ≠ .reclaimed)).map Prod.fst) c 0x1102 0)))
  ∧ (∀ (s t : State) (c : Ctx) (d i n p hops : Nat) (x : Domain) (a b : Agent), s.starts t c (Cmd.fo 0x1103 Legal.L) (s.targetDom d) →
    t.coh.look d = some x → i ≤ 15 → hops ≤ 15 →
    ((t.comp x.comp).any fun y => y.members.any fun m => m.lport == p && m.node == n) = true →
    x.agents.look i = none ∨ (x.agents.look i = some a ∧ a.node = n ∧ a.lport = p) →
    b = { node := n, lport := p, hops := hops, unresponsive := ((x.agents.look i).map Agent.unresponsive).getD false } →
    exec (.cohAgentAdd c d i n p hops) s = .next
      ((t.modDom d fun z => { z with agents := z.agents.put i b }).reply c 0x1103 St.OK []))
  ∧ (∀ (s t : State) (c : Ctx) (d i : Nat) (x : Domain), s.starts t c (Cmd.fo 0x1104 Legal.L) (s.targetDom d) →
    t.coh.look d = some x → x.agents.has i = true →
    exec (.cohAgentRemove c d i true) s = .next ((t.reclaimAgent d i).1.reply c 0x1104 St.OK [.num (t.reclaimAgent d i).2])
    ∧ (x.recaller = none → exec (.cohAgentRemove c d i false) s = .next (State.finish c 0x1104
        (t.recallCommand d i ((x.dir.filter fun q => q.2.holders.contains i).map Prod.fst) c 0x1104 i))))
  ∧ (∀ (s t : State) (c : Ctx) (d e : Nat) (x : Domain) (y : Extent),
    s.starts t c (Cmd.fo 0x1105 Legal.L) { s.targetDom d with extent := some e } → t.coh.look d = some x →
    t.extent e = some y → y.comp = x.comp → y.state = .active ∨ y.state = .sealed → y.vq = false → t.domainOf e = none →
    exec (.cohExtentAttach c d e) s = .next ((t.modDom d fun x => { x with extents := insertAsc e x.extents }).reply c 0x1105
      St.OK []))
  ∧ (∀ (s t : State) (c : Ctx) (d e : Nat) (x : Domain),
    s.starts t c (Cmd.fo 0x1106 Legal.L) { s.targetDom d with extent := some e } → t.coh.look d = some x → e ∈ x.extents →
    x.recaller = none →
    exec (.cohExtentDetach c d e) s = .next (State.finish c 0x1106 (t.recallCommand d 16 (t.linesOf d e) c 0x1106 e)))
  ∧ (∀ (s t : State) (d i q op what n : Nat) (x : Domain), s.coh.look d = some x → x.recaller = some (i, q, op, what, n) →
    x.recalling = false → t = s.modDom d (fun x => { x with recaller := none }) → op ≠ 0x1004 →
    exec (.cohRecallDone d) s = .next
      (((t.endRecall d op what n).1.reply { session := i, seq := q, badItem := none } op St.OK (t.endRecall d op what n).2).settle))
  ∧ (∀ (s t : State) (c : Ctx) (d : Nat) (x : Domain), s.starts t c (Cmd.fo 0x1107 Legal.L) (s.targetDom d) →
    t.coh.look d = some x →
    exec (.cohReclaimClear c d 0) s = .next
      (((t.modDom d fun x => { x with dir := x.dir.keep fun _ y => decide (y.state ≠ .reclaimed) }).settle).reply c 0x1107 St.OK
        [.num (countIf x.dir fun q => decide (q.2.state = .reclaimed))]))
  ∧ (∀ (s t : State) (c : Ctx) (d : Nat) (x : Domain), s.starts t c (Cmd.fo 0x1108 Legal.R) (s.targetDom d) →
    t.coh.look d = some x →
    ∃ l, exec (.cohDomainInfo c d) s = .next (t.reply c 0x1108 St.OK l)
      ∧ ∀ e ∈ x.extents, .num e ∈ l)

/-! ### Fabric topology (R267 to R278) -/

/-- NODE_ID_SET, ROUTE_SET, ROUTE_GET, NEIGHBOUR_LIST and NEIGHBOUR_ACCEPT; PROBE answered and a PROBE answer kept; the
interval's PROBEs; a lab candidate; ROUTE_UPDATE marked and acknowledged; a held packet sent or given up (R267 to R278). -/
def Obligations.TopologyCompletes : Prop :=
  (∀ (s t : State) (c : Ctx) (n : Nat), s.starts t c (Cmd.f 0x4001 Legal.BR) Target.none → n ≤ 0xFFF →
    bit (t.reg Reg.TP_CFG) 16 = false →
    exec (.nodeIdSet c n) s = .next
      ((({ t with topo := { t.topo with assigned := true, node := n } } : State).probeAll).reply c 0x4001 St.OK []))
  ∧ (∀ (s t : State) (c : Ctx) (i : Nat) (r : RouteReq) (x : Route), s.starts t c (Cmd.f 0x4002 Legal.C) Target.none → i < 4096 →
    t.routeOk i r = true →
    x = { valid := r.valid, isLocal := r.isLocal, esc := r.esc, members := r.members.take r.count, withdrawn := 0, last := 0
          announced := false } →
    exec (.routeSet c i [r]) s = .next
      (((({ t with topo := { t.topo with
            routes := t.topo.routes.put i x
            epoch := (t.topo.epoch + 1) % 2 ^ 32 } } : State).announceRoutes).probeAll).reply c 0x4002 St.OK
        [.num ((t.topo.epoch + 1) % 2 ^ 32)]))
  ∧ (∀ (s t : State) (c : Ctx) (i n : Nat), s.starts t c (Cmd.f 0x4003 Legal.R) Target.none → 1 ≤ n → n ≤ 128 → i + n ≤ 4096 →
    exec (.routeGet c i n) s = .next (t.reply c 0x4003 St.OK
      ((List.range' i n).map (fun k => .bytes (routeBytes k (t.topo.routes.look k))) ++ [.num t.topo.epoch])))
  ∧ (∀ (s t : State) (c : Ctx), s.starts t c (Cmd.f 0x4004 Legal.R) Target.none →
    ∃ l, exec (.neighbourList c) s = .next (t.reply c 0x4004 St.OK l)
      ∧ ∀ q ∈ t.links, q.2.role = .peer → .num q.1 ∈ l)
  ∧ (∀ (s t : State) (c : Ctx) (p : Nat) (n : Nbr), s.starts t c (Cmd.f 0x4005 Legal.C) Target.none →
    t.topo.nbrs.look p = some n → n.state = .new → n.assigned = true →
    exec (.neighbourAccept c p) s = .next
      (((t.modNbr p fun n => { n with state := .live, liveId := some (n.linkId, n.node) }).announceRoutes).reply c 0x4005 St.OK []))
  ∧ (∀ (s : State) (p : Nat) (r : ProbeRec) (l : LPort), s.links.look p = some l → s.portRuns p = true → l.role = .peer →
    r.resvZero = true → s.conflicts r = false →
    exec (.probe p r) s = .next (s.enqueue p (s.linkPacket 0xE0 0 0 (s.probeBytes p r.probeSeq r.sendTime))))
  ∧ (∀ (s : State) (p : Nat) (r : ProbeRec) (l : LPort) (n : Nbr), s.links.look p = some l → s.portRuns p = true →
    l.role = .peer → r.resvZero = true → s.conflicts r = false → s.topo.nbrs.look p = some n →
    n.liveId = some (r.linkId, r.node) →
    ∃ t, t = s.modNbr p (fun n => { n with
        state := .live, linkId := r.linkId, node := r.node, member := r.member, assigned := r.assigned
        rtt := s.clk.timeNs - r.sendTime, missed := 0, answered := true
        caps := b2n r.crypt * 8 + b2n r.coherence * 4 + b2n r.vq * 2 + b2n r.attend })
      ∧ exec (.probeAnswer p r) s = .next t.announceRoutes)
  ∧ (∀ (s : State), exec .probeInterval s = .next (s.peerPorts.foldl (fun s p => s.probeTick p) s))
  ∧ (∀ (s : State), bit (s.reg Reg.TP_CFG) 16 = true → s.comps = [] → s.topo.assigned = false → s.topo.candidate = none →
    exec .labNodeCandidate s = .next
      (({ s with topo := { s.topo with candidate := some (0x800 + s.linkId.toNat % 1024) } } : State).probeAll))
  ∧ (∀ (s : State) (h : Hdr) (epoch n : Nat) (l : List Nat), s.mgmtIngress 0x61 h = none → 1 ≤ n → n ≤ 2044 →
    h.length = 8 + 2 * n → l.length = n → h.resv = 0 → h.status = 0 →
    exec (.routeUpdateWithdraw h epoch n 0 l) s = .next
      ((((s.bumpBy Reg.TP_CNT_WITHDRAW_RX n).markRoutes h.lport true l).announceRoutes).enqueue h.lport
        ((((s.bumpBy Reg.TP_CNT_WITHDRAW_RX n).markRoutes h.lport true l).announceRoutes).linkPacket 0xE1 h.src St.OK []))
    ∧ exec (.routeUpdateRestore h epoch n 0 l) s = .next
      (((s.markRoutes h.lport false l).announceRoutes).enqueue h.lport
        (((s.markRoutes h.lport false l).announceRoutes).linkPacket 0xE1 h.src St.OK [])))
  ∧ (∀ (s : State) (h : Hdr), s.mgmtIngress 0xE1 h = none → exec (.routeUpdateAck h) s = .next s)
  ∧ (∀ (s t : State) (k : Nat) (x : Held), s.tx.held.look k = some x → vcOf x.pkt.opcode = 0 →
    t = ((s.advanceTo x.untilNs).modTx fun t => { t with held := t.held.del k }).bump Reg.TP_CNT_NO_ROUTE →
    exec (.noRouteWaitExpiry k) s = .next (t.respondBack x.pkt.opcode x.pkt.hdr St.NO_ROUTE))
  ∧ (∀ (s : State) (k p : Nat) (x : Held), s.tx.held.look k = some x → s.chooseMember x.pkt none = some p →
    exec (.heldRequestSend k) s = .next ((s.modTx fun t => { t with held := t.held.del k }).sendBy p x.pkt))

/-! ### Links (R245 to R265) -/

/-- R250 to R252: signal, clock recovery, symbol lock, a lane order that is straight or reversed, an error ratio that is met
and capabilities that pair take a port from DETECT to UP; a failed step returns it to DETECT, and a fast path that fails
is forgotten. -/
def Obligations.LinkTrainingCompletes : Prop :=
  (∀ (s : State) (p : Nat), s.portIs p .detect = true →
    exec (.signalDetect p) s = .next (s.modPort p fun l => { l with signal := true }))
  ∧ (∀ (s : State) (p : Nat) (l : LPort), s.links.look p = some l → l.st = .detect → l.signal = true →
    exec (.detectDone p) s = .next (s.modPort p fun l => { l with st := .laneLock }))
  ∧ (∀ (s : State) (p : Nat) (k : BitVec 8), s.portIs p .laneLock = true →
    exec (.laneLockDone p k) s = .next ((s.modPort p fun l => { l with st := .align }).modPort p fun l => { l with polInv := k }))
  ∧ (∀ (s t : State) (p f : Nat) (id : Word64) (rev : Bool), s.portIs p .align = true →
    t = s.modPort p (fun l => { l with farId := id, farPort := f, reversed := rev }) →
    (t.ft.expelled.any fun e => e.linkId == id && !e.quarantine) = false → t.presetFor id f p = none →
    exec (.alignDone p id f rev true) s = .next ((t.modPort p fun l => { l with st := .equalize }).modPort p fun l => { l with fast := false }))
  ∧ (∀ (s t : State) (p f : Nat) (id : Word64) (rev : Bool) (q : Preset), s.portIs p .align = true →
    t = s.modPort p (fun l => { l with farId := id, farPort := f, reversed := rev }) →
    (t.ft.expelled.any fun e => e.linkId == id && !e.quarantine) = false → t.presetFor id f p = some q →
    exec (.alignDone p id f rev true) s = .next
      (((t.modPort p fun l => { l with st := .equalize }).keepPreset q).modPort p fun l => { l with fast := true, preset := q.preset }))
  ∧ (∀ (s : State) (p f : Nat) (id : Word64) (rev : Bool), s.portIs p .align = true →
    exec (.alignDone p id f rev false) s = .next
      ((s.modPort p fun l => { l with st := .detect }).bumpPort p Reg.LK_CNT_TRAIN_FAIL))
  ∧ (∀ (s : State) (p k : Nat) (l : LPort), s.links.look p = some l → l.st = .equalize →
    exec (.equalizeDone p k) s = .next (if l.fast then (s.modPort p fun l => { l with st := .linkInit }).bumpPort p Reg.LK_CNT_FAST_RETRAINS
      else (s.modPort p fun l => { l with st := .linkInit }).modPort p fun l => { l with preset := if k < 8 then k else 0 }))
  ∧ (∀ (s : State) (p : Nat) (l : LPort), s.links.look p = some l → l.st = .equalize → l.fast = true →
    exec (.fastEqualizeFail p) s = .next ((s.dropPreset l.farId l.farPort p).modPort p fun l => { l with fast := false }))
  ∧ (∀ (s t : State) (p : Nat) (l : LPort) (far : FarEnd), s.links.look p = some l → l.st = .linkInit →
    far.role = l.role.code → (l.crypt && !far.crypt) = false →
    ((List.range 8).all fun v => decide (1 ≤ (far.credits[v]?).getD 0)) = true →
    t = (s.modPort p fun l => { l with farRole := far.role % 4, farFallow := far.fallow }).modPort p (fun l => { l with
      st := .up, fecOn := l.fecLow && far.fecLow, cryptOn := false, txSeq := 0, txAcked := 0, rxSeq := 0,
      credits := (List.range 8).map fun v => (v, ((far.credits[v]?).getD 0 : Int)), lastTotal := [], owed := [], retTotal := [] }) →
    exec (.linkInitDone p far) s = .next (t.portUp p))
  ∧ (∀ (s : State) (p : Nat) (l : LPort), s.links.look p = some l →
    l.st = .laneLock ∨ l.st = .align ∨ l.st = .equalize ∨ l.st = .linkInit ∨ (l.st = .detect ∧ l.signal = true) →
    exec (.trainingStepTimeout p) s = .next ((s.modPort p fun l => { l with st := .detect }).bumpPort p Reg.LK_CNT_TRAIN_FAIL))
  ∧ (∀ (s : State) (p : Nat) (l : LPort), s.links.look p = some l → l.st = .up →
    exec (.signalLoss p) s = .next (((s.modPort p fun l => { l with signal := false }).linkDown p).bumpPort p Reg.LK_CNT_DOWN))

/-- R257 to R260: a good DATA flit with the SEQ expected is acknowledged and its packets join the ingress buffer, one
out of order asks for a replay; an IDLE flit and a NAK acknowledge, and the flits not acknowledged are sent again. R258:
an acknowledgement releases the flits up to it and no others. -/
def Obligations.FlitsComplete : Prop :=
  (∀ (s t u : State) (p : Nat) (f : Trailer) (ps : List Packet) (l : LPort), s.flitGood p f = (true, t) →
    u = (t.takeFields p f).modPort p (fun l => { l with fallowReq := false }) → u.links.look p = some l → l.st = .up →
    f.seq = l.rxSeq → l.role ≠ .analysis →
    exec (.dataFlitReceive p f ps) s = .next (((u.modPort p fun l => { l with
      rxSeq := (l.rxSeq + 1) % 4096, nakSent := false }).linkSend p 1 l.rxSeq).modPort p fun l => { l with
        ingress := l.ingress ++ ps.map fun q => { q with hdr := { q.hdr with lport := p } } }))
  ∧ (∀ (s t u : State) (p : Nat) (f : Trailer) (ps : List Packet) (l : LPort), s.flitGood p f = (true, t) →
    u = (t.takeFields p f).modPort p (fun l => { l with fallowReq := false }) → u.links.look p = some l → l.st = .up →
    f.seq ≠ l.rxSeq → l.nakSent = false →
    exec (.dataFlitReceive p f ps) s = .next
      ((u.modPort p fun l => { l with nakSent := true }).linkSend p 0 ((l.rxSeq + 4095) % 4096)))
  ∧ (∀ (s t : State) (p : Nat) (f : Trailer), s.flitGood p f = (true, t) →
    exec (.idleFlitReceive p f) s = .next (t.takeFields p f))
  ∧ (∀ (s t : State) (p k : Nat) (l m : LPort), s.links.look p = some l → l.st = .up → l.replaying = false →
    t = s.modPort p (LPort.takeAck k) → t.links.look p = some m → m.flitsOut ≠ 0 →
    m.replays < t.field Reg.LK_REPLAY_CFG 15 8 →
    exec (.nakReceive p k) s = .next (((t.bumpPort p Reg.LK_CNT_REPLAYS).modPort p fun l => { l with
      replays := l.replays + 1, replaying := true }).linkSend p 7 m.txAcked))
  ∧ (∀ (s : State) (p : Nat) (l : LPort), s.links.look p = some l → l.st = .up → l.flitsOut ≠ 0 →
    l.replays < s.field Reg.LK_REPLAY_CFG 15 8 →
    exec (.ackStallTimeout p) s = .next (((s.bumpPort p Reg.LK_CNT_REPLAYS).modPort p fun l => { l with
      replays := l.replays + 1, replaying := true }).linkSend p 7 l.txAcked))
  ∧ (∀ (s : State) (p : Nat) (l : LPort), s.links.look p = some l → l.st = .up → l.nakSent = true →
    exec (.nakResendTimeout p) s = .next (s.linkSend p 0 ((l.rxSeq + 4095) % 4096)))
  ∧ (∀ (l : LPort) (a : Nat), l.txSeq < 4096 → l.txAcked < 4096 → a < 4096 → (a + 4096 - l.txAcked) % 4096 < l.flitsOut →
    (l.takeAck a).flitsOut = l.flitsOut - ((a + 4096 - l.txAcked) % 4096 + 1)
    ∧ (l.takeAck a).txSeq = l.txSeq ∧ (l.takeAck a).replays = 0 ∧ (l.takeAck a).credits = l.credits)

/-- R262 to R265: link keys are installed and replaced; an idle port that may goes to FALLOW with its far end's agreement,
and wakes; the hold-off of a rehearsal ends. -/
def Obligations.LinkKeysAndFallowComplete : Prop :=
  (∀ (s : State) (p : Nat) (l : LPort), s.links.look p = some l → s.portRuns p = true → l.crypt = true → l.cryptOn = false →
    exec (.linkKeyEstablished p) s = .next ((s.modPort p fun l => { l with cryptOn := true }).announceRoutes))
  ∧ (∀ (s : State) (p : Nat) (l : LPort), s.links.look p = some l → s.portRuns p = true → l.crypt = true → l.cryptOn = true →
    l.rekeying = true →
    exec (.linkKeyEstablished p) s = .next ((s.modPort p fun l => { l with
      rekeying := false, keyGenTx := l.keyGenTx + 1 }).linkSend p 4 (l.keyGenTx + 1)))
  ∧ (∀ (s : State) (p : Nat) (l : LPort), s.links.look p = some l → l.cryptOn = true →
    ∃ t, exec (.rekeyDue p) s = .next t ∧ t.links.look p = some { l with rekeying := true }
      ∧ ∀ q, q ≠ p → t.links.look q = s.links.look q)
  ∧ (∀ (s : State) (p k : Nat) (l : LPort), s.links.look p = some l → l.st = .up → l.cryptOn = true → k = 1 ∨ k = 2 →
    ∃ t, exec (.keySwitchReceive p k) s = .next t
      ∧ t.links.look p = some { l with keyGenRx := l.keyGenRx.put k (l.keyGenRx.num k + 1) })
  ∧ (∀ (s : State) (p : Nat) (l : LPort), s.links.look p = some l → l.mayFallow = true → l.idle = true → l.fallowReq = false →
    exec (.portIdleTimeout p) s = .next ((s.modPort p fun l => { l with fallowReq := true }).linkSend p 2 0))
  ∧ (∀ (s : State) (p : Nat) (l : LPort), s.links.look p = some l → l.mayFallow = true → l.fallowReq = true →
    exec (.fallowReqReceive p) s = .next (s.enterFallow p))
  ∧ (∀ (s : State) (p : Nat) (l : LPort), s.links.look p = some l → l.mayFallow = true → l.fallowReq = false → l.idle = true →
    exec (.fallowReqReceive p) s = .next ((s.linkSend p 3 0).enterFallow p))
  ∧ (∀ (s : State) (p : Nat) (l : LPort), s.links.look p = some l → l.st = .up → l.fallowReq = true →
    exec (.fallowAckReceive p) s = .next (s.enterFallow p))
  ∧ (∀ (s : State) (p : Nat), s.portIs p .fallow = true →
    exec (.fallowLockBurst p) s = .next (s.linkSend p 6 0)
    ∧ exec (.wakeToneReceive p) s = .next (s.modPort p fun l => { l with waking := true }))
  ∧ (∀ (s : State) (p : Nat) (l : LPort), s.links.look p = some l → l.st = .fallow → l.waking = true →
    (∃ t, exec (.portWakeDone p) s = .next t ∧ t.links.look p = some { l with st := .up, waking := false })
    ∧ exec (.portWakeTimeout p) s = .next ((s.linkDown p).bumpPort p Reg.LK_CNT_WAKE_FAIL))
  ∧ (∀ (s : State) (p : Nat),
    exec (.transmitterHoldOffEnd p) s = .next (s.modPort p fun l => { l with holdOff := false }))

/-- The writes of LK_PORT_CFG (R246, R247, R248): a port that is off takes its role, its settings and its ENABLE; a whole port
whose logical ports are all off takes a new split; a disable leaves the settings as they are. -/
def Obligations.PortWritesComplete : Prop :=
  (∀ (s t u : State) (c : Ctx) (v : Word) (p : Nat) (l : LPort), s.starts t c (Cmd.f 0x0011 Legal.C) Target.none →
    p = t.reg Reg.LK_PORT_SEL % 256 → t.links.look p = some l → bits v.toNat 22 18 < 24 →
    bits v.toNat 28 27 = (if p % 8 = 0 then splitOfWidth l.width else 0) → Role.ofCode (bits v.toNat 30 29) ≠ .tray →
    l.st = .disabled →
    u = (t.modPort p (fun l => { l with
      role := Role.ofCode (bits v.toNat 30 29), trayIndex := bits v.toNat 22 18, fecLow := bit v.toNat 26,
      crypt := bit v.toNat 25, fallowEn := bit v.toNat 24, reduced := bit v.toNat 23 })).setEnable p (bit v.toNat 31) →
    exec (.lkPortEnable c v) s = .next ((u.storePorts.dropTrays t).reply c 0x0011 St.OK [.num Wr.WRITTEN]))
  ∧ (∀ (s t u : State) (c : Ctx) (v : Word) (p : Nat) (l : LPort), s.starts t c (Cmd.f 0x0011 Legal.C) Target.none →
    p = t.reg Reg.LK_PORT_SEL % 256 → t.links.look p = some l → bits v.toNat 22 18 = l.trayIndex → l.trayIndex < 24 →
    bits v.toNat 28 27 = (if p % 8 = 0 then splitOfWidth l.width else 0) → Role.ofCode (bits v.toNat 30 29) = l.role →
    l.role ≠ .tray → bit v.toNat 26 = l.fecLow → bit v.toNat 25 = l.crypt → bit v.toNat 23 = l.reduced →
    bit v.toNat 31 = false →
    u = (t.modPort p (fun l => { l with
      role := Role.ofCode (bits v.toNat 30 29), trayIndex := bits v.toNat 22 18, fecLow := bit v.toNat 26,
      crypt := bit v.toNat 25, fallowEn := bit v.toNat 24, reduced := bit v.toNat 23 })).setEnable p false →
    exec (.lkPortDisable c v) s = .next ((u.storePorts.dropTrays t).reply c 0x0011 St.OK [.num Wr.WRITTEN]))
  ∧ (∀ (s t u : State) (c : Ctx) (v : Word) (p : Nat) (l : LPort), s.starts t c (Cmd.f 0x0011 Legal.C) Target.none →
    p = t.reg Reg.LK_PORT_SEL % 256 → p % 8 = 0 → t.links.look p = some l → bits v.toNat 22 18 < 24 →
    bits v.toNat 28 27 ≠ splitOfWidth l.width →
    ((t.links.filter fun q => q.1 / 8 == p / 8).all fun q => decide (q.2.st = .disabled)) = true →
    Role.ofCode (bits v.toNat 30 29) ≠ .tray →
    u = ((t.setSplit (p / 8) (bits v.toNat 28 27)).modPort p (fun l => { l with
      role := Role.ofCode (bits v.toNat 30 29), trayIndex := bits v.toNat 22 18, fecLow := bit v.toNat 26,
      crypt := bit v.toNat 25, fallowEn := bit v.toNat 24, reduced := bit v.toNat 23 })).setEnable p (bit v.toNat 31) →
    exec (.lkSplitSet c v) s = .next ((u.storePorts.dropTrays t).reply c 0x0011 St.OK [.num Wr.WRITTEN]))

/-! ### Switching (R224 to R242) -/

/-- R229, R231, R234 to R238, R242: an egress port sends its priority queue first and else the queue that deficit round robin
chooses; a head packet that waits without a credit moves to its escape channel; a spilled block comes back; buckets refill;
queues are sampled; the furrow slots advance, the written owners taking effect at the frame boundary. -/
def Obligations.SwitchingCompletes : Prop :=
  (∀ (s : State) (p t0 : Nat) (l : LPort) (k : Packet) (esc : Bool) (rest : List (Packet × Nat × Bool)),
    s.links.look p = some l → l.st = .up → l.holdOff = false → l.fallowReq = false → l.prio = (k, t0, esc) :: rest →
    s.maySend l (vcOf k.opcode + (if esc then 4 else 0)) k = true → l.prioRun = 0 → l.flitsOut < 256 * l.width →
    exec (.egressSend p) s = .next
      ((s.modPort p fun l => { l with prio := rest, prioRun := 3 }).launch p (vcOf k.opcode + (if esc then 4 else 0)) k))
  ∧ (∀ (s : State) (p t0 q : Nat) (l m : LPort) (k : Packet) (rest : List (Packet × Nat)),
    s.links.look p = some l → l.st = .up → l.holdOff = false → l.fallowReq = false → l.prio = [] →
    ((List.range 16).any fun q => s.queueEligible l q) = true → l.flitsOut < 256 * l.width → s.drr 400 l = (some q, m) →
    (m.queue q).packets = (k, t0) :: rest →
    exec (.egressSend p) s = .next
      (((s.modPort p fun _ => { m.modQueue q (fun x => { x with
          packets := rest
          deficit := if rest.isEmpty then 0 else x.deficit - k.size
          tokens := if x.bucketOn then x.tokens - k.size else x.tokens }) with prioRun := m.prioRun - 1 }).launch p (q % 2) k).checkSpillLimit
        k.hdr.compId))
  ∧ (∀ (s : State) (p v q : Nat) (l x : LPort) (k : Packet) (r : Route), s.links.look p = some l → l.credit v < 1 → v < 2 →
    ((List.range 8).findSome? fun i => ((l.queue (2 * i + v)).packets.head?).map fun y => (2 * i + v, y.1)) = some (q, k) →
    s.routeFor k.hdr.dst = some r → r.esc ≠ 0xFF → s.links.look r.esc = some x → x.st = .up →
    exec (.escapeWaitExpiry p v) s = .next
      (((s.modPort p fun l => l.modQueue q fun x => { x with
          packets := x.packets.drop 1, spilled := min x.spilled (x.packets.length - 1) }).modPort r.esc fun l => { l with
            prio := l.prio ++ [(k, s.clk.timeNs, true)] }).bump Reg.SW_CNT_ESCAPE))
  ∧ (∀ (s t : State) (p q : Nat) (l : LPort) (tail : List (Packet × Nat)), s.links.look p = some l → q < 16 →
    (l.queue q).spilled ≠ 0 → tail = (l.queue q).packets.drop ((l.queue q).packets.length - (l.queue q).spilled) →
    t = s.modPort p (fun l => l.modQueue q fun x => { x with spilled := x.spilled - blockPackets 0 tail }) →
    exec (.spillFetchDone p q) s = .next ((tail.map fun y => y.1.hdr.compId).eraseDups.foldl (fun s c => s.checkSpillLimit c)
      (t.setOvfFull (portDie p) (decide (16 * 2 ^ 30 ≤ t.spillOn (portDie p))))))
  ∧ (∀ (s : State) (p q : Nat) (l : LPort) (x : Queue), s.links.look p = some l → l.queues.look q = some x →
    ∃ t m, exec .shaperRefill s = .next t ∧ t.links.look p = some m
      ∧ m.queues.look q = some { x with
          bucketOn := x.shapeOn
          tokens := if !x.shapeOn then 0 else if !x.bucketOn then x.burst else min (x.tokens + x.rate) x.burst }
      ∧ m.credits = l.credits ∧ m.st = l.st ∧ t.cnt = s.cnt)
  ∧ (∀ (s : State) (p q : Nat) (l : LPort), s.links.look p = some l → q < 16 →
    ∃ t m, exec .queueSample s = .next t ∧ t.links.look p = some m ∧ m.queue q = (l.queue q).sample s.clk.timeNs
      ∧ m.prio = l.prio ∧ m.st = l.st)
  ∧ (∀ (s : State), ∃ t, exec .furrowSlotChange s = .next t ∧ t.sw.slot = (s.sw.slot + 1) % 64
      ∧ (t.sw.slot ≠ 0 → t.sw.furrow = s.sw.furrow)
      ∧ (t.sw.slot = 0 → ∀ n h, (n, h) ∈ t.sw.furrow ↔ n < 64 ∧ h = s.reg (Reg.FURROW_SLOT + 4 * n) % 256
          ∧ bit (s.reg (Reg.FURROW_SLOT + 4 * n)) 31 = true ∧ ((s.comp h).any Comp.furrow) = true)
      ∧ t.links = s.links ∧ t.pool = s.pool)

/-! ### Fabric transactions (R22, R181 to R204) -/

/-- A LOAD, a STORE or an atomic that passes steps 1 to 6 of R22 is served from the tiers that hold its lines (R22,
R186, R193, R194, R197, R199). R197, R198: a STORE whose SRC_SEQ has been applied is answered ST_OK again and is not
applied again. -/
def Obligations.PoolRequestsComplete : Prop :=
  (∀ (s u : State) (h : Hdr) (c e ep : Nat), s.ingress { opcode := 0x01, hdr := h, data := [] } = (u, some c) →
    u.epochFor c h.epoch = some ep → u.mapExtent c ep h.addr ((h.lines + 1) * 128) = some e →
    u.extentRefuses 0x01 c e h = none →
    exec (.load h) s = .next (u.serve { opcode := 0x01, hdr := h, data := [] } c e ep))
  ∧ (∀ (s u v : State) (h : Hdr) (d : List Byte) (c e ep op : Nat) (i : Instr),
    (op, i) ∈ [(0x02, .store h d), (0x10, .atAdd32 h d), (0x11, .atAdd64 h d), (0x12, .atSwap32 h d), (0x13, .atSwap64 h d),
      (0x14, .atCas32 h d), (0x15, .atCas64 h d), (0x16, .atMin32 h d), (0x17, .atMin64 h d), (0x18, .atMax32 h d),
      (0x19, .atMax64 h d)] →
    s.ingress { opcode := op, hdr := h, data := d } = (u, some c) → u.dedup { opcode := op, hdr := h, data := d } c = none →
    v = u.openPair h.src c → v.epochFor c h.epoch = some ep → v.mapExtent c ep h.addr (requestBytes op h) = some e →
    v.extentRefuses op c e h = none →
    exec i s = .next (v.serve { opcode := op, hdr := h, data := d } c e ep))
  ∧ (∀ (s u : State) (h : Hdr) (d : List Byte) (c : Nat) (q : Pair),
    s.ingress { opcode := 0x02, hdr := h, data := d } = (u, some c) → u.pair h.src c = some q →
    2 ^ 31 ≤ seqDist h.seq q.low ∨ (q.applied.contains h.seq = true ∧ seqDist h.seq q.low < 4096) →
    exec (.store h d) s = .next ((u.bumpComp c Reg.TX_CNT_DUPLICATES).respond 0x02 h St.OK []))

/-- What a request does to the bytes of the pool (R22, R28, R186): with no other request waiting, no domain on its extent
and T0 holding its lines, a LOAD answers the bytes and changes none; a STORE writes its data and nothing else; an atomic
answers the old value and writes the new one, or nothing where its comparison fails. Steps 1 to 3 touch no byte. -/
def Obligations.RequestsReadAndWriteThePool : Prop :=
  (∀ (s : State) (p : Packet), (s.ingress p).1.pool = s.pool)
  ∧ (∀ (u : State) (p : Packet) (c e ep off n : Nat) (x : Extent), p.opcode = 0x01 → u.tx.steps = [] → u.extent e = some x →
    off = p.hdr.addr - x.base → n = (p.hdr.lines + 1) * 128 →
    ((leavesOf off n).flatMap fun l => u.itemsFor x l false) = [] → u.orderOpen (newStep p c e ep none) = true →
    x.rekeying = false → u.asleep x (leavesOf off n) = [] → u.domainOf e = none → x.poisoned off n = false →
    ∃ v : State, u.serve p c e ep = v.respond 0x01 p.hdr St.OK (u.readPool e off n) ∧ v.pool.mem = u.pool.mem ∧ v.links = u.links)
  ∧ (∀ (u : State) (p : Packet) (c e ep off : Nat) (x : Extent), p.opcode = 0x02 → u.tx.steps = [] → u.extent e = some x →
    off = p.hdr.addr - x.base →
    ((leavesOf off ((p.hdr.lines + 1) * 128)).flatMap fun l => u.itemsFor x l true) = [] →
    u.orderOpen (newStep p c e ep none) = true → x.rekeying = false →
    u.asleep x (leavesOf off ((p.hdr.lines + 1) * 128)) = [] → u.domainOf e = none →
    ∃ v : State, u.serve p c e ep = v.respond 0x02 p.hdr St.OK []
      ∧ v.pool.mem = cellWrites u.pool.mem (poolAddr x.store off) p.data ∧ v.links = u.links)
  ∧ (∀ (u : State) (p : Packet) (c e ep off w old : Nat) (x : Extent), 0x10 ≤ p.opcode → p.opcode ≤ 0x19 →
    u.tx.steps = [] → u.extent e = some x → off = p.hdr.addr - x.base → w = (if p.opcode % 2 = 0 then 4 else 8) →
    ((leavesOf off w).flatMap fun l => u.itemsFor x l true) = [] → u.orderOpen (newStep p c e ep none) = true →
    x.rekeying = false → u.asleep x (leavesOf off (128 * (p.hdr.lines + 1))) = [] → u.domainOf e = none → x.poisoned off w = false →
    old = leNat (u.readPool e off w) →
    ∃ v : State, u.serve p c e ep = v.respond p.opcode p.hdr St.OK (leBytes 8 old)
      ∧ v.pool.mem = (match atomicNew p.opcode old (leAt p.data 0 8) (leAt p.data 8 8) with
          | some z => cellWrites u.pool.mem (poolAddr x.store off) (leBytes w z)
          | none => u.pool.mem))

/-- R186: what each atomic writes, on the operands' own width. -/
def Obligations.AtomicsComputeTheirFunction : Prop :=
  ∀ (o a c : Nat),
    (o < 2 ^ 32 → atomicNew 0x10 o a c = some ((o + a) % 2 ^ 32) ∧ atomicNew 0x12 o a c = some (a % 2 ^ 32)
      ∧ atomicNew 0x14 o a c = (if o = c % 2 ^ 32 then some (a % 2 ^ 32) else none)
      ∧ (∃ v, atomicNew 0x16 o a c = some v ∧ (v = o ∨ v = a % 2 ^ 32)
          ∧ (BitVec.ofNat 32 v).toInt = min (BitVec.ofNat 32 o).toInt (BitVec.ofNat 32 a).toInt)
      ∧ (∃ v, atomicNew 0x18 o a c = some v ∧ (v = o ∨ v = a % 2 ^ 32)
          ∧ (BitVec.ofNat 32 v).toInt = max (BitVec.ofNat 32 o).toInt (BitVec.ofNat 32 a).toInt))
    ∧ (o < 2 ^ 64 → atomicNew 0x11 o a c = some ((o + a) % 2 ^ 64) ∧ atomicNew 0x13 o a c = some (a % 2 ^ 64)
      ∧ atomicNew 0x15 o a c = (if o = c % 2 ^ 64 then some (a % 2 ^ 64) else none)
      ∧ (∃ v, atomicNew 0x17 o a c = some v ∧ (v = o ∨ v = a % 2 ^ 64)
          ∧ (BitVec.ofNat 64 v).toInt = min (BitVec.ofNat 64 o).toInt (BitVec.ofNat 64 a).toInt)
      ∧ (∃ v, atomicNew 0x19 o a c = some v ∧ (v = o ∨ v = a % 2 ^ 64)
          ∧ (BitVec.ofNat 64 v).toInt = max (BitVec.ofNat 64 o).toInt (BitVec.ofNat 64 a).toInt))

/-- R203, R204: a FENCE of an ACCEL port queues there, is taken up when fewer than 16 are open, answers ST_OK once no
write of its marks is outstanding, and at its deadline answers ST_FENCE_INCOMPLETE with what is. R182, R187, R193, R198,
R202: a response for this node closes the request it answers, one for another node and a request for another node go on
by their route; a request of the K9's own that is not answered is sent again with RETRY set; a saved atomic response is
dropped at its time. -/
def Obligations.FencesAndResponsesComplete : Prop :=
  (∀ (s u : State) (h : Hdr) (d : List Byte) (c : Nat) (l : LPort),
    s.ingress { opcode := 0x20, hdr := h, data := d } = (u, some c) → u.links.look h.lport = some l → l.role = .accel →
    exec (.fence h d) s = .next (u.modTx fun x => { x with
      fenceQ := x.fenceQ ++ [{ opcode := 0x20, hdr := h, data := d }] }))
  ∧ (∀ (s : State) (p c us : Nat) (k : Packet) (m : Member), (s.tx.fenceQ.find? fun q => q.hdr.lport == p) = some k →
    (countIf s.tx.fences fun f => f.pkt.hdr.lport == p) < 16 → s.boundTo p = some (c, m) →
    us = (if leAt k.data 0 3 = 0 then s.field Reg.TX_FENCE_DEADLINE_US 23 0 else leAt k.data 0 3) →
    exec (.fenceDequeue p) s = .next (s.modTx fun x => { x with
      fenceQ := x.fenceQ.erase k
      fences := x.fences ++ [{ pkt := k, comp := c, marks := s.fenceMarks k c, deadline := s.clk.timeNs + 1000 * us }] }))
  ∧ (∀ (s : State) (p tag : Nat) (f : Fence), s.fenceOf p tag = some f → s.fenceOpen f = [] →
    exec (.fenceComplete p tag) s = .next
      ((s.modTx fun x => { x with fences := x.fences.erase f }).respond 0x20 f.pkt.hdr St.OK []))
  ∧ (∀ (s t : State) (p tag : Nat) (f : Fence) (left : NMap Nat), s.fenceOf p tag = some f → t = s.advanceTo f.deadline →
    left = (t.fenceOpen f).foldl (fun (m : NMap Nat) q => m.put q.1 q.2) [] → left ≠ [] →
    exec (.fenceDeadline p tag) s = .next
      (((t.bumpComp f.comp Reg.TX_CNT_FENCE_INCOMPLETE).modTx fun x => { x with fences := x.fences.erase f }).respond 0x20
        f.pkt.hdr St.FENCE_INCOMPLETE ((left.take 512).flatMap fun q => leBytes 2 q.1 ++ leBytes 2 0 ++ leBytes 4 q.2)))
  ∧ (∀ (s u : State) (p : Packet) (l : LPort), s.links.look p.hdr.lport = some l → s.portRuns p.hdr.lport = true →
    u = (s.mirror p.hdr.lport false p).takeIngress p → l.role = .accel ∨ l.role = .peer →
    p.hdr.crc = p.hdr.goodCrc p.opcode → u.topo.assigned = true → responseDefined p.opcode = true → p.hdr.resv = 0 →
    p.hdr.release = false → (u.bindingOf l p.hdr).isSome = true →
    (p.hdr.dst ≠ u.topo.node → exec (.gfpResponseReceive p) s = .next (u.route p none))
    ∧ (∀ o, p.hdr.dst = u.topo.node → u.tx.own.look p.hdr.tag = some o → o.pkt.hdr.dst = p.hdr.src →
        o.pkt.opcode + 0x80 = p.opcode → o.purpose = 1 →
        exec (.gfpResponseReceive p) s = .next (u.modTx fun x => { x with own := x.own.del p.hdr.tag })))
  ∧ (∀ (s u : State) (p : Packet) (l : LPort) (c : Nat), s.links.look p.hdr.lport = some l → s.portRuns p.hdr.lport = true →
    u = (s.mirror p.hdr.lport false p).takeIngress p → l.role = .peer → p.hdr.crc = p.hdr.goodCrc p.opcode →
    u.topo.assigned = true → u.formatOk l p.opcode p.hdr p.data = true → u.bindingOf l p.hdr = some c → p.hdr.retry = false →
    p.hdr.dst ≠ s.topo.node → p.hdr.dst ≠ u.topo.node → p.opcode < 0x80 →
    exec (.packetForward p) s = .next (u.route p none))
  ∧ (∀ (s : State) (tag : Nat) (o : Own) (k : Packet), s.tx.own.look tag = some o → o.purpose ≠ 3 →
    o.tries < s.field Reg.TX_RETRY_LIMIT 3 0 →
    k = { o.pkt with hdr := ({ o.pkt.hdr with retry := true }).sealed o.pkt.opcode } →
    exec (.responseTimeout tag) s = .next
      ((s.modTx fun x => { x with own := x.own.put tag { o with pkt := k, tries := o.tries + 1 } }).route k none))
  ∧ (∀ (s : State) (src c q : Nat) (k : Pair) (v : Saved), s.pair src c = some k → (k.saved.find? fun w => w.seq == q) = some v →
    exec (.atomicHoldExpiry src c q) s = .next
      ((s.advanceTo v.until_).modPair src c fun k => { k with saved := k.saved.filter fun w => w.seq != q }))

/-! ### Coherence (R205 to R223) -/

/-- R208, R213, R214: a coherence request of an agent that passes its checks is served at the home; CH_UPGRADE of the
owner completes at once, CH_EVICT_CLEAN of the owner frees the entry. R215, R219, Table CH-3: an answer to a snoop
closes it, returned data being written to memory first; a snoop that is not answered is sent again with RETRY set, and
after the last time its agent is UNRESPONSIVE. -/
def Obligations.CoherenceCompletes : Prop :=
  (∀ (s u : State) (h : Hdr) (w : List Byte) (c e ep op d : Nat) (x : Domain) (i : Instr) (data : List Byte),
    (op, data, i) ∈ [(0x40, [], .chReadShared h), (0x41, [], .chReadOwn h), (0x42, [], .chUpgrade h), (0x43, w, .chWriteback h w),
      (0x44, [], .chEvictClean h)] →
    s.ingress { opcode := op, hdr := h, data := data } = (u, some c) → u.epochFor c h.epoch = some ep →
    u.mapExtent c ep h.addr 128 = some e → u.extentRefuses 0x01 c e h = none → u.domainOf e = some d → u.coh.look d = some x →
    (x.agents.vals.any fun a => a.node == h.src) = true → u.extentRefuses op c e h = none →
    u.lineOpen { opcode := op, hdr := h, data := data } c = false →
    exec i s = .next (u.serve { opcode := op, hdr := h, data := data } c e ep))
  ∧ (∀ (u : State) (p : Packet) (c e ep d r : Nat) (x : Extent) (dm : Domain) (y : DirEntry), u.tx.steps = [] →
    u.extent e = some x → x.rekeying = false → u.asleep x (leavesOf (p.hdr.addr - x.base) (128 * (p.hdr.lines + 1))) = [] →
    u.domainOf e = some d → u.coh.look d = some dm → (dm.agents.findKey fun _ a => a.node == p.hdr.src) = some r →
    dm.lineBusy (p.hdr.addr / 128) = false → dm.dir.look (p.hdr.addr / 128) = some y → y.state = .excl → y.owner = r →
    (p.opcode = 0x42 → ∃ v : State, u.serve p c e ep = v.respond 0x42 p.hdr St.OK [] ∧ v.coh = u.coh ∧ v.pool = u.pool)
    ∧ (p.opcode = 0x44 → ∃ (v : State) (z : Domain), u.serve p c e ep = v.respond 0x44 p.hdr St.OK [] ∧ v.coh.look d = some z
        ∧ z.dir = dm.dir.del (p.hdr.addr / 128) ∧ v.pool = u.pool))
  ∧ (∀ (s : State) (d a line k : Nat) (x : Domain) (q : Snoop) (i : Instr),
    (k, i) ∈ [(0, .snpInvalidateResp d a line []), (1, .snpShareResp d a line []), (2, .snpOwnResp d a line [])] →
    s.coh.look d = some x → (x.snoops.find? fun q => q.line == line && q.agent == a && q.kind == k) = some q →
    s.tx.steps = [] → s.tx.own = [] → (x.grants.all fun g => g.id != q.grant || decide (2 ≤ g.waiting)) = true →
    exec i s = .next (s.modDom d fun x => { x with
      snoops := x.snoops.erase q
      dir := x.dir.change line fun y => { y with fwdOpen := y.fwdOpen - 1 }
      agents := x.agents.change a fun g => { g with unresponsive := false }
      grants := x.grants.map fun g => if g.id = q.grant then { g with waiting := g.waiting - 1 } else g }))
  ∧ (∀ (s : State) (d a line k e : Nat) (x : Domain) (q : Snoop) (y : Extent) (b : List Byte) (i : Instr),
    (k, i) ∈ [(0, .snpInvalidateResp d a line b), (1, .snpShareResp d a line b), (2, .snpOwnResp d a line b)] →
    s.coh.look d = some x → (x.snoops.find? fun q => q.line == line && q.agent == a && q.kind == k) = some q →
    (x.extents.find? fun e => (s.extent e).any fun y => decide (y.base ≤ 128 * line ∧ 128 * line < y.base + y.size)) = some e →
    s.extent e = some y → b ≠ [] → s.tx.steps = [] →
    (x.grants.all fun g => g.id != q.grant || decide (2 ≤ g.waiting)) = true →
    ∃ t, exec i s = .next t ∧ t.pool.mem = cellWrites s.pool.mem (poolAddr y.store (128 * line - y.base)) (b.take 128))
  ∧ (∀ (s t : State) (d a line tag : Nat) (x : Domain) (q : Snoop) (o : Own) (n : Agent) (k : Packet),
    s.coh.look d = some x → (x.snoops.find? fun q => q.line == line && q.agent == a) = some q → x.agents.look a = some n →
    q.tries < s.field Reg.TX_RETRY_LIMIT 3 0 →
    (s.tx.own.find? fun o => o.2.purpose == 3 && o.2.object == line && o.2.pkt.hdr.dst == n.node
      && o.2.pkt.opcode == 0x50 + q.kind) = some (tag, o) →
    k = { o.pkt with hdr := ({ o.pkt.hdr with retry := true }).sealed o.pkt.opcode } →
    t = (s.bumpDom d Reg.CHCNT_SNOOP_TIMEOUT).modDom d (fun x => { x with
      snoops := x.snoops.map fun y => if y = q then { y with tries := y.tries + 1 } else y }) →
    exec (.snoopTimeout d a line) s = .next
      ((t.modTx fun z => { z with own := z.own.put tag { o with pkt := k, tries := o.tries + 1 } }).route k none))
  ∧ (∀ (s : State) (d a line : Nat) (x : Domain) (q : Snoop) (n : Agent), s.coh.look d = some x →
    (x.snoops.find? fun q => q.line == line && q.agent == a) = some q → x.agents.look a = some n → n.unresponsive = false →
    s.field Reg.TX_RETRY_LIMIT 3 0 ≤ q.tries →
    exec (.snoopTimeout d a line) s = .next
      (((s.bumpDom d Reg.CHCNT_SNOOP_TIMEOUT).modDom d fun x => { x with
        agents := x.agents.change a fun a => { a with unresponsive := true } }).occur Ev.CH_AGENT_UNRESPONSIVE d a))

/-! ### Operations (R24, R49 to R53, R111 to R137, R140 to R180) -/

/-- R24, R113: an OP_SUBMIT that passes the steps of R113 and need not wait is accepted: a near-memory operation at
once, one that runs on presses when its seeds fit, its composition has a share and a press of it is not OFFLINE; the
first descriptor of a reduce instance opens it at its group's press, and a later one joins it. R113: a descriptor whose
DESC_CRC fails starts nothing and is answered ST_DESC_CRC. -/
def Obligations.OperationsAreAccepted : Prop :=
  (∀ (s u v : State) (h : Hdr) (d : List Byte) (c o : Nat) (k : OpKind) (i : Instr),
    (k, i) ∈ [(OpKind.fill, Instr.fill h d), (.copy, .copy h d), (.compare, .compare h d), (.nmReduce, .nmReduce h d),
      (.allReduce, .allReduce h d), (.reduceScatter, .reduceScatter h d), (.reduceToMem, .reduceToMem h d),
      (.gather, .gather h d), (.scatter, .scatter h d), (.filterPredicate, .filterPredicate h d),
      (.filterThreshold, .filterThreshold h d), (.filterTopk, .filterTopk h d), (.filterBlockSelect, .filterBlockSelect h d),
      (.attend, .attend h d), (.encode, .encode h d)] →
    s.ingress { opcode := 0x30, hdr := h, data := d } = (u, some c) → u.opOpen h.src (opId d) = false →
    (u.epochFor c h.epoch).isSome = true → descCrcOk d 256 = true → commonOk k.code d = true → u.opBodyBad k d = none →
    u.opRangesBad c k h d = none → u.opWaitsFor c k h d = none → o = u.work.nextOp →
    v = u.modWork (fun w => { w with ops := w.ops.put o (newOp k c h d), nextOp := o + 1 }) →
    (k.near = true → exec i s = .next (v.acceptOp o))
    ∧ (k.near = false → k.reduces = false → (v.opPlan c k d).length ≤ 1048576 →
        (v.opPlan c k d).length ≤ v.field Reg.SEED_COMP_QUOTA 21 0 →
        ((v.comp c).any fun y => y.pressMask == 0) = false → (v.choosePress c).isSome = true →
        exec i s = .next (v.acceptOp o))
    ∧ (∀ g, k.reduces = true → v.joins c k d = none → (v.opPlan c k d).length ≤ 1048576 →
        (v.opPlan c k d).length ≤ v.field Reg.SEED_COMP_QUOTA 21 0 →
        ((v.comp c).any fun y => y.pressMask == 0) = false → v.groupFor c (redGroup d) = some g →
        ((v.presses.look g.2.press).any fun q => decide (q.state = .offline)) = false →
        exec i s = .next (v.acceptOp o))
    ∧ (∀ j, k.reduces = true → v.joins c k d = some j →
        exec i s = .next (((v.takeStep c h.src).2.2.modWork fun w => { w with ops := w.ops.del o }).redJoin j h d
          (v.takeStep c h.src).1 (v.takeStep c h.src).2.1)))
  ∧ (∀ (s u : State) (h : Hdr) (d : List Byte) (c : Nat), s.ingress { opcode := 0x30, hdr := h, data := d } = (u, some c) →
    u.opOpen h.src (opId d) = false → (u.epochFor c h.epoch).isSome = true → descCrcOk d 256 = false →
    ∃ t, exec (.fill h d) s = .next t ∧ t = (u.bumpComp c Reg.CCNT_DESC_CRC).opFails h d St.DESC_CRC
      ∧ t.work = s.work ∧ t.pool = s.pool)

/-- R51, R52: a leaf of a near-memory operation whose leaves are ready writes its part of a FILL, a COPY or an
NM_REDUCE, and a COMPARE keeps the lowest difference; the operation goes on while leaves are left. Byte `i` of a FILL is
byte `i` modulo 8 of its PATTERN (R51). -/
def Obligations.NearMemoryLeavesComplete : Prop :=
  (∀ (s : State) (o l : Nat) (x : Op) (p : Nat × Nat), s.work.ops.look o = some x → x.phase = .running → x.todo.contains l = true →
    s.nmReady x l = true → p = s.nmPiece x.comp x.desc l →
    (s.rangePoisoned x.comp (nmSrc x.desc 0 + p.1) p.2 = false → s.rangePoisoned x.comp (nmA x.desc + p.1) p.2 = false →
      (x.kind = .fill → ∃ t, exec (.nmLeafDone o l) s = .next t
        ∧ t.pool.mem = (s.writeRange x.comp (nmA x.desc + p.1) (fillBytes x.desc p.1 p.2)).pool.mem)
      ∧ (x.kind = .copy → ∃ t, exec (.nmLeafDone o l) s = .next t
        ∧ t.pool.mem = (s.writeRange x.comp (nmA x.desc + p.1) (s.readRange x.comp (nmSrc x.desc 0 + p.1) p.2)).pool.mem)
      ∧ (x.kind = .compare → ∃ t, exec (.nmLeafDone o l) s = .next t ∧ t.pool.mem = s.pool.mem))
    ∧ (∀ r, r = s.nmRun x.comp x.kind x.desc l → x.todo.all (· == l) = false →
      exec (.nmLeafDone o l) s = .next (r.1.modOp o fun y => { y with
        todo := y.todo.filter (· != l)
        lost := if r.2.1 then y.lost ++ [l] else y.lost
        result := match r.2.2 with
          | some v => min y.result v
          | none => if x.kind = .compare ∨ r.2.1 then y.result else y.result + p.2 })))
  ∧ (∀ (d : List Byte) (o n i : Nat), i < n → (fillBytes d o n).length = n
    ∧ (fillBytes d o n)[i]? = some (BitVec.ofNat 8 (leAt d (56 + (o + i) % 8) 1)))

/-- R117, R119 to R125: a segment joins its contributor's words, or waits for its descriptor; a block whose contributions are
all here is combined and delivered; an instance that lacks a word at its timeout aborts with ST_OP_TIMEOUT, which names the
lowest missing member and their number. -/
def Obligations.ReductionsComplete : Prop :=
  (∀ (s u : State) (h : Hdr) (seg data : List Byte) (c o i : Nat) (x : Op) (g : Group) (p : Press),
    s.ingress { opcode := 0x30, hdr := h, data := seg ++ data } = (u, some c) → (u.epochFor c h.epoch).isSome = true →
    descCrcOk seg 64 = true → u.work.ops.look o = some x → u.work.groups.look x.group = some g →
    u.presses.look g.press = some p → u.reduceSlotsUsed g.press < p.reduceSlots →
    (u.work.ops.findSome? fun q => if q.2.comp = c ∧ q.2.phase = .running then
        (q.2.contribs.find? fun z => z.opId == opId seg && z.hdr.any fun g => g.src == h.src).map fun z => (q.1, z.index)
      else none) = some (o, i) →
    exec (.reduceSegment h seg data) s = .next (u.takeSegment o i seg data))
  ∧ (∀ (s u : State) (h : Hdr) (seg data : List Byte) (c : Nat),
    s.ingress { opcode := 0x30, hdr := h, data := seg ++ data } = (u, some c) → (u.epochFor c h.epoch).isSome = true →
    descCrcOk seg 64 = true → u.work.ops = [] →
    (u.work.groups.vals.all fun g => g.comp != c || (g.done.isEmpty && g.aborted.isEmpty)) = true →
    exec (.reduceSegment h seg data) s = .next (u.modWork fun w => { w with
      early := w.early ++ [(c, h.src, opId seg, seg, data)] }))
  ∧ (∀ (s : State) (o b : Nat) (x : Op) (q : Nat × Seed), s.work.ops.look o = some x → x.phase = .running →
    x.todo.contains b = true → redReady x b = true → s.redSeed x b = some q → q.2.state = .active → x.todo.all (· == b) = false →
    exec (.reduceBlockDone o b) s = .next
      (((s.redDeliver o b).modOp o fun y => { y with todo := y.todo.filter (· != b) }).redSeeds o b))
  ∧ (∀ (s : State) (o b : Nat) (x : Op), s.work.ops.look o = some x → x.kind = .reduceToMem →
    (s.work.groups.look x.group).bind Group.parent = none →
    (s.redDeliver o b) = s.writeRange x.comp (redDest x.desc + b * 8192 * elemBytes (redOut x.desc)) (redOutput x b))
  ∧ (∀ (s : State) (o n low : Nat) (rest : List Nat) (x : Op), s.work.ops.look o = some x → x.phase = .running →
    x.contribs ≠ [] → x.timeoutAt = some n → redMissing x = low :: rest →
    exec (.reduceInstanceTimeout o) s = .next
      (((s.advanceTo n).bumpComp x.comp Reg.CCNT_OP_TIMEOUT).redAbort o St.OP_TIMEOUT (some low) (some (rest.length + 1))))

/-- R113, R111, R52, R125, R155, R60, R351: an OP_SUBMIT that waited is tried again; an accepted operation ends with
ST_OP_TIMEOUT at its timeout; a stalled step or operation ends at its deadline with what it lost; a job's step is recorded
in its ring before its final packet leaves. -/
def Obligations.OperationEventsComplete : Prop :=
  (∀ (s : State) (o : Nat) (x : Op), s.work.ops.look o = some x → x.phase = .waiting →
    s.opRangesBad x.comp x.kind x.hdr x.desc = none → s.opWaitsFor x.comp x.kind x.hdr x.desc = none →
    exec (.opSubmitDequeue o) s = .next (s.admitOp o))
  ∧ (∀ (s : State) (o n : Nat) (x : Op), s.work.ops.look o = some x → x.phase = .running → x.timeoutAt = some n →
    (x.kind.near = true → exec (.opTimeout o) s = .next
      ((s.advanceTo n).finishOp o St.OP_TIMEOUT x.result (s.nmLowest x) [] 0))
    ∧ (x.kind = .attend → exec (.opTimeout o) s = .next
      (((s.advanceTo n).bumpComp x.comp Reg.ACNT_OP_TIMEOUT).withOpen fun r s =>
        s.finishOp o St.OP_TIMEOUT r (atHeads x.desc - x.todo.length - x.withheld.length) [] 0))
    ∧ (∀ low rest, x.kind.reduces = true → redMissing x = low :: rest → exec (.opTimeout o) s = .next
      (((s.advanceTo n).bumpComp x.comp Reg.CCNT_OP_TIMEOUT).redAbort o St.OP_TIMEOUT (some low) (some (rest.length + 1))))
    ∧ (x.kind.near = false → x.kind.reduces = false → x.kind ≠ .attend → exec (.opTimeout o) s = .next
      ((s.advanceTo n).withOpen fun r s => s.failOp o St.OP_TIMEOUT r)))
  ∧ (∀ (s t : State) (i f : Nat) (q : Step), i < 2 ^ 32 → s.tx.steps.look i = some q → q.firstStall = some f → q.items ≠ [] →
    q.decided = none → t = (s.advanceTo (f + 1000 * ((s.comp q.comp).map Comp.deadlineUs).getD 0)).loseStep i →
    exec (.stepDeadlineExpiry i) s = .next ((t.poisonAtDeadline q.extent (q.items.map (· / 2)).eraseDups).settle))
  ∧ (∀ (s t : State) (o f : Nat) (x : Op), s.work.ops.look o = some x → x.firstStall = some f → x.phase = .running →
    s.opStalled o x ≠ [] → x.kind = .gather ∨ x.kind = .scatter →
    t = s.advanceTo (f + 1000 * ((s.comp x.comp).map Comp.deadlineUs).getD 0) →
    exec (.stepDeadlineExpiry (o + 2 ^ 32)) s = .next ((((t.giveUp (s.opStalled o x)).failSeeds o).modOp o fun y => { y with
      lost := (s.opStalled o x).map fun q => q.1 * 2 ^ 32 + q.2 }).rowsRun o))
  ∧ (∀ (s : State) (o j : Nat) (x : Op) (y : Job), s.work.ops.look o = some x → x.phase = .ledger →
    (s.tx.own.vals.any fun q => q.purpose == 4 && q.object == o) = false → x.job = some j → s.work.jobs.look j = some y →
    y.copy = none →
    exec (.ledgerWriteApplied o false) s = .next
      ((((s.modOp o fun _ => x).writeRange y.comp (y.ring + x.stepSeq % y.entries * 64) (s.entryOf x))).sendRecorded o))

/-- R135, R136: the `k` first entries that a filter keeps, under an order that is strict and total on its input: they are in
order, they are entries of the input, and each entry left out comes after every one kept. -/
def Obligations.FiltersKeepTheFirst : Prop :=
  ∀ (f : Nat × Nat → Nat × Nat → Bool) (k : Nat) (l : List (Nat × Nat)), l.Nodup →
    (∀ a ∈ l, ∀ b ∈ l, ∀ c ∈ l, f a b = true → f b c = true → f a c = true) →
    (∀ a ∈ l, f a a = false) → (∀ a ∈ l, ∀ b ∈ l, a ≠ b → f a b = true ∨ f b a = true) →
    (topK f k l).length = min k l.length ∧ (topK f k l).Pairwise (fun a b => f a b = true)
    ∧ (∀ a ∈ topK f k l, a ∈ l) ∧ (∀ a ∈ l, a ∉ topK f k l → ∀ b ∈ topK f k l, f b a = true)

/-! ### Presses (R82 to R110, R335 to R348) -/

/-- R93, R96, R97, R172, R173: the oldest eligible seed of the context becomes ACTIVE; a leaf that lands brings the drill to
the next one; a poisoned leaf marks the seed; a block copy that passes its checks overwrites the faulty block, one that does
not poisons its slot; a seed whose work is over ends DONE, one that met poison FAILED. -/
def Obligations.SeedsComplete : Prop :=
  (∀ (s : State) (n c i : Nat) (p : Press) (z : Seed), s.presses.look n = some p → p.state = .lit → p.ctx = some c →
    (s.pressSeeds n fun z => z.comp == c && !z.state.ended) ≠ [] → s.activeOn n < 4096 →
    s.oldest ((s.pressSeeds n fun z => z.comp == c && !z.state.ended).filter fun q => s.seedEligible q.2) = some (i, z) →
    exec (.seedActivate n) s = .next ((s.modSeed i fun z => { z with
      state := .active, activateNs := if z.activateNs = 0 then s.clk.timeNs else z.activateNs }).askNext i))
  ∧ (∀ (s : State) (n o k : Nat), (s.work.seeds.vals.any fun z => z.op == o && z.index == k && decide (z.state = .done)) = true →
    exec (.seedCompletionReceive n o k) s = .next (s.meetDeps n o k))
  ∧ (∀ (s t : State) (i : Nat) (z : Seed) (r : LeafRef) (o : Op) (x : Extent) (p : Press), s.work.seeds.look i = some z →
    z.leaves[z.fetched]? = some r → s.opOf z = some o → s.extent r.extent = some x → s.presses.look z.press = some p →
    p.state = .lit → z.state = .active → z.refetch = none → s.hasLane i z = true → x.vq = false → x.leafPoisoned r.leaf = false →
    s.leafReady o.alt r.extent r.leaf false = true → s.ft.forcedUe = [] → t = s.touch r.extent r.leaf →
    exec (.drillLeafArrive i .ok) s = .next ((t.leafIn i false).arrived r.extent r.leaf))
  ∧ (∀ (s : State) (i : Nat) (z : Seed) (r : LeafRef) (o : Op) (x : Extent) (p : Press) (a : Answer),
    s.work.seeds.look i = some z → z.leaves[z.fetched]? = some r → s.opOf z = some o → s.extent r.extent = some x →
    s.presses.look z.press = some p → p.state = .lit → z.state = .active → z.refetch = none → s.hasLane i z = true →
    x.vq = false → x.leafPoisoned r.leaf = true →
    exec (.drillLeafArrive i a) s = .next (s.leafIn i true))
  ∧ (∀ (s : State) (i k : Nat) (z : Seed) (r : LeafRef) (x : Extent) (copy b : List Byte), s.work.seeds.look i = some z →
    z.refetch = some k → z.leaves[z.fetched]? = some r → s.extent r.extent = some x →
    b = copy.take (fetchSize x.slotLines) ++ List.replicate (fetchSize x.slotLines - copy.length) 0 →
    (blockCheck b (fetchSize x.slotLines) (s.codebook x.comp) = none → exec (.blockRefetchDone i copy) s = .next
      ((s.heldFor r.extent k).foldl (fun s i => s.leafIn i false)
        ((s.writePool r.extent (k * x.slotLines * 128) b).bumpComp x.comp Reg.VCNT_REFETCH_OK)))
    ∧ (blockCheck b (fetchSize x.slotLines) (s.codebook x.comp) ≠ none → exec (.blockRefetchDone i copy) s = .next
      ((s.heldFor r.extent k).foldl (fun s i => s.leafIn i true)
        (s.poisonUnit r.extent k (((s.slotFault r.extent x k).map faultMark).getD .blockFormat)))))
  ∧ (∀ (s : State) (i : Nat) (z : Seed) (p : Press) (x : Op), s.work.seeds.look i = some z → s.presses.look z.press = some p →
    p.state = .lit → s.opOf z = some x → x.kind.reduces = false → z.state = .active → z.poisoned = false → z.worked = true →
    exec (.seedDone i) s = .next (s.doneSeed i))
  ∧ (∀ (s : State) (i h j : Nat) (z : Seed), s.work.seeds.look i = some z → z.state = .active → z.poisoned = true →
    z.kind = .span h j → exec (.seedFailed i) s = .next (s.failSeed i))

/-- R98, R168, R337 to R341: a codebook that a pass waits for is loaded; a chain starts on the engine that has room; a
verdict of match counts the tile, a mismatch stops the chain; the third computation fences the engine that was wrong, or
resets the press when all three differ; a chain commits when every leaf is in and every sampled tile has matched. -/
def Obligations.ChainsComplete : Prop :=
  (∀ (s : State) (n cb : Nat) (p : Press), s.presses.look n = some p → p.state = .lit → p.store.contains cb = false →
    (s.work.seeds.vals.any fun z => z.press == n && decide (z.state = .active) && (s.seedCodebooks z).contains cb) = true →
    (s.codebook (s.ctxOf n) cb).isSome = true →
    exec (.codebookLoadDone n cb) s = .next
      ((s.modPress n fun p => { p with store := insertAsc cb p.store }).bumpComp (s.ctxOf n) Reg.VCNT_CODEBOOK_LOADS))
  ∧ (∀ (s : State) (n i e m : Nat) (p : Press) (z : Seed) (mine : List (Nat × Seed)), s.presses.look n = some p → p.state = .lit →
    p.expired = false →
    mine = (s.pressSeeds n fun z => some z.comp == p.ctx && !z.state.ended && decide (z.chainsStarted < z.chains)) →
    (mine.filter fun q => q.2.resumeFirst) = [] →
    s.oldest (mine.filter fun q => decide (q.2.state = .active) && !q.2.poisoned
      && (decide (0 < q.2.fetched) || q.2.leaves.isEmpty)) = some (i, z) → s.engineFor p z = some e →
    m = s.samples p (s.chainTiles z) →
    exec (.chainStart n) s = .next (((s.modPress n fun p => { p with chains := p.chains ++
      [{ engine := e, seed := i, sampled := m, verdicts := 0, stopped := false, replayed := false,
         injected := false }] }).modSeed i fun z => { z with chainsStarted := z.chainsStarted + 1 }).drawn))
  ∧ (∀ (s t : State) (n e : Nat) (p : Press) (c : Chain), s.presses.look n = some p →
    (p.chains.find? fun c => c.engine == e && !c.stopped && decide (c.verdicts < c.sampled)) = some c →
    t = (s.bump Reg.FT_CNT_SAMPLED_LO).modPress n (fun p => { p with lastShadow := e, forceMismatch := false }) →
    (p.forceMismatch = false → exec (.verdictReady n e true) s = .next (t.tileAgrees n c))
    ∧ exec (.verdictReady n e false) s = .next ((t.setChain n c { c with stopped := true, injected := false }).bump Reg.FT_CNT_MISMATCH))
  ∧ (∀ (s : State) (n e : Nat) (p : Press) (c : Chain), s.presses.look n = some p →
    (p.chains.find? fun c => c.engine == e && c.stopped) = some c → c.injected = false →
    (s.tieEngine n e (s.ctxOf n) = true →
      exec (.tieBreakDone n e .checker) s = .next ((s.replayChain n c true).fence n e)
      ∧ exec (.tieBreakDone n e .engine) s = .next ((s.tileAgrees n c).fence n 4)
      ∧ exec (.tieBreakDone n e .neither) s = .next (((s.replayChain n c true).resetPress n).bump Reg.FT_CNT_UNRESOLVED))
    ∧ (s.tieEngine n e (s.ctxOf n) = false → exec (.tieBreakDone n e .noEngine) s = .next
        (s.modPress n fun p => { p with mustSweep := p.mustSweep ||| engineBit e ||| engineBit 4 })))
  ∧ (∀ (s : State) (n h j m : Nat) (p : Press) (c : Chain) (rest : List Chain) (z : Seed), s.presses.look n = some p →
    p.chains = c :: rest → c.stopped = false → c.verdicts = c.sampled → s.work.seeds.look c.seed = some z →
    z.fetched = z.leaves.length → z.poisoned = false → z.refetch = none → (s.seedCodebooks z).all p.store.contains = true →
    z.kind = .span h j → m = s.chainTiles z →
    exec (.chainCommit n c.engine) s = .next
      ((s.modPress n fun q => { q with chains := q.chains.filter (· != c), norms := p.norms }).modSeed c.seed fun z => { z with
        chainsDone := z.chainsDone + 1
        tilesDone := z.tilesDone + m
        engines := z.engines ||| engineBit c.engine
        resumeFirst := false }))

/-- R98, R149, R341, R344, R345: the engine of a new chain is not fenced, owes no sweep after a tie-break, has the bands the
chain takes, and is the lowest-numbered one that has. -/
def Obligations.ChainsStartOnOpenEngines : Prop :=
  ∀ (s : State) (p : Press) (z : Seed) (e : Nat), s.engineFor p z = some e →
    e < 4 ∧ p.fenced.getLsbD e = false ∧ p.mustSweep.getLsbD e = false ∧ s.bandsUsed p e + s.chainBands z ≤ 16
    ∧ ∀ k, k < e → p.engineOpen k = false ∨ 16 < s.bandsUsed p k + s.chainBands z

/-- R105 to R109, R390: a context's quantum ends while another waits, its running chains are abandoned at the window's end,
and after the scrub the context with the oldest waiting seed starts; an idle press goes fallow after its scrub and wakes
for a seed. -/
def Obligations.ContextsAndFallowComplete : Prop :=
  (∀ (s : State) (n c d : Nat) (p : Press), s.presses.look n = some p → p.state = .lit → p.ctx = some c → p.expired = false →
    s.nextCtx n = some d →
    exec (.quantumExpiry n) s = .next ((s.advanceTo (p.quantumNs + s.quantumLen)).modPress n fun p => { p with expired := true }))
  ∧ (∀ (s : State) (n : Nat) (p : Press), s.presses.look n = some p → p.state = .lit → p.expired = true →
    exec (.switchWindowExpiry n) s = .next
      (((s.advanceTo (p.quantumNs + s.quantumLen + 6810)).abandon n .parked).beginScrub n .switching))
  ∧ (∀ (s : State) (n c : Nat) (p : Press), s.presses.look n = some p → p.state = .switching →
    (s.sizePools n).nextCtx n = some c →
    exec (.contextScrubDone n) s = .next
      ((((s.sizePools n).startCtx n c).bumpComp c Reg.PCNT_CTX_SWITCH).bumpPress n Reg.PRESS_CTX_SWITCHES))
  ∧ (∀ (s : State) (n : Nat) (p : Press), s.presses.look n = some p → (s.pressSeeds n fun z => !z.state.ended) = [] →
    (p.state = .lit → exec (.pressIdleTimeout n) s = .next
      ((s.beginScrub n .scrubbing).modPress n fun p => { p with ctx := none }))
    ∧ (p.state = .scrubbing → exec (.pressFallowDone n) s = .next (s.modPress n fun p => { p with state := .fallow })))
  ∧ (∀ (s : State) (n : Nat) (p : Press), s.presses.look n = some p → p.state = .waking →
    exec (.pressWakeDone n) s = .next
      ((s.sizePools n).modPress n fun p => { p with state := .lit, ctx := none, expired := false }))

/-- R90, R336, R342 to R348: a parity error is counted and, when the replay fails too, its slot is retired and the chain
replayed; every unfenced engine owes a sweep in each period; a sweep that passes clears what it owes, one that fails fences
the engine; a press reset waits for PRESS_RESET_DONE, which reloads and sweeps the press; FT_UNFENCE unfences only what
passes its sweep. -/
def Obligations.SweepsAndResetsComplete : Prop :=
  (∀ (s : State) (n port slot : Nat) (p : Press), s.presses.look n = some p → p.state = .lit → p.retired.contains slot = false →
    slot < 1536 → 1 ≤ port → port ≤ 11 →
    exec (.scratchpadParityError n port slot false) s = .next
      (((s.bumpComp (s.ctxOf n) Reg.PCNT_SP_PARITY).bumpPress n Reg.PRESS_SP_PARITY).bump Reg.FT_CNT_PARITY_REPLAY))
  ∧ (∀ (s t : State) (n port slot : Nat) (p : Press) (c : Chain), s.presses.look n = some p → p.state = .lit →
    p.retired.contains slot = false → slot < 1536 → 2 ≤ port → port ≤ 11 →
    (p.chains.find? fun c => decide (2 ≤ port) && c.engine == port - 2 && !c.stopped) = some c → p.retired.length < 64 →
    t = (((s.bumpComp (s.ctxOf n) Reg.PCNT_SP_PARITY).bumpPress n Reg.PRESS_SP_PARITY).bump Reg.FT_CNT_PARITY_REPLAY).bump
      Reg.FT_CNT_PARITY_HARD →
    exec (.scratchpadParityError n port slot true) s = .next
      ((t.modPress n fun p => { p with retired := insertAsc slot p.retired }).replayChain n c false))
  ∧ (∀ (s : State), ∃ t, exec .sweepPeriodStart s = .next t
    ∧ t.ft.periodNs = (s.advanceTo (s.ft.periodNs + 1000000000 * s.field Reg.FT_SWEEP_CFG 15 0)).clk.timeNs
    ∧ ∀ n p, t.presses.look n = some p → p.sweepDue = ~~~p.fenced)
  ∧ (∀ (s : State) (n e : Nat) (p : Press), s.presses.look n = some p → p.state = .lit → p.fenced.getLsbD e = false →
    p.mustSweep.getLsbD e = false → p.sweepDue.getLsbD e = true → (p.chains.any fun c => c.engine == e && !c.stopped) = false →
    exec (.sweepPassDone n e true) s = .next (s.sweepPass n e)
    ∧ exec (.sweepPassDone n e false) s = .next ((s.bump Reg.FT_CNT_SWEEP_FAIL).fence n e))
  ∧ (∀ (s t : State) (c : Ctx) (n : Nat) (p : Press), s.starts t c (Cmd.f 0xF003 Legal.LM) Target.none →
    t.presses.look n = some p → p.state ≠ .resetting →
    exec (.pressReset c n) s = .next ((t.resetPress n).modPress n fun p => { p with
      resetter := p.resetter ++ [(c.session, c.seq)] }))
  ∧ (∀ (s t u : State) (n : Nat) (p : Press), s.presses.look n = some p → p.state = .resetting →
    t = (List.range 5).foldl (fun s e => s.sweepPass n e) s →
    u = t.modPress n (fun q => { q with retired := [], resetter := [], quantumNs := t.clk.timeNs }) →
    (u.presses.look n).any Press.canRun = true →
    exec (.pressResetDone n true 0) s = .next
      (p.resetter.foldl (fun s r => s.reply { session := r.1, seq := r.2, badItem := none } 0xF003 St.OK [])
        ((u.sizePools n).modPress n fun q => { q with state := .lit })))
  ∧ (∀ (s t : State) (c : Ctx) (n e : Nat) (p : Press), s.starts t c (Cmd.f 0xF001 Legal.LM) Target.none →
    t.presses.look n = some p → e < 5 →
    exec (.ftUnfence c n e true) s = .next
      ((((t.sweepPass n e).modPress n fun p => { p with fenced := p.fenced &&& ~~~(engineBit e) }).modPress n fun p =>
        if p.state = .offline ∧ p.canRun then { p with state := .fallow } else p).reply c 0xF001 St.OK [.num 1])
    ∧ exec (.ftUnfence c n e false) s = .next ((t.bump Reg.FT_CNT_SWEEP_FAIL).reply c 0xF001 St.OK [.num 0]))

/-! ### Tiers and moves (R26, R42 to R48, R58 to R61, R79) -/

/-- R26, R45 to R47, R58, R59, R79: a tier's answer serves what waits for it; a late one is counted once; a leaf copy
without marked lines switches its leaf's translation; a write-back, a background move, a rebuilt mirror and a replica's
leaf complete; the placement tick counts, and no stamp stays older than 32,768 ticks. R26: while the copy of a leaf is
under way, the leaf's translation stays; with no line marked it switches in one step, and the translation of every other
leaf stays. -/
def Obligations.TierEventsComplete : Prop :=
  (∀ (s : State) (e l i : Nat) (m : Bool) (x : Extent), s.extent e = some x → i = 2 * l + b2n m → x.leafPoisoned l = false →
    s.ft.forcedUe = [] →
    exec (.t1AccessDone e l m .uncorrectable) s = .next (s.ueT1 e i false).settle
    ∧ ((m && x.tier.isT2 && !x.inT1 l) = false →
        exec (.t1AccessDone e l m .ok) s = .next (((s.dropItem e i).settle).arrived e l)))
  ∧ (∀ (s t u : State) (e l : Nat) (x : Extent), s.extent e = some x → s.stepsOnLeaf e l ≠ [] → s.opsOnLeaf e l = [] →
    t = s.advanceTo (s.firstStallOf (s.stepsOnLeaf e l) [] + 1000 * s.field Reg.POOL_T1_LATE_US 15 0) →
    x.otherCopy (2 * l) = none → (x.tier.isT2 && !x.inT1 l) = false → t.itemDown e (2 * l) = false →
    t.stepsOnItem e (2 * l) ≠ [] → u = t.causeSteps Reg.POOL_CNT_TIER_LATE_T1 (t.stepsOnItem e (2 * l)) →
    u.stepsOnItem e (2 * l + 1) = [] →
    exec (.t1LateThreshold e l) s = .next u.settle)
  ∧ (∀ (s : State) (e l : Nat) (x : Extent), s.extent e = some x → x.tier.isT2 = true → x.inT1 l = false →
    s.stepsOnLeaf e l ≠ [] →
    exec (.t2LateThreshold e l) s = .next (State.causeOps Reg.POOL_CNT_TIER_LATE_T2 (s.opsOnLeaf e l)
      ((s.advanceTo (s.firstStallOf (s.stepsOnLeaf e l) (s.opsOnLeaf e l) + 1000 * s.field Reg.POOL_T2_LATE_US 23 0)).causeSteps
        Reg.POOL_CNT_TIER_LATE_T2 (s.stepsOnLeaf e l))))
  ∧ (∀ (s : State) (e l : Nat) (x : Extent) (m : Move), s.moveOf e l = some m → m.kind = .promote → s.extent e = some x →
    x.inT1 l = true → x.leafPoisoned l = false → m.marked = [] →
    exec (.leafCopyDone e l) s = .next (s.switchLeaf m) ∧ (s.switchLeaf m).pool.mem = s.pool.mem)
  ∧ (∀ (s : State) (e l : Nat) (m : Move), s.moveOf e l = some m → m.kind ≠ .promote → s.itemDown e (2 * l) = false →
    exec (.writeBackDone e l) s = .next (s.copyDone m).settle)
  ∧ (∀ (s : State) (n : Nat) (b : Background), s.trayUp n = true → (s.pool.background.find? fun b => b.tray == n) = some b →
    exec (.backgroundMoveStart n) s = .next
      ((s.modPool fun p => { p with background := p.background.erase b }).startMove b))
  ∧ (∀ (s : State) (e c t m o n : Nat) (x : Extent) (k : Chunk), s.extent e = some x → x.chunk c = some k →
    k.stale = some t → k.mirror = some m → o = (if t = k.tray then m else k.tray) → n = s.rebuildTray x t o →
    s.trayUp n = true → s.trayUp o = true →
    exec (.mirrorRebuildDone e c) s = .next (((s.modPool fun p => { p with
      background := p.background.filter fun b => !(b.extent == e && b.leaf / 64 == c && b.tray == o) }).modChunk e c fun c =>
        if t = c.tray then { c with tray := n, stale := none } else { c with mirror := some n, stale := none }).settle))
  ∧ (∀ (s t : State) (e l : Nat) (x : Extent), s.extent e = some x → x.replicaFetch.look l = some true → x.tier.isT2 = false →
    t = (s.closeReplica e l).modExtent e (fun x => { x with replicaFetch := x.replicaFetch.del l }) →
    exec (.replicaFetchDone e l true) s = .next (((((t.landLeaf e l).dropLeaf e l).settle).arrived e l))
    ∧ exec (.replicaFetchDone e l false) s = .next
        ((s.closeReplica e l).modExtent e fun x => { x with replicaFetch := x.replicaFetch.put l false }))
  ∧ (∀ (s : State) (e l : Nat) (x : Extent), s.extent e = some x → x.replicaFetch.look l = some false →
    exec (.replicaFetchRetry e l) s = .next
      ((s.modExtent e fun x => { x with replicaFetch := x.replicaFetch.put l true }).askReplica e l))
  ∧ (∀ (s : State), exec .recencyTick s = .next { s with clk := { s.clk with tick := s.clk.tick + 1 } })
  ∧ (∀ (s : State), ∃ t, exec .agePass s = .next t ∧ t.clk = s.clk ∧ t.pool.mem = s.pool.mem
    ∧ ∀ e x c k, t.extent e = some x → x.chunks.look c = some k → (t.clk.tick - k.stamp).toNat ≤ 32768)
  ∧ (∀ (s : State) (m : Move) (x : Extent) (c : Chunk), s.extent m.extent = some x → x.chunkOf m.leaf = some c → m.kind = .promote →
    ∃ y d, (s.switchLeaf m).extent m.extent = some y ∧ y.chunkOf m.leaf = some d
      ∧ d.t0.look (m.leaf % 64) = some { stack := m.stack, dirty := false }
      ∧ (∀ k, k ≠ m.leaf % 64 → d.t0.look k = c.t0.look k)
      ∧ (∀ l, l / 64 ≠ m.leaf / 64 → y.chunkOf l = x.chunkOf l)
      ∧ (∀ e, e ≠ m.extent → (s.switchLeaf m).extent e = s.extent e)
      ∧ (s.switchLeaf m).moveOf m.extent m.leaf = none)

/-! ### Flash (R64 to R81) -/

/-- R65, R70 to R80: a tray attaches with the geometry it reports; a sheaf read lands its leaves; a page goes up the retry
ladder and is recovered or lost; a program moves the map and a relocation switches it; an erasure frees its superblock; ages,
checkpoints and patrol reads are due at their times. -/
def Obligations.FlashEventsComplete : Prop :=
  (∀ (s t : State) (n lp : Nat) (g : Geometry), (s.links.findKey fun _ l => decide (l.role = .tray) && l.trayIndex == n
      && (decide (l.st = .up) || decide (l.st = .fallow))) = some lp → n < 24 → (s.tray n).state = .absent →
    geometryOk g = true → g.factoryBad = 0 → (s.tray n).sbs = [] →
    t = (s.emit (.bridge n 6 [])).modTray n (fun r => { r with
      state := .normal, lport := some lp, geom := g, goodSb := g.goodSb, reserve := g.goodSb - 119212, freeSb := g.goodSb - 2,
      ratedCycles := g.ratedCycles, spares := (List.range 64).map fun d => (d, g.sparePerDie), ckptNs := s.clk.timeNs,
      sinceCkpt := 0, cnt := [] }) →
    exec (.trayAttach n g) s = .next ((t.checkReserve n).reissue n).settle)
  ∧ (∀ (s : State) (n sh e c h : Nat) (x : Extent) (k : Chunk), s.ofSheaf sh = some (e, c, h, false) → s.extent e = some x →
    x.chunk c = some k → k.tray = n →
    exec (.pageReadResult n sh []) s = .next (((List.range 32).filter fun i => !((s.countRead sh).tray n).leafOnLadder sh i).foldl
      (fun s i => s.leafRead sh i) (s.countRead sh)))
  ∧ (∀ (s : State) (n sh p : Nat) (q : Ladder), s.ladderOf n sh p = some q → q.step < 9 →
    exec (.retryStepResult n sh p true) s = .next (s.pageGood n sh p q.step)
    ∧ exec (.retryStepResult n sh p false) s = .next ((s.modTray n fun r => { r with
        ladder := r.ladder.map fun w => if w = q then { w with step := w.step + 1 } else w }).emit
          (if q.step = 8 then .bridge n 2 [sh, p] else .bridge n 1 [sh, p, q.step + 1])))
  ∧ (∀ (s : State) (n sh p : Nat) (q : Ladder), s.ladderOf n sh p = some q → q.step = 9 →
    exec (.softReadResult n sh p true) s = .next (s.pageGood n sh p 9)
    ∧ exec (.softReadResult n sh p false) s = .next (s.pageLost n sh p))
  ∧ (∀ (s t : State) (n sh k slot : Nat), ((s.tray n).programming.any fun q => q.1 == sh) = true →
    s.nextSlot n false = (some (k, slot), t) →
    (∀ e c h m, (t.mapTo n sh k slot).ofSheaf sh = some (e, c, h, m) → exec (.pageProgramResult n sh none) s = .next
      (((t.mapTo n sh k slot).modTray n fun r => { r with programming := r.programming.filter fun q => q.1 != sh }).chunkClean e c))
    ∧ (∀ d, exec (.pageProgramResult n sh (some d)) s = .next
        (((t.bumpTray n Reg.FLASH_CNT_PROGRAM_FAILS).markRetire n k d).emit (.bridge n 3 [sh]))))
  ∧ (∀ (s t : State) (n sh sb slot why k place : Nat), ((s.tray n).relocating.find? fun q => q.1 == sh) = some (sh, sb, slot, why) →
    (s.modTray n fun r => { r with relocating := r.relocating.erase (sh, sb, slot, why) }).nextSlot n true = (some (k, place), t) →
    (t.mapEntry sh).valid = true → (t.mapEntry sh).tray = n → (t.mapEntry sh).sb = sb → (t.mapEntry sh).slot = slot →
    exec (.pageRelocateResult n sh none) s = .next
      (((t.mapTo n sh k place).bumpTray n (moveCounter why)).eraseIfEmpty n sb))
  ∧ (∀ (s t : State) (n k : Nat), ((s.tray n).sb k).moving ≠ 0 → ((s.tray n).sb k).moving < 5 → ((s.tray n).sb k).valid = [] →
    t = s.modSb n k (fun b => { b with closed := false, next := 0, erases := b.erases + 1, reads := 0, ageNs := 0, moving := 0 }) →
    exec (.blockEraseResult n k none) s = .next (((t.retireBlocks n k).checkGc n).checkWear n))
  ∧ (∀ (s t : State) (n : Nat), s.trayUp n = true → (s.tray n).state ≠ .rejected →
    t = (if 65536 ≤ (s.tray n).sinceCkpt then s else s.advanceTo ((s.tray n).ckptNs + 300000000000)) →
    exec (.checkpointDue n) s = .next ((t.modTray n fun r => { r with
      sinceCkpt := 0, ckptNs := t.clk.timeNs, ckptWhich := 1 - r.ckptWhich }).emit
        (.bridge n 3 [(s.tray n).goodSb - 2 + (s.tray n).ckptWhich])))
  ∧ (∀ (s t : State) (n d : Nat), (s.tray n).state ≠ .absent →
    t = (s.modTray n fun r => { r with tempDeciC := d, sbs := r.sbs.each fun _ b =>
      if b.valid.isEmpty then b else { b with ageNs := b.ageNs + 60000000000 * ageFactor d } }).emit (.bridge n 9 []) →
    exec (.tempReadPoll n d) s = .next ((((t.tray n).sbs.filter fun q =>
      decide (t.field Reg.FLASH_REFRESH_CFG 15 0 * 86400000000000 < q.2.ageNs) && !q.2.valid.isEmpty).map Prod.fst).foldl
        (fun s k => s.moveSb n k 2) t))
  ∧ (∀ (s : State) (n k sh : Nat) (rest : List Nat), ((s.tray n).sb k).valid = sh :: rest → s.trayUp n = true →
    exec (.patrolDue n k) s = .next (s.emit (.bridge n 0 [sh])))

/-- R70: after a program, the map points at the slot that was written, the sheaf is valid in that superblock and, when
the old slot lay in another one, no longer in the old one; no other map entry changes. R74: the superblock that a tray
opens next is a free one, none of the free ones it has used before has a lower erase count, and none with the same count
a lower number. -/
def Obligations.FlashKeepsItsRules : Prop :=
  (∀ (s : State) (t n sb slot : Nat) (m : MapEntry), t < 24 → s.fmap.look n = some m → m.tray < 24 →
    ((s.mapTo t n sb slot).mapEntry n).valid = true ∧ ((s.mapTo t n sb slot).mapEntry n).tray = t
    ∧ ((s.mapTo t n sb slot).mapEntry n).sb = sb ∧ ((s.mapTo t n sb slot).mapEntry n).slot = slot
    ∧ (((s.mapTo t n sb slot).tray t).sb sb).valid.contains n = true
    ∧ (m.valid = true → (m.tray, m.sb) ≠ (t, sb) → (((s.mapTo t n sb slot).tray m.tray).sb m.sb).valid.contains n = false)
    ∧ (∀ k, k ≠ n → (s.mapTo t n sb slot).mapEntry k = s.mapEntry k))
  ∧ (∀ (t : Tray) (n : Nat), t.pickSb = some n → (∀ p ∈ t.sbs, t.sbs.look p.1 = some p.2) →
    (t.sbs.has n = true → t.sbFree n = true)
    ∧ ∀ k b, t.sbs.look k = some b → t.sbFree k = true → (t.sb n).erases < b.erases ∨ ((t.sb n).erases = b.erases ∧ n ≤ k))

/-- FW_UPDATE_BEGIN takes a valid manifest into the inactive bank; FW_UPDATE_BLOCK stores a block; FW_UPDATE_VERIFY
answers the manifest's digest when every component is complete and matches; FW_UPDATE_ABORT erases what is staged;
FW_STATUS answers the update's state (R407 to R411). FW_ACTIVATE starts the load and enters ACTIVATING; the load that
ends well commits, one with a bad component leaves the update VERIFIED; units switch one after the other; a unit that
misses its limit, an expired confirm window and an abort start the revert; HEALTH_CONFIRM sets the confirm flag and
moves the rollback counter up to the SVN (R412 to R415). R408: the first failure of FW_UPDATE_BEGIN decides, with no
side effect; R411: in IDLE FW_UPDATE_ABORT gets ST_NOT_FOUND. -/
def Obligations.UpdatesComplete : Prop :=
  (∀ (s t : State) (c : Ctx) (m : Manifest), s.starts t c (Cmd.f 0x7001 Legal.C) Target.none →
    Manifest.wellFormed m = true → t.fw.upd = .idle → Manifest.valid m = true → t.fw.rollback ≤ m.svn →
    exec (.fwUpdateBegin c m) s = .next
      ((((t.setBank t.otherBank { manifest := some m, images := [] }).drawn).modFw fun f => { f with
          upd := .receiving, handle := t.random % 2 ^ 32, staged := none }).reply c 0x7001 St.OK [.num (t.random % 2 ^ 32)]))
  ∧ (∀ (s t : State) (c : Ctx) (h k off : Nat) (d : List Byte) (b : Bank) (m : Manifest) (x : Component),
    s.starts t c (Cmd.f 0x7002 Legal.C) Target.none → t.fw.upd = .receiving ∨ t.fw.upd = .verified → t.fw.handle = h →
    b = t.bankOf t.otherBank → b.manifest = some m → (m.comps.find? fun y => y.ctype == k) = some x → off % 64 = 0 →
    d ≠ [] → d.length ≤ 65536 → off + d.length ≤ x.size →
    ∃ im, im = putBytes ((b.images.look k).getD []) off d
      ∧ exec (.fwUpdateBlock c h k off d) s = .next
        (((t.setBank t.otherBank { b with images := b.images.put k im }).modFw fun f => { f with
          upd := .receiving, staged := none }).reply c 0x7002 St.OK [.num im.length]))
  ∧ (∀ (s t : State) (c : Ctx) (h : Nat) (m : Manifest), s.starts t c (Cmd.f 0x7003 Legal.C) Target.none →
    t.fw.upd = .receiving ∨ t.fw.upd = .verified → t.fw.handle = h → (t.bankOf t.otherBank).manifest = some m →
    (∀ x ∈ m.comps, (t.bankOf t.otherBank).complete x = true ∧ (t.bankOf t.otherBank).matchesDigest x = true) →
    exec (.fwUpdateVerify c h) s = .next
      ((t.modFw fun f => { f with upd := .verified, staged := some m.digest }).reply c 0x7003 St.OK [.digest m.digest]))
  ∧ (∀ (s t : State) (c : Ctx) (h : Nat), s.starts t c (Cmd.f 0x7006 Legal.C) Target.none →
    t.fw.upd = .receiving ∨ t.fw.upd = .verified → t.fw.handle = h →
    exec (.fwUpdateAbort c h) s = .next
      (((t.setBank t.otherBank Bank.reset).modFw fun f => { f with upd := .idle, staged := none }).reply c 0x7006 St.OK []))
  ∧ (∀ (s t : State) (c : Ctx) (h : Nat), s.starts t c (Cmd.f 0x7006 Legal.C) Target.none →
    t.fw.upd = .pendingConfirm → t.fw.handle = h →
    exec (.fwUpdateAbort c h) s = .next (t.startRevert.reply c 0x7006 St.OK []))
  ∧ (∀ (s t : State) (c : Ctx), s.starts t c (Cmd.f 0x7007 Legal.R) Target.none →
    exec (.fwStatus c) s = .next (t.reply c 0x7007 St.OK [.num t.fw.upd.code,
      .num (if t.fw.upd = .idle then 0 else t.fw.handle), .digest (t.fw.staged.getD 0), .num (t.fw.confirmBy.getD 0)]))
  ∧ (∀ (s t : State) (c : Ctx) (h : Nat), s.starts t c (Cmd.f 0x7004 Legal.CB) Target.none →
    t.fw.upd = .verified → t.fw.handle = h →
    exec (.fwActivate c h) s = .next (((t.modDev fun d => { d with resume := t.dev.state }).enter .activating).modFw fun f =>
      { f with upd := .activating, loading := true, switching := [], activator := some (c.session, c.seq) }))
  ∧ (∀ (s : State), s.fw.loading = true → s.fw.upd = .activating → exec (.shadowLoadDone none) s = .next s.commit)
  ∧ (∀ (s : State) (k : Nat), s.fw.loading = true → s.fw.upd = .activating →
    exec (.shadowLoadDone (some k)) s = .next
      (((s.modFw fun f => { f with upd := .verified, loading := false }).returnDevice).answerActivate St.DIGEST_MISMATCH
        [.detail Det.DETAIL k]))
  ∧ (∀ (s : State), s.fw.loading = true → s.fw.upd = .reverting → s.dev.resume ≠ .faulted →
    exec (.shadowLoadDone none) s = .next s.beginSwitch)
  ∧ (∀ (s : State) (u v : SwUnit) (l : List SwUnit), s.fw.switching = u :: v :: l →
    s.fw.upd = .activating ∨ s.fw.upd = .reverting →
    exec (.unitSwitchDone u) s = .next (if (s.unitLeaves u).fw.switching.isEmpty ∧ (s.unitLeaves u).fw.upd = .activating
      then (s.unitLeaves u).endActivation else s.unitLeaves u))
  ∧ (∀ (s : State) (u : SwUnit), s.fw.upd = .activating → s.fw.loading = false → u ∈ s.fw.switching →
    ∃ t, exec (.switchPhaseTimeout u) s = .next t ∧ t.fw.upd = .reverting ∧ t.fw.bank = 1 - s.fw.bank
      ∧ t.fw.loading = true ∧ t.fw.switching = [] ∧ t.fw.confirmed = true)
  ∧ (∀ (s : State) (u : SwUnit), s.fw.upd = .reverting → s.fw.switching = [u] →
    exec (.revertDone u) s = .next (s.unitLeaves u).endRevert)
  ∧ (∀ (s t : State) (c : Ctx) (n : Nat), s.starts t c (Cmd.f 0x7005 Legal.LM) Target.none →
    t.fw.upd = .pendingConfirm → n = ((t.bankOf t.activeBank).manifest.map Manifest.svn).getD 0 →
    exec (.healthConfirm c) s = .next
      (((t.modFw fun f => { f with
          confirmed := true, unconfirmedBoots := 0, rollback := max f.rollback n, upd := .idle, staged := none
          confirmBy := none }).journal 0x22 0 1 0xFF 0).reply c 0x7005 St.OK []))
  ∧ (∀ (s : State) (n : Nat), s.fw.confirmBy = some n → s.fw.upd = .pendingConfirm →
    exec .confirmWindowExpiry s = .next (s.advanceTo (n / 10000 * 10000 + 10000)).startRevert)
  ∧ (∀ (s t : State) (c : Ctx) (m : Manifest), s.starts t c (Cmd.f 0x7001 Legal.C) Target.none →
    Manifest.wellFormed m = false →
    exec (.fwUpdateBegin c m) s = .next (t.reply c 0x7001 St.INVALID_PARAM [.detail Det.FAILED_ITEM 0]))
  ∧ (∀ (s t : State) (c : Ctx) (m : Manifest), s.starts t c (Cmd.f 0x7001 Legal.C) Target.none →
    Manifest.wellFormed m = true → t.fw.upd ≠ .idle →
    exec (.fwUpdateBegin c m) s = .next (t.reply c 0x7001 St.EXTENT_BUSY []))
  ∧ (∀ (s t : State) (c : Ctx) (m : Manifest), s.starts t c (Cmd.f 0x7001 Legal.C) Target.none →
    Manifest.wellFormed m = true → t.fw.upd = .idle → Manifest.valid m = false →
    exec (.fwUpdateBegin c m) s = .next ((t.bump Reg.SE_CNT_AUTH_FAIL).reply c 0x7001 St.BAD_SIGNATURE []))
  ∧ (∀ (s t : State) (c : Ctx) (m : Manifest), s.starts t c (Cmd.f 0x7001 Legal.C) Target.none →
    Manifest.wellFormed m = true → t.fw.upd = .idle → Manifest.valid m = true → m.svn < t.fw.rollback →
    exec (.fwUpdateBegin c m) s = .next (t.reply c 0x7001 St.ROLLBACK []))
  ∧ (∀ (s t : State) (c : Ctx) (h : Nat), s.starts t c (Cmd.f 0x7006 Legal.C) Target.none → t.fw.upd = .idle →
    exec (.fwUpdateAbort c h) s = .next (t.reply c 0x7006 St.NOT_FOUND []))

/-- SEC_STATUS answers the debug state, the SVN, the generation and a fresh nonce; SEC_BINDKEY_GET a key no newer than
the SVN while the chain key is held; FM_KEY_SET writes a slot, in session 0 while no slot is in use; WEIGHT_BIND takes a
record that passes every check into the lowest free slot and WEIGHT_UNBIND frees a slot (R306, R322, R323, R327, R365).
SEC_IMPORT and SEC_EXPORT run over an OPEN bounce range of the composition and wait; SEC_IMPORT_EXPORT_DONE sends the
oldest one's answer; MAC_REKEY_DONE starts every version counter of its extent again under a new key (R312, R313, R319).
R365: once a slot is nonzero, FM_KEY_SET in session 0, or in a session of another class, is refused. -/
def Obligations.SecurityCommandsComplete : Prop :=
  (∀ (s t : State) (c : Ctx), s.starts t c (Cmd.any 0x5002 Legal.A) Target.none →
    exec (.secStatus c) s = .next
      (({ t with draws := t.draws + 1, nirod := { t.nirod with nonce := some (BitVec.ofNat 256 t.random) } } : State).reply c
        0x5002 St.OK [.num t.sec.debugSt.code, .num t.sec.svn, .num t.sec.identityGen, .digest (BitVec.ofNat 256 t.random)]))
  ∧ (∀ (s t : State) (c : Ctx) (n : Nat), s.starts t c (Cmd.any 0x5003 Legal.R) Target.none →
    t.sec.identityValid = true → n ≤ t.sec.svn → t.sec.chainKey = true →
    exec (.secBindkeyGet c n) s = .next (t.reply c 0x5003 St.OK
      [.bytes (Config.bindingKey n), .bytes (Config.dikSign t.sec.identityGen (Config.bindingKey n))]))
  ∧ (∀ (s t : State) (c : Ctx) (n : Nat) (d : Digest), c.session ≠ 0 → s.starts t c (Cmd.f 0x500B Legal.BR) Target.none →
    n ≤ 3 →
    exec (.fmKeySet c n d) s = .next ((t.modNirod fun x => { x with fmKeys := x.fmKeys.put n d }).reply c 0x500B St.OK []))
  ∧ (∀ (s t : State) (c : Ctx) (n : Nat) (d : Digest), c.session = 0 → (∀ q ∈ s.nirod.fmKeys, q.2 = 0) →
    s.starts t c { Cmd.f 0x500B Legal.BR with open_ := true } Target.none → n ≤ 3 →
    exec (.fmKeySet c n d) s = .next ((t.modNirod fun x => { x with fmKeys := x.fmKeys.put n d }).reply c 0x500B St.OK []))
  ∧ (∀ (s t : State) (c : Ctx) (h a e off n k : Nat) (y : Comp) (x : Extent) (b : List Byte) (sl : BindSlot),
    s.starts t c (Cmd.fo 0x5004 Legal.S) (Target.ofComp h) → t.comp h = some y → t.findExtent h a 128 = some (e, off) →
    t.extent e = some x → x.state ≠ .revoking → x.state ≠ .revoked → x.isProtected = false →
    n = brCount (t.readPool e off 128) → 1 ≤ n → n ≤ 64 → off + brSize n ≤ x.size → x.poisoned off (brSize n) = false →
    b = t.readPool e off (brSize n) → bindRefused t y b true true = none → y.bindSlots.lowestFree 0 16 = some k →
    sl = { weightDigest := digestOf ((b.drop 8).take 32), imported := [], nextSeq := 0 } →
    exec (.weightBind c h a true true) s = .next
      ((t.modComp h fun y => { y with bindSlots := y.bindSlots.put k sl }).reply c 0x5004 St.OK [.num k]))
  ∧ (∀ (s t : State) (c : Ctx) (h k : Nat) (y : Comp), s.starts t c (Cmd.fo 0x5005 Legal.L) (Target.ofComp h) →
    t.comp h = some y → k ≤ 15 → y.bindSlots.has k = true →
    exec (.weightUnbind c h k) s = .next
      ((t.modComp h fun y => { y with bindSlots := y.bindSlots.del k }).reply c 0x5005 St.OK []))
  ∧ (∀ (s t : State) (c : Ctx) (h b len d be bo : Nat) (sl : Option Nat) (tags : List Bool) (y : Comp) (x : Extent),
    s.starts t c ⟨0x5006, false, true, false, false, Legal.L, 1, 1⟩ { Target.ofComp h with extent := some d } →
    t.comp h = some y → len ≠ 0 → t.bounce h b len false = .inr (be, bo) → t.extent d = some x → x.comp = h →
    x.isProtected = true → x.state = .active → (∀ k, sl = some k → y.bindSlots.has k = true) →
    exec (.secImport c h b len d sl tags) s = .next (runImport c h be bo len d sl tags t))
  ∧ (∀ (s t : State) (c : Ctx) (h a len b se so be bo k n0 : Nat) (y : Comp) (x : Extent) (m : Exporting),
    s.starts t c ⟨0x5007, false, true, false, false, Legal.L, 1, 1⟩ (Target.ofComp h) → t.comp h = some y → len ≠ 0 →
    len % 128 = 0 → t.findExtent h a len = some (se, so) → t.extent se = some x → x.state ≠ .revoking →
    x.state ≠ .revoked → x.isProtected = true → so % 128 = 0 → k = (len + 1048575) / 1048576 →
    t.bounce h b (len + 64 * k) true = .inr (be, bo) → x.poisoned so len = false →
    n0 = ((t.nirod.sessions.look c.session).map Session.exportSeq).getD 0 → n0 + k < 2 ^ 32 →
    m = (List.range k).foldl (fun m _ => exportChunk se so len be bo (sessionKey c.session exportLabel) m)
      { state := t, taken := 0, written := 0, seq := n0 } →
    exec (.secExport c h a len b) s = .next
      ((m.state.modSession c.session fun x => { x with exportSeq := m.seq }).keepIo c St.OK [.num m.written, .num m.seq]))
  ∧ (∀ (s : State) (i q st : Nat) (items : List Item) (l : List (Nat × Nat × Nat × List Item)) (x : Session) (r : Running),
    s.pool.ioRunning = (i, q, st, items) :: l → s.nirod.sessions.look i = some x →
    (x.running.find? fun r => r.seq == q) = some r →
    exec .secImportExportDone s = .next
      ((s.modPool fun p => { p with ioRunning := l }).reply { session := i, seq := q, badItem := none } r.opcode st items))
  ∧ (∀ (s : State) (e : Nat) (x : Extent), s.extent e = some x → x.rekeying = true →
    exec (.macRekeyDone e) s = .next
      (((s.modExtent e fun x => { x with macGen := x.macGen + 1, counters := [], rekeying := false }).modTx fun t => { t with
          steps := t.steps.each fun _ q => if q.extent = e ∧ q.wait = .rekey then { q with wait := .order } else q }).settle))
  ∧ (∀ (s : State) (c : Ctx) (n : Nat) (d : Digest) (q : Nat × Digest), c.session = 0 → c.seq = 0 →
    q ∈ s.nirod.fmKeys → q.2 ≠ 0 → s.controlUp = true → s.fw.romOnly = false →
    exec (.fmKeySet c n d) s = .next (s.reply c 0x500B St.NOT_AUTHORISED []))
  ∧ (∀ (s t : State) (c : Ctx) (n : Nat) (d : Digest), c.session ≠ 0 → s.controlUp = true → s.fw.romOnly = false →
    s.waits c = true ∨ (s.stepSix c.session c.seq 0x500B Target.none).1 = true → t = s.taken c 0x500B Target.none →
    t.dev.restarting.getLsbD (t.coreFor c.session) = false → t.classOf c ≠ some .fabricManager →
    exec (.fmKeySet c n d) s = .next (t.reply c 0x500B St.NOT_AUTHORISED []))

/-- FT_MANAGER_SET registers managers and a quorum of more than half; EXPEL applies a signed message within its budget
and quarantines beyond it; READMIT takes the entry away; the lists and scores are answered; FT_INJECT plans a rehearsal
of an eligible unit, which is carried out at its time; a second's end scores every port and neighbour. R352: a port's
second scores 1,000 less the penalties of Table FT-5, never below 0, and 0 while the port is not UP; its PORT_SCORE is
the lowest of the scores kept. R353: a quorum outside its range fails with ST_INVALID_PARAM, and a later set without the
signatures of a quorum of the current managers is refused. -/
def Obligations.FaultManagementCompletes : Prop :=
  (∀ (s t : State) (c : Ctx) (l : List Digest) (q : Nat) (g : List Signed), s.starts t c (Cmd.f 0x4101 Legal.C) Target.none →
    1 ≤ l.length → l.length ≤ 7 → l.length / 2 + 1 ≤ q → q ≤ l.length →
    t.ft.managers = [] ∨ t.ft.quorum ≤ t.validSigners g →
    exec (.ftManagerSet c l q g) s = .next
      (({ t with ft := { t.ft with managers := l, quorum := q } } : State).reply c 0x4101 St.OK []))
  ∧ (∀ (s t : State) (c : Ctx) (r : ExpelReq), s.starts t c (Cmd.f 0x4102 Legal.C) Target.none → expelCheck 0 r t = none →
    (t.dropEntry r).ft.expelled.length < 64 → t.budgetUsed r < t.field Reg.FT_EXPEL_CFG 7 0 →
    ∃ u, u = (((t.dropEntry r).keepApplied 0 r).bump Reg.FT_CNT_EXPEL).modFt (fun f => { f with
        recent := f.recent.filter (fun q => decide (t.clk.timeNs < q.2.2 + 3600000000000)) ++ [(r.node, r.linkId, t.clk.timeNs)]
        expelled := f.expelled ++ [{ node := r.node, linkId := r.linkId, quarantine := false, timeNs := t.clk.timeNs }] })
      ∧ exec (.expel c r) s = .next (((u.cutOff r false).occur Ev.FT_EXPEL_APPLIED r.node 0).reply c 0x4102 St.OK [.num 0]))
  ∧ (∀ (s t : State) (c : Ctx) (r : ExpelReq), s.starts t c (Cmd.f 0x4102 Legal.C) Target.none → expelCheck 0 r t = none →
    (t.dropEntry r).ft.expelled.length < 64 → t.field Reg.FT_EXPEL_CFG 7 0 ≤ t.budgetUsed r →
    ∃ u, u = ((((t.dropEntry r).keepApplied 0 r).bump Reg.FT_CNT_EXPEL).bump Reg.FT_CNT_DEMOTED).modFt (fun f => { f with
        expelled := f.expelled ++ [{ node := r.node, linkId := r.linkId, quarantine := true, timeNs := t.clk.timeNs }] })
      ∧ exec (.expel c r) s = .next (((u.cutOff r true).occur Ev.FT_QUARANTINE_APPLIED r.node 0).reply c 0x4102 St.OK [.num 1]))
  ∧ (∀ (s t : State) (c : Ctx) (r : ExpelReq) (e : ExpelEntry), s.starts t c (Cmd.f 0x4103 Legal.C) Target.none →
    expelCheck 1 r t = none → t.expelFor r = some e →
    exec (.readmit c r) s = .next
      ((((t.dropEntry r).keepApplied 1 r).announceRoutes).reply c 0x4103 St.OK [.num (b2n e.quarantine)]))
  ∧ (∀ (s t : State) (c : Ctx), s.starts t c (Cmd.f 0x4104 Legal.R) Target.none →
    exec (.ftExpelList c) s = .next (t.reply c 0x4104 St.OK
      (t.ft.expelled.flatMap fun e => [.num e.node, .num e.linkId.toNat, .num (b2n e.quarantine), .num e.timeNs])))
  ∧ (∀ (s t : State) (c : Ctx), s.starts t c (Cmd.f 0x4105 Legal.R) Target.none →
    ∃ l : List Nat, exec (.ftHealthGet c) s = .next (t.reply c 0x4105 St.OK (l.map .num))
      ∧ ∀ q ∈ t.links, q.1 ∈ l ∧ q.2.portScore ∈ l)
  ∧ (∀ (s t : State) (c : Ctx) (cls unit leaf start count gap : Nat) (i : Inject), s.starts t c (Cmd.f 0xF002 Legal.RS) Target.none →
    1 ≤ count → count ≤ 1000 → 1 ≤ gap → gap ≤ 16777215 → t.rehearsable cls unit leaf = true →
    i = { cls := cls, unit := unit, leaf := leaf, nextNs := start, left := count, intervalUs := gap } →
    exec (.ftInject c cls unit leaf start count gap) s = .next
      ((t.modFt fun f => { f with
          injects := f.injects.put t.ft.nextInject i
          nextInject := t.ft.nextInject + 1 }).reply c 0xF002 St.OK [.num t.ft.nextInject]))
  ∧ (∀ (s t u : State) (h : Nat) (i : Inject), s.ft.injects.look h = some i → t = s.advanceTo i.nextNs →
    u = t.modFt (fun f => { f with
      injects := if i.left ≤ 1 then t.ft.injects.del h
        else t.ft.injects.put h { i with left := i.left - 1, nextNs := i.nextNs + 1000 * i.intervalUs } }) →
    u.rehearsable i.cls i.unit i.leaf = true →
    exec (.rehearsalInjection h) s = .next ((u.inject i).bump Reg.FT_CNT_REHEARSAL))
  ∧ (∀ (s t : State), t = s.links.foldl (fun s q => s.scorePort q.1) s →
    exec .healthScoreTick s = .next ((t.topo.nbrs.map fun (q : Nat × Nbr) => (q.1, q.2, t.neighbourScore q.2)).foldl
      (fun s q => s.scoreNbr q.1 q.2.1 q.2.2) t))
  ∧ (∀ (l : LPort) (w : Nat), 0 < w → (l.scoreSecond w).scores.head? =
      some (if l.st = .up then 1000 - l.newPenalties.sum else 0))
  ∧ (∀ (l : LPort) (w x : Nat), x ∈ (l.scoreSecond w).scores → (l.scoreSecond w).portScore ≤ x)
  ∧ (∀ (l : LPort) (w : Nat), 0 < w → (l.scoreSecond w).portScore ∈ (l.scoreSecond w).scores)
  ∧ (∀ (s t : State) (c : Ctx) (l : List Digest) (q : Nat) (g : List Signed), s.starts t c (Cmd.f 0x4101 Legal.C) Target.none →
    1 ≤ l.length → l.length ≤ 7 → q < l.length / 2 + 1 ∨ l.length < q →
    exec (.ftManagerSet c l q g) s = .next (t.reply c 0x4101 St.INVALID_PARAM [.detail Det.FAILED_ITEM 1]))
  ∧ (∀ (s t : State) (c : Ctx) (l : List Digest) (q : Nat) (g : List Signed), s.starts t c (Cmd.f 0x4101 Legal.C) Target.none →
    1 ≤ l.length → l.length ≤ 7 → l.length / 2 + 1 ≤ q → q ≤ l.length → t.ft.managers ≠ [] →
    t.validSigners g < t.ft.quorum →
    exec (.ftManagerSet c l q g) s = .next ((t.bump Reg.SE_CNT_AUTH_FAIL).reply c 0x4101 St.BAD_SIGNATURE []))
  ∧ (∀ (s t : State) (c : Ctx) (l : List Digest) (q : Nat) (g : List Signed), s.starts t c (Cmd.f 0x4101 Legal.C) Target.none →
    l = [] ∨ 7 < l.length →
    exec (.ftManagerSet c l q g) s = .next (t.reply c 0x4101 St.INVALID_PARAM [.detail Det.FAILED_ITEM 0]))
end

