-- ==== Sys2Proof/Laws/State.lean ====
section
/-! SUPPORT. What each update of State changes, and that it changes nothing else: one theorem for each update, with one
equation for each field, so that no later proof unfolds a record update. -/

namespace Sys2Proof.Machine

@[simp] theorem modComp_fields (h : Nat) (f : Comp → Comp) (s : State) :
    (s.modComp h f).pending = s.pending ∧ (s.modComp h f).clk = s.clk ∧ (s.modComp h f).pins = s.pins
     ∧ (s.modComp h f).dev = s.dev ∧ (s.modComp h f).fw = s.fw ∧ (s.modComp h f).csr = s.csr
     ∧ (s.modComp h f).latch = s.latch ∧ (s.modComp h f).cnt = s.cnt ∧ (s.modComp h f).nirod = s.nirod
     ∧ (s.modComp h f).comps = s.comps.change h f ∧ (s.modComp h f).pool = s.pool ∧ (s.modComp h f).fmap = s.fmap
     ∧ (s.modComp h f).trays = s.trays ∧ (s.modComp h f).presses = s.presses ∧ (s.modComp h f).work = s.work
     ∧ (s.modComp h f).tx = s.tx ∧ (s.modComp h f).coh = s.coh ∧ (s.modComp h f).links = s.links
     ∧ (s.modComp h f).sw = s.sw ∧ (s.modComp h f).topo = s.topo ∧ (s.modComp h f).sec = s.sec ∧ (s.modComp h f).ft = s.ft
     ∧ (s.modComp h f).ev = s.ev ∧ (s.modComp h f).rcd = s.rcd ∧ (s.modComp h f).image = s.image
     ∧ (s.modComp h f).out = s.out ∧ (s.modComp h f).draws = s.draws := by
  simp only [State.modComp, and_self]

@[simp] theorem modPort_fields (p : Nat) (f : LPort → LPort) (s : State) :
    (s.modPort p f).pending = s.pending ∧ (s.modPort p f).clk = s.clk ∧ (s.modPort p f).pins = s.pins
     ∧ (s.modPort p f).dev = s.dev ∧ (s.modPort p f).fw = s.fw ∧ (s.modPort p f).csr = s.csr
     ∧ (s.modPort p f).latch = s.latch ∧ (s.modPort p f).cnt = s.cnt ∧ (s.modPort p f).nirod = s.nirod
     ∧ (s.modPort p f).comps = s.comps ∧ (s.modPort p f).pool = s.pool ∧ (s.modPort p f).fmap = s.fmap
     ∧ (s.modPort p f).trays = s.trays ∧ (s.modPort p f).presses = s.presses ∧ (s.modPort p f).work = s.work
     ∧ (s.modPort p f).tx = s.tx ∧ (s.modPort p f).coh = s.coh ∧ (s.modPort p f).links = s.links.change p f
     ∧ (s.modPort p f).sw = s.sw ∧ (s.modPort p f).topo = s.topo ∧ (s.modPort p f).sec = s.sec ∧ (s.modPort p f).ft = s.ft
     ∧ (s.modPort p f).ev = s.ev ∧ (s.modPort p f).rcd = s.rcd ∧ (s.modPort p f).image = s.image
     ∧ (s.modPort p f).out = s.out ∧ (s.modPort p f).draws = s.draws := by
  simp only [State.modPort, and_self]

@[simp] theorem modPress_fields (n : Nat) (f : Press → Press) (s : State) :
    (s.modPress n f).pending = s.pending ∧ (s.modPress n f).clk = s.clk ∧ (s.modPress n f).pins = s.pins
     ∧ (s.modPress n f).dev = s.dev ∧ (s.modPress n f).fw = s.fw ∧ (s.modPress n f).csr = s.csr
     ∧ (s.modPress n f).latch = s.latch ∧ (s.modPress n f).cnt = s.cnt ∧ (s.modPress n f).nirod = s.nirod
     ∧ (s.modPress n f).comps = s.comps ∧ (s.modPress n f).pool = s.pool ∧ (s.modPress n f).fmap = s.fmap
     ∧ (s.modPress n f).trays = s.trays ∧ (s.modPress n f).presses = s.presses.change n f ∧ (s.modPress n f).work = s.work
     ∧ (s.modPress n f).tx = s.tx ∧ (s.modPress n f).coh = s.coh ∧ (s.modPress n f).links = s.links
     ∧ (s.modPress n f).sw = s.sw ∧ (s.modPress n f).topo = s.topo ∧ (s.modPress n f).sec = s.sec
     ∧ (s.modPress n f).ft = s.ft ∧ (s.modPress n f).ev = s.ev ∧ (s.modPress n f).rcd = s.rcd
     ∧ (s.modPress n f).image = s.image ∧ (s.modPress n f).out = s.out ∧ (s.modPress n f).draws = s.draws := by
  simp only [State.modPress, and_self]

@[simp] theorem modDom_fields (d : Nat) (f : Domain → Domain) (s : State) :
    (s.modDom d f).pending = s.pending ∧ (s.modDom d f).clk = s.clk ∧ (s.modDom d f).pins = s.pins
     ∧ (s.modDom d f).dev = s.dev ∧ (s.modDom d f).fw = s.fw ∧ (s.modDom d f).csr = s.csr ∧ (s.modDom d f).latch = s.latch
     ∧ (s.modDom d f).cnt = s.cnt ∧ (s.modDom d f).nirod = s.nirod ∧ (s.modDom d f).comps = s.comps
     ∧ (s.modDom d f).pool = s.pool ∧ (s.modDom d f).fmap = s.fmap ∧ (s.modDom d f).trays = s.trays
     ∧ (s.modDom d f).presses = s.presses ∧ (s.modDom d f).work = s.work ∧ (s.modDom d f).tx = s.tx
     ∧ (s.modDom d f).coh = s.coh.change d f ∧ (s.modDom d f).links = s.links ∧ (s.modDom d f).sw = s.sw
     ∧ (s.modDom d f).topo = s.topo ∧ (s.modDom d f).sec = s.sec ∧ (s.modDom d f).ft = s.ft ∧ (s.modDom d f).ev = s.ev
     ∧ (s.modDom d f).rcd = s.rcd ∧ (s.modDom d f).image = s.image ∧ (s.modDom d f).out = s.out
     ∧ (s.modDom d f).draws = s.draws := by
  simp only [State.modDom, and_self]

@[simp] theorem modPool_fields (f : Pool → Pool) (s : State) :
    (s.modPool f).pending = s.pending ∧ (s.modPool f).clk = s.clk ∧ (s.modPool f).pins = s.pins
     ∧ (s.modPool f).dev = s.dev ∧ (s.modPool f).fw = s.fw ∧ (s.modPool f).csr = s.csr ∧ (s.modPool f).latch = s.latch
     ∧ (s.modPool f).cnt = s.cnt ∧ (s.modPool f).nirod = s.nirod ∧ (s.modPool f).comps = s.comps
     ∧ (s.modPool f).pool = f s.pool ∧ (s.modPool f).fmap = s.fmap ∧ (s.modPool f).trays = s.trays
     ∧ (s.modPool f).presses = s.presses ∧ (s.modPool f).work = s.work ∧ (s.modPool f).tx = s.tx
     ∧ (s.modPool f).coh = s.coh ∧ (s.modPool f).links = s.links ∧ (s.modPool f).sw = s.sw ∧ (s.modPool f).topo = s.topo
     ∧ (s.modPool f).sec = s.sec ∧ (s.modPool f).ft = s.ft ∧ (s.modPool f).ev = s.ev ∧ (s.modPool f).rcd = s.rcd
     ∧ (s.modPool f).image = s.image ∧ (s.modPool f).out = s.out ∧ (s.modPool f).draws = s.draws := by
  simp only [State.modPool, and_self]

@[simp] theorem modExtent_fields (e : Nat) (f : Extent → Extent) (s : State) :
    (s.modExtent e f).pending = s.pending ∧ (s.modExtent e f).clk = s.clk ∧ (s.modExtent e f).pins = s.pins
     ∧ (s.modExtent e f).dev = s.dev ∧ (s.modExtent e f).fw = s.fw ∧ (s.modExtent e f).csr = s.csr
     ∧ (s.modExtent e f).latch = s.latch ∧ (s.modExtent e f).cnt = s.cnt ∧ (s.modExtent e f).nirod = s.nirod
     ∧ (s.modExtent e f).comps = s.comps ∧ (s.modExtent e f).pool = { s.pool with extents := s.pool.extents.change e f }
     ∧ (s.modExtent e f).fmap = s.fmap ∧ (s.modExtent e f).trays = s.trays ∧ (s.modExtent e f).presses = s.presses
     ∧ (s.modExtent e f).work = s.work ∧ (s.modExtent e f).tx = s.tx ∧ (s.modExtent e f).coh = s.coh
     ∧ (s.modExtent e f).links = s.links ∧ (s.modExtent e f).sw = s.sw ∧ (s.modExtent e f).topo = s.topo
     ∧ (s.modExtent e f).sec = s.sec ∧ (s.modExtent e f).ft = s.ft ∧ (s.modExtent e f).ev = s.ev
     ∧ (s.modExtent e f).rcd = s.rcd ∧ (s.modExtent e f).image = s.image ∧ (s.modExtent e f).out = s.out
     ∧ (s.modExtent e f).draws = s.draws := by
  simp only [State.modExtent, and_self]

@[simp] theorem modWork_fields (f : Work → Work) (s : State) :
    (s.modWork f).pending = s.pending ∧ (s.modWork f).clk = s.clk ∧ (s.modWork f).pins = s.pins
     ∧ (s.modWork f).dev = s.dev ∧ (s.modWork f).fw = s.fw ∧ (s.modWork f).csr = s.csr ∧ (s.modWork f).latch = s.latch
     ∧ (s.modWork f).cnt = s.cnt ∧ (s.modWork f).nirod = s.nirod ∧ (s.modWork f).comps = s.comps
     ∧ (s.modWork f).pool = s.pool ∧ (s.modWork f).fmap = s.fmap ∧ (s.modWork f).trays = s.trays
     ∧ (s.modWork f).presses = s.presses ∧ (s.modWork f).work = f s.work ∧ (s.modWork f).tx = s.tx
     ∧ (s.modWork f).coh = s.coh ∧ (s.modWork f).links = s.links ∧ (s.modWork f).sw = s.sw ∧ (s.modWork f).topo = s.topo
     ∧ (s.modWork f).sec = s.sec ∧ (s.modWork f).ft = s.ft ∧ (s.modWork f).ev = s.ev ∧ (s.modWork f).rcd = s.rcd
     ∧ (s.modWork f).image = s.image ∧ (s.modWork f).out = s.out ∧ (s.modWork f).draws = s.draws := by
  simp only [State.modWork, and_self]

@[simp] theorem modOp_fields (o : Nat) (f : Op → Op) (s : State) :
    (s.modOp o f).pending = s.pending ∧ (s.modOp o f).clk = s.clk ∧ (s.modOp o f).pins = s.pins
     ∧ (s.modOp o f).dev = s.dev ∧ (s.modOp o f).fw = s.fw ∧ (s.modOp o f).csr = s.csr ∧ (s.modOp o f).latch = s.latch
     ∧ (s.modOp o f).cnt = s.cnt ∧ (s.modOp o f).nirod = s.nirod ∧ (s.modOp o f).comps = s.comps
     ∧ (s.modOp o f).pool = s.pool ∧ (s.modOp o f).fmap = s.fmap ∧ (s.modOp o f).trays = s.trays
     ∧ (s.modOp o f).presses = s.presses ∧ (s.modOp o f).work = { s.work with ops := s.work.ops.change o f }
     ∧ (s.modOp o f).tx = s.tx ∧ (s.modOp o f).coh = s.coh ∧ (s.modOp o f).links = s.links ∧ (s.modOp o f).sw = s.sw
     ∧ (s.modOp o f).topo = s.topo ∧ (s.modOp o f).sec = s.sec ∧ (s.modOp o f).ft = s.ft ∧ (s.modOp o f).ev = s.ev
     ∧ (s.modOp o f).rcd = s.rcd ∧ (s.modOp o f).image = s.image ∧ (s.modOp o f).out = s.out
     ∧ (s.modOp o f).draws = s.draws := by
  simp only [State.modOp, and_self]

@[simp] theorem modSeed_fields (i : Nat) (f : Seed → Seed) (s : State) :
    (s.modSeed i f).pending = s.pending ∧ (s.modSeed i f).clk = s.clk ∧ (s.modSeed i f).pins = s.pins
     ∧ (s.modSeed i f).dev = s.dev ∧ (s.modSeed i f).fw = s.fw ∧ (s.modSeed i f).csr = s.csr
     ∧ (s.modSeed i f).latch = s.latch ∧ (s.modSeed i f).cnt = s.cnt ∧ (s.modSeed i f).nirod = s.nirod
     ∧ (s.modSeed i f).comps = s.comps ∧ (s.modSeed i f).pool = s.pool ∧ (s.modSeed i f).fmap = s.fmap
     ∧ (s.modSeed i f).trays = s.trays ∧ (s.modSeed i f).presses = s.presses
     ∧ (s.modSeed i f).work = { s.work with seeds := s.work.seeds.change i f } ∧ (s.modSeed i f).tx = s.tx
     ∧ (s.modSeed i f).coh = s.coh ∧ (s.modSeed i f).links = s.links ∧ (s.modSeed i f).sw = s.sw
     ∧ (s.modSeed i f).topo = s.topo ∧ (s.modSeed i f).sec = s.sec ∧ (s.modSeed i f).ft = s.ft ∧ (s.modSeed i f).ev = s.ev
     ∧ (s.modSeed i f).rcd = s.rcd ∧ (s.modSeed i f).image = s.image ∧ (s.modSeed i f).out = s.out
     ∧ (s.modSeed i f).draws = s.draws := by
  simp only [State.modSeed, and_self]

@[simp] theorem modTx_fields (f : Tx → Tx) (s : State) :
    (s.modTx f).pending = s.pending ∧ (s.modTx f).clk = s.clk ∧ (s.modTx f).pins = s.pins ∧ (s.modTx f).dev = s.dev
     ∧ (s.modTx f).fw = s.fw ∧ (s.modTx f).csr = s.csr ∧ (s.modTx f).latch = s.latch ∧ (s.modTx f).cnt = s.cnt
     ∧ (s.modTx f).nirod = s.nirod ∧ (s.modTx f).comps = s.comps ∧ (s.modTx f).pool = s.pool ∧ (s.modTx f).fmap = s.fmap
     ∧ (s.modTx f).trays = s.trays ∧ (s.modTx f).presses = s.presses ∧ (s.modTx f).work = s.work ∧ (s.modTx f).tx = f s.tx
     ∧ (s.modTx f).coh = s.coh ∧ (s.modTx f).links = s.links ∧ (s.modTx f).sw = s.sw ∧ (s.modTx f).topo = s.topo
     ∧ (s.modTx f).sec = s.sec ∧ (s.modTx f).ft = s.ft ∧ (s.modTx f).ev = s.ev ∧ (s.modTx f).rcd = s.rcd
     ∧ (s.modTx f).image = s.image ∧ (s.modTx f).out = s.out ∧ (s.modTx f).draws = s.draws := by
  simp only [State.modTx, and_self]

@[simp] theorem modDev_fields (f : Device → Device) (s : State) :
    (s.modDev f).pending = s.pending ∧ (s.modDev f).clk = s.clk ∧ (s.modDev f).pins = s.pins ∧ (s.modDev f).dev = f s.dev
     ∧ (s.modDev f).fw = s.fw ∧ (s.modDev f).csr = s.csr ∧ (s.modDev f).latch = s.latch ∧ (s.modDev f).cnt = s.cnt
     ∧ (s.modDev f).nirod = s.nirod ∧ (s.modDev f).comps = s.comps ∧ (s.modDev f).pool = s.pool
     ∧ (s.modDev f).fmap = s.fmap ∧ (s.modDev f).trays = s.trays ∧ (s.modDev f).presses = s.presses
     ∧ (s.modDev f).work = s.work ∧ (s.modDev f).tx = s.tx ∧ (s.modDev f).coh = s.coh ∧ (s.modDev f).links = s.links
     ∧ (s.modDev f).sw = s.sw ∧ (s.modDev f).topo = s.topo ∧ (s.modDev f).sec = s.sec ∧ (s.modDev f).ft = s.ft
     ∧ (s.modDev f).ev = s.ev ∧ (s.modDev f).rcd = s.rcd ∧ (s.modDev f).image = s.image ∧ (s.modDev f).out = s.out
     ∧ (s.modDev f).draws = s.draws := by
  simp only [State.modDev, and_self]

@[simp] theorem modFw_fields (f : Firmware → Firmware) (s : State) :
    (s.modFw f).pending = s.pending ∧ (s.modFw f).clk = s.clk ∧ (s.modFw f).pins = s.pins ∧ (s.modFw f).dev = s.dev
     ∧ (s.modFw f).fw = f s.fw ∧ (s.modFw f).csr = s.csr ∧ (s.modFw f).latch = s.latch ∧ (s.modFw f).cnt = s.cnt
     ∧ (s.modFw f).nirod = s.nirod ∧ (s.modFw f).comps = s.comps ∧ (s.modFw f).pool = s.pool ∧ (s.modFw f).fmap = s.fmap
     ∧ (s.modFw f).trays = s.trays ∧ (s.modFw f).presses = s.presses ∧ (s.modFw f).work = s.work ∧ (s.modFw f).tx = s.tx
     ∧ (s.modFw f).coh = s.coh ∧ (s.modFw f).links = s.links ∧ (s.modFw f).sw = s.sw ∧ (s.modFw f).topo = s.topo
     ∧ (s.modFw f).sec = s.sec ∧ (s.modFw f).ft = s.ft ∧ (s.modFw f).ev = s.ev ∧ (s.modFw f).rcd = s.rcd
     ∧ (s.modFw f).image = s.image ∧ (s.modFw f).out = s.out ∧ (s.modFw f).draws = s.draws := by
  simp only [State.modFw, and_self]

@[simp] theorem modSw_fields (f : Switch → Switch) (s : State) :
    (s.modSw f).pending = s.pending ∧ (s.modSw f).clk = s.clk ∧ (s.modSw f).pins = s.pins ∧ (s.modSw f).dev = s.dev
     ∧ (s.modSw f).fw = s.fw ∧ (s.modSw f).csr = s.csr ∧ (s.modSw f).latch = s.latch ∧ (s.modSw f).cnt = s.cnt
     ∧ (s.modSw f).nirod = s.nirod ∧ (s.modSw f).comps = s.comps ∧ (s.modSw f).pool = s.pool ∧ (s.modSw f).fmap = s.fmap
     ∧ (s.modSw f).trays = s.trays ∧ (s.modSw f).presses = s.presses ∧ (s.modSw f).work = s.work ∧ (s.modSw f).tx = s.tx
     ∧ (s.modSw f).coh = s.coh ∧ (s.modSw f).links = s.links ∧ (s.modSw f).sw = f s.sw ∧ (s.modSw f).topo = s.topo
     ∧ (s.modSw f).sec = s.sec ∧ (s.modSw f).ft = s.ft ∧ (s.modSw f).ev = s.ev ∧ (s.modSw f).rcd = s.rcd
     ∧ (s.modSw f).image = s.image ∧ (s.modSw f).out = s.out ∧ (s.modSw f).draws = s.draws := by
  simp only [State.modSw, and_self]

@[simp] theorem modEv_fields (f : Evc → Evc) (s : State) :
    (s.modEv f).pending = s.pending ∧ (s.modEv f).clk = s.clk ∧ (s.modEv f).pins = s.pins ∧ (s.modEv f).dev = s.dev
     ∧ (s.modEv f).fw = s.fw ∧ (s.modEv f).csr = s.csr ∧ (s.modEv f).latch = s.latch ∧ (s.modEv f).cnt = s.cnt
     ∧ (s.modEv f).nirod = s.nirod ∧ (s.modEv f).comps = s.comps ∧ (s.modEv f).pool = s.pool ∧ (s.modEv f).fmap = s.fmap
     ∧ (s.modEv f).trays = s.trays ∧ (s.modEv f).presses = s.presses ∧ (s.modEv f).work = s.work ∧ (s.modEv f).tx = s.tx
     ∧ (s.modEv f).coh = s.coh ∧ (s.modEv f).links = s.links ∧ (s.modEv f).sw = s.sw ∧ (s.modEv f).topo = s.topo
     ∧ (s.modEv f).sec = s.sec ∧ (s.modEv f).ft = s.ft ∧ (s.modEv f).ev = f s.ev ∧ (s.modEv f).rcd = s.rcd
     ∧ (s.modEv f).image = s.image ∧ (s.modEv f).out = s.out ∧ (s.modEv f).draws = s.draws := by
  simp only [State.modEv, and_self]

@[simp] theorem modFt_fields (f : Ft → Ft) (s : State) :
    (s.modFt f).pending = s.pending ∧ (s.modFt f).clk = s.clk ∧ (s.modFt f).pins = s.pins ∧ (s.modFt f).dev = s.dev
     ∧ (s.modFt f).fw = s.fw ∧ (s.modFt f).csr = s.csr ∧ (s.modFt f).latch = s.latch ∧ (s.modFt f).cnt = s.cnt
     ∧ (s.modFt f).nirod = s.nirod ∧ (s.modFt f).comps = s.comps ∧ (s.modFt f).pool = s.pool ∧ (s.modFt f).fmap = s.fmap
     ∧ (s.modFt f).trays = s.trays ∧ (s.modFt f).presses = s.presses ∧ (s.modFt f).work = s.work ∧ (s.modFt f).tx = s.tx
     ∧ (s.modFt f).coh = s.coh ∧ (s.modFt f).links = s.links ∧ (s.modFt f).sw = s.sw ∧ (s.modFt f).topo = s.topo
     ∧ (s.modFt f).sec = s.sec ∧ (s.modFt f).ft = f s.ft ∧ (s.modFt f).ev = s.ev ∧ (s.modFt f).rcd = s.rcd
     ∧ (s.modFt f).image = s.image ∧ (s.modFt f).out = s.out ∧ (s.modFt f).draws = s.draws := by
  simp only [State.modFt, and_self]

@[simp] theorem modNirod_fields (f : Nirod → Nirod) (s : State) :
    (s.modNirod f).pending = s.pending ∧ (s.modNirod f).clk = s.clk ∧ (s.modNirod f).pins = s.pins
     ∧ (s.modNirod f).dev = s.dev ∧ (s.modNirod f).fw = s.fw ∧ (s.modNirod f).csr = s.csr ∧ (s.modNirod f).latch = s.latch
     ∧ (s.modNirod f).cnt = s.cnt ∧ (s.modNirod f).nirod = f s.nirod ∧ (s.modNirod f).comps = s.comps
     ∧ (s.modNirod f).pool = s.pool ∧ (s.modNirod f).fmap = s.fmap ∧ (s.modNirod f).trays = s.trays
     ∧ (s.modNirod f).presses = s.presses ∧ (s.modNirod f).work = s.work ∧ (s.modNirod f).tx = s.tx
     ∧ (s.modNirod f).coh = s.coh ∧ (s.modNirod f).links = s.links ∧ (s.modNirod f).sw = s.sw
     ∧ (s.modNirod f).topo = s.topo ∧ (s.modNirod f).sec = s.sec ∧ (s.modNirod f).ft = s.ft ∧ (s.modNirod f).ev = s.ev
     ∧ (s.modNirod f).rcd = s.rcd ∧ (s.modNirod f).image = s.image ∧ (s.modNirod f).out = s.out
     ∧ (s.modNirod f).draws = s.draws := by
  simp only [State.modNirod, and_self]

@[simp] theorem modSession_fields (i : Nat) (f : Session → Session) (s : State) :
    (s.modSession i f).pending = s.pending ∧ (s.modSession i f).clk = s.clk ∧ (s.modSession i f).pins = s.pins
     ∧ (s.modSession i f).dev = s.dev ∧ (s.modSession i f).fw = s.fw ∧ (s.modSession i f).csr = s.csr
     ∧ (s.modSession i f).latch = s.latch ∧ (s.modSession i f).cnt = s.cnt
     ∧ (s.modSession i f).nirod = { s.nirod with sessions := s.nirod.sessions.change i f }
     ∧ (s.modSession i f).comps = s.comps ∧ (s.modSession i f).pool = s.pool ∧ (s.modSession i f).fmap = s.fmap
     ∧ (s.modSession i f).trays = s.trays ∧ (s.modSession i f).presses = s.presses ∧ (s.modSession i f).work = s.work
     ∧ (s.modSession i f).tx = s.tx ∧ (s.modSession i f).coh = s.coh ∧ (s.modSession i f).links = s.links
     ∧ (s.modSession i f).sw = s.sw ∧ (s.modSession i f).topo = s.topo ∧ (s.modSession i f).sec = s.sec
     ∧ (s.modSession i f).ft = s.ft ∧ (s.modSession i f).ev = s.ev ∧ (s.modSession i f).rcd = s.rcd
     ∧ (s.modSession i f).image = s.image ∧ (s.modSession i f).out = s.out ∧ (s.modSession i f).draws = s.draws := by
  simp only [State.modSession, and_self]

@[simp] theorem bumpBy_fields (a n : Nat) (s : State) :
    (s.bumpBy a n).pending = s.pending ∧ (s.bumpBy a n).clk = s.clk ∧ (s.bumpBy a n).pins = s.pins
     ∧ (s.bumpBy a n).dev = s.dev ∧ (s.bumpBy a n).fw = s.fw ∧ (s.bumpBy a n).csr = s.csr ∧ (s.bumpBy a n).latch = s.latch
     ∧ (s.bumpBy a n).cnt = addCtr s.cnt a n ∧ (s.bumpBy a n).nirod = s.nirod ∧ (s.bumpBy a n).comps = s.comps
     ∧ (s.bumpBy a n).pool = s.pool ∧ (s.bumpBy a n).fmap = s.fmap ∧ (s.bumpBy a n).trays = s.trays
     ∧ (s.bumpBy a n).presses = s.presses ∧ (s.bumpBy a n).work = s.work ∧ (s.bumpBy a n).tx = s.tx
     ∧ (s.bumpBy a n).coh = s.coh ∧ (s.bumpBy a n).links = s.links ∧ (s.bumpBy a n).sw = s.sw
     ∧ (s.bumpBy a n).topo = s.topo ∧ (s.bumpBy a n).sec = s.sec ∧ (s.bumpBy a n).ft = s.ft ∧ (s.bumpBy a n).ev = s.ev
     ∧ (s.bumpBy a n).rcd = s.rcd ∧ (s.bumpBy a n).image = s.image ∧ (s.bumpBy a n).out = s.out
     ∧ (s.bumpBy a n).draws = s.draws := by
  simp only [State.bumpBy, and_self]

@[simp] theorem bump_fields (a : Nat) (s : State) :
    (s.bump a).pending = s.pending ∧ (s.bump a).clk = s.clk ∧ (s.bump a).pins = s.pins ∧ (s.bump a).dev = s.dev
     ∧ (s.bump a).fw = s.fw ∧ (s.bump a).csr = s.csr ∧ (s.bump a).latch = s.latch ∧ (s.bump a).cnt = addCtr s.cnt a 1
     ∧ (s.bump a).nirod = s.nirod ∧ (s.bump a).comps = s.comps ∧ (s.bump a).pool = s.pool ∧ (s.bump a).fmap = s.fmap
     ∧ (s.bump a).trays = s.trays ∧ (s.bump a).presses = s.presses ∧ (s.bump a).work = s.work ∧ (s.bump a).tx = s.tx
     ∧ (s.bump a).coh = s.coh ∧ (s.bump a).links = s.links ∧ (s.bump a).sw = s.sw ∧ (s.bump a).topo = s.topo
     ∧ (s.bump a).sec = s.sec ∧ (s.bump a).ft = s.ft ∧ (s.bump a).ev = s.ev ∧ (s.bump a).rcd = s.rcd
     ∧ (s.bump a).image = s.image ∧ (s.bump a).out = s.out ∧ (s.bump a).draws = s.draws := by
  simp only [State.bump, State.bumpBy, and_self]

@[simp] theorem setReg_fields (a v : Nat) (s : State) :
    (s.setReg a v).pending = s.pending ∧ (s.setReg a v).clk = s.clk ∧ (s.setReg a v).pins = s.pins
     ∧ (s.setReg a v).dev = s.dev ∧ (s.setReg a v).fw = s.fw ∧ (s.setReg a v).csr = s.csr.put a (BitVec.ofNat 32 v)
     ∧ (s.setReg a v).latch = s.latch ∧ (s.setReg a v).cnt = s.cnt ∧ (s.setReg a v).nirod = s.nirod
     ∧ (s.setReg a v).comps = s.comps ∧ (s.setReg a v).pool = s.pool ∧ (s.setReg a v).fmap = s.fmap
     ∧ (s.setReg a v).trays = s.trays ∧ (s.setReg a v).presses = s.presses ∧ (s.setReg a v).work = s.work
     ∧ (s.setReg a v).tx = s.tx ∧ (s.setReg a v).coh = s.coh ∧ (s.setReg a v).links = s.links ∧ (s.setReg a v).sw = s.sw
     ∧ (s.setReg a v).topo = s.topo ∧ (s.setReg a v).sec = s.sec ∧ (s.setReg a v).ft = s.ft ∧ (s.setReg a v).ev = s.ev
     ∧ (s.setReg a v).rcd = s.rcd ∧ (s.setReg a v).image = s.image ∧ (s.setReg a v).out = s.out
     ∧ (s.setReg a v).draws = s.draws := by
  simp only [State.setReg, and_self]

@[simp] theorem emit_fields (e : Emit) (s : State) :
    (s.emit e).pending = s.pending ∧ (s.emit e).clk = s.clk ∧ (s.emit e).pins = s.pins ∧ (s.emit e).dev = s.dev
     ∧ (s.emit e).fw = s.fw ∧ (s.emit e).csr = s.csr ∧ (s.emit e).latch = s.latch ∧ (s.emit e).cnt = s.cnt
     ∧ (s.emit e).nirod = s.nirod ∧ (s.emit e).comps = s.comps ∧ (s.emit e).pool = s.pool ∧ (s.emit e).fmap = s.fmap
     ∧ (s.emit e).trays = s.trays ∧ (s.emit e).presses = s.presses ∧ (s.emit e).work = s.work ∧ (s.emit e).tx = s.tx
     ∧ (s.emit e).coh = s.coh ∧ (s.emit e).links = s.links ∧ (s.emit e).sw = s.sw ∧ (s.emit e).topo = s.topo
     ∧ (s.emit e).sec = s.sec ∧ (s.emit e).ft = s.ft ∧ (s.emit e).ev = s.ev ∧ (s.emit e).rcd = s.rcd
     ∧ (s.emit e).image = s.image ∧ (s.emit e).out = s.out ++ [e] ∧ (s.emit e).draws = s.draws := by
  simp only [State.emit, and_self]

@[simp] theorem drawn_fields (s : State) :
    (s.drawn).pending = s.pending ∧ (s.drawn).clk = s.clk ∧ (s.drawn).pins = s.pins ∧ (s.drawn).dev = s.dev
     ∧ (s.drawn).fw = s.fw ∧ (s.drawn).csr = s.csr ∧ (s.drawn).latch = s.latch ∧ (s.drawn).cnt = s.cnt
     ∧ (s.drawn).nirod = s.nirod ∧ (s.drawn).comps = s.comps ∧ (s.drawn).pool = s.pool ∧ (s.drawn).fmap = s.fmap
     ∧ (s.drawn).trays = s.trays ∧ (s.drawn).presses = s.presses ∧ (s.drawn).work = s.work ∧ (s.drawn).tx = s.tx
     ∧ (s.drawn).coh = s.coh ∧ (s.drawn).links = s.links ∧ (s.drawn).sw = s.sw ∧ (s.drawn).topo = s.topo
     ∧ (s.drawn).sec = s.sec ∧ (s.drawn).ft = s.ft ∧ (s.drawn).ev = s.ev ∧ (s.drawn).rcd = s.rcd
     ∧ (s.drawn).image = s.image ∧ (s.drawn).out = s.out ∧ (s.drawn).draws = s.draws + 1 := by
  simp only [State.drawn, and_self]

end Sys2Proof.Machine
end

