-- ==== Sys2Proof/Laws/Keeps.lean ====
section
/-! SUPPORT. What sending a packet and taking one in leave alone. `Keeps s t` says that `t` has the objects of `s`: pool, map,
trays, presses, operations, domains, commands, and the transaction layer's steps, pairs, FENCEs and own requests. -/

namespace Sys2Proof.Machine

/-- The objects that no packet's way through the switch changes. -/
structure Keeps (s t : State) : Prop where
  pending : t.pending = s.pending
  dev : t.dev = s.dev
  fw : t.fw = s.fw
  csr : t.csr = s.csr
  nirod : t.nirod = s.nirod
  pool : t.pool = s.pool
  fmap : t.fmap = s.fmap
  trays : t.trays = s.trays
  presses : t.presses = s.presses
  work : t.work = s.work
  coh : t.coh = s.coh
  image : t.image = s.image
  sec : t.sec = s.sec
  ft : t.ft = s.ft
  steps : t.tx.steps = s.tx.steps
  nextStep : t.tx.nextStep = s.tx.nextStep
  pairs : t.tx.pairs = s.tx.pairs
  fences : t.tx.fences = s.tx.fences
  own : t.tx.own = s.tx.own

theorem Keeps.refl (s : State) : Keeps s s := by constructor <;> rfl

theorem Keeps.trans {s t u : State} (a : Keeps s t) (b : Keeps t u) : Keeps s u := by
  constructor
  · rw [b.pending, a.pending]
  · rw [b.dev, a.dev]
  · rw [b.fw, a.fw]
  · rw [b.csr, a.csr]
  · rw [b.nirod, a.nirod]
  · rw [b.pool, a.pool]
  · rw [b.fmap, a.fmap]
  · rw [b.trays, a.trays]
  · rw [b.presses, a.presses]
  · rw [b.work, a.work]
  · rw [b.coh, a.coh]
  · rw [b.image, a.image]
  · rw [b.sec, a.sec]
  · rw [b.ft, a.ft]
  · rw [b.steps, a.steps]
  · rw [b.nextStep, a.nextStep]
  · rw [b.pairs, a.pairs]
  · rw [b.fences, a.fences]
  · rw [b.own, a.own]

/-- Either branch of a choice. -/
theorem Keeps.ite {s u v : State} {b : Prop} [Decidable b] (hu : Keeps s u) (hv : Keeps s v) :
    Keeps s (if b then u else v) := by
  split
  · exact hu
  · exact hv

/-- A fold of updates that keep the objects keeps them. -/
theorem Keeps.foldl {α : Type} (f : State → α → State) (h : ∀ s x, Keeps s (f s x)) (l : List α) (s : State) :
    Keeps s (l.foldl f s) := by
  induction l generalizing s with
  | nil => exact Keeps.refl s
  | cons x l ih => exact (h s x).trans (ih _)

theorem keeps_bumpBy (a n : Nat) (s : State) : Keeps s (s.bumpBy a n) := by constructor <;> rfl
theorem keeps_bump (a : Nat) (s : State) : Keeps s (s.bump a) := keeps_bumpBy a 1 s
theorem keeps_emit (e : Emit) (s : State) : Keeps s (s.emit e) := by constructor <;> rfl
theorem keeps_modSw (f : Switch → Switch) (s : State) : Keeps s (s.modSw f) := by constructor <;> rfl
theorem keeps_modPort (p : Nat) (f : LPort → LPort) (s : State) : Keeps s (s.modPort p f) := by constructor <;> rfl
theorem keeps_modComp (h : Nat) (f : Comp → Comp) (s : State) : Keeps s (s.modComp h f) := by constructor <;> rfl
theorem keeps_bumpComp (h a : Nat) (s : State) : Keeps s (s.bumpComp h a) := keeps_modComp h _ s
theorem keeps_bumpPort (p a : Nat) (s : State) : Keeps s (s.bumpPort p a) := keeps_modPort p _ s

theorem keeps_checkSpillLimit (c : Nat) (s : State) : Keeps s (s.checkSpillLimit c) := by
  unfold State.checkSpillLimit
  split
  · exact Keeps.refl s
  · dsimp only
    split
    · split
      · exact Keeps.refl s
      · exact (keeps_modSw _ s).trans (keeps_bumpComp _ _ _)
    · exact keeps_modSw _ s

theorem keeps_setOvfFull (d : Nat) (b : Bool) (s : State) : Keeps s (s.setOvfFull d b) := by
  unfold State.setOvfFull
  dsimp only
  repeat' split
  all_goals constructor <;> rfl

/-- A packet that joins an egress changes the switch and its counters only. -/
theorem keeps_enqueue (lp : Nat) (p : Packet) (s : State) : Keeps s (s.enqueue lp p) := by
  unfold State.enqueue
  split
  · exact Keeps.refl s
  · rename_i l _
    dsimp only
    have h1 : Keeps s (if l.st = .fallow && !l.waking then
        (s.modPort lp fun l => { l with waking := true }).emit (.linkCtl lp 5 0) else s) :=
      Keeps.ite ((keeps_modPort _ _ s).trans (keeps_emit _ _)) (Keeps.refl s)
    split
    · exact h1.trans (keeps_modPort _ _ _)
    · exact Keeps.ite
        (((h1.trans (Keeps.ite (keeps_setOvfFull _ _ _) (Keeps.refl _))).trans (keeps_modPort _ _ _)).trans
          (keeps_checkSpillLimit _ _))
        ((h1.trans (Keeps.ite (keeps_setOvfFull _ _ _) (Keeps.refl _))).trans (keeps_modPort _ _ _))

theorem keeps_ackTrack (lp : Nat) (p : Packet) (s : State) : Keeps s (s.ackTrack lp p) := by
  unfold State.ackTrack
  split
  · exact Keeps.refl s
  · split
    · exact Keeps.refl s
    · constructor <;> rfl

theorem keeps_sendBy (lp : Nat) (p : Packet) (s : State) : Keeps s (s.sendBy lp p) := by
  unfold State.sendBy
  dsimp only
  refine Keeps.trans ?_ (keeps_enqueue _ _ _)
  split
  · split
    · exact Keeps.trans (by constructor <;> rfl) (keeps_ackTrack _ _ _)
    · constructor <;> rfl
  · constructor <;> rfl

theorem keeps_holdPacket (p : Packet) (s : State) : Keeps s (s.holdPacket p) := by constructor <;> rfl

/-- A packet that leaves by its route changes the switch, the routes and the watermarks of FENCE only. -/
theorem keeps_route (p : Packet) (e : Option Nat) (s : State) : Keeps s (s.route p e) := by
  unfold State.route
  dsimp only
  have h : Keeps s (match s.routeFor p.hdr.dst with
    | some r => if s.skipsMember p r then s.bump Reg.TP_CNT_MEMBER_SKIP else s
    | none => s) := by
    split
    · split
      · exact keeps_bump _ s
      · exact Keeps.refl s
    · exact Keeps.refl s
  split
  · exact h.trans (keeps_sendBy _ _ _)
  · exact h.trans (keeps_holdPacket _ _)

theorem keeps_respond (op : Nat) (h : Hdr) (st : Nat) (d : List Byte) (s : State) : Keeps s (s.respond op h st d) :=
  keeps_route _ _ s

theorem keeps_respondBack (op : Nat) (h : Hdr) (st : Nat) (s : State) : Keeps s (s.respondBack op h st) := by
  unfold State.respondBack
  dsimp only
  split
  · split
    · exact keeps_enqueue _ _ s
    · exact keeps_route _ _ s
  · exact keeps_route _ _ s

theorem keeps_mirrorCopy (i lp : Nat) (b : Bool) (p : Packet) (s : State) : Keeps s (s.mirrorCopy i lp b p) := by
  unfold State.mirrorCopy
  split
  · exact Keeps.refl s
  · dsimp only
    repeat' split
    all_goals first
      | exact keeps_modSw _ s
      | exact (keeps_modSw _ s).trans (keeps_bump _ _)
      | exact ((keeps_modSw _ s).trans (keeps_bump _ _)).trans (keeps_emit _ _)

theorem keeps_mirror (lp : Nat) (b : Bool) (p : Packet) (s : State) : Keeps s (s.mirror lp b p) :=
  Keeps.foldl _ (fun s i => keeps_mirrorCopy i lp b p s) _ s

theorem keeps_takeIngress (p : Packet) (s : State) : Keeps s (s.takeIngress p) :=
  (keeps_modPort _ _ s).trans (keeps_modPort _ _ _)

theorem keeps_track (lp dst c q : Nat) (s : State) : Keeps s (s.track lp dst c q) := by
  unfold State.track
  constructor <;> rfl

theorem keeps_turnAway (p : Packet) (a st : Nat) (s : State) : Keeps s (s.turnAway p a st).1 :=
  (keeps_bump a s).trans (Keeps.ite (Keeps.refl _) (keeps_respondBack _ _ _ _))

theorem keeps_admitRequest (l : LPort) (p : Packet) (c : Nat) (s : State) : Keeps s (s.admitRequest l p c).1 := by
  have k : Keeps s (
      let s := if l.role = Role.accel then s.renewMember c p.hdr.lport else s
      let s := if p.hdr.retry then s.bumpComp c Reg.TX_CNT_RETRY_SEEN else s
      if l.role = Role.accel ∧ writeClass p.opcode then s.track p.hdr.lport p.hdr.dst c p.hdr.seq else s) :=
    ((Keeps.ite (keeps_modComp _ _ s) (Keeps.refl s)).trans
      (Keeps.ite (keeps_bumpComp _ _ _) (Keeps.refl _))).trans (Keeps.ite (keeps_track _ _ _ _ _) (Keeps.refl _))
  have leave (u : State) (h : Keeps s u) :
      Keeps s (if p.hdr.dst = u.topo.node then (u, some c) else (u.route p none, none)).1 := by
    split
    · exact h
    · exact h.trans (keeps_route _ _ _)
  exact leave _ k

theorem keeps_checkRequest (l : LPort) (p : Packet) (s : State) : Keeps s (s.checkRequest l p).1 := by
  unfold State.checkRequest
  dsimp only
  split
  · exact keeps_bumpPort _ _ _
  split
  · exact keeps_bump _ _
  split
  · exact keeps_bump _ _
  split
  · exact keeps_bump _ _
  split
  · exact keeps_turnAway _ _ _ _
  split
  · exact keeps_turnAway _ _ _ _
  · exact keeps_admitRequest _ _ _ _

/-- Steps 1 to 3 of R22 change the switch, leases, counters and FENCE tracks only. -/
theorem keeps_ingress (p : Packet) (s : State) : Keeps s (s.ingress p).1 := by
  unfold State.ingress
  split
  · exact Keeps.refl s
  · split
    · exact Keeps.refl s
    · exact ((keeps_mirror _ _ _ s).trans (keeps_takeIngress _ _)).trans (keeps_checkRequest _ _ _)

end Sys2Proof.Machine
end

