-- ==== Sys2Proof/Laws/Map.lean ====
section
/-! SUPPORT. The laws of finite maps: what a lookup finds after a change, and that every change keeps the keys strictly
rising. -/

namespace Sys2Proof

variable {α β : Type}

@[simp] theorem NMap.look_nil (k : Nat) : NMap.look ([] : NMap α) k = none := rfl

@[simp] theorem NMap.look_put (m : NMap α) (k : Nat) (v : α) : (m.put k v).look k = some v := by
  induction m with
  | nil => simp [NMap.put, NMap.look]
  | cons p m ih =>
    obtain ⟨j, w⟩ := p
    simp only [NMap.put]
    split
    · simp [NMap.look]
    · split
      · simp [NMap.look]
      · rename_i h; simp only [NMap.look, if_neg h, ih]

theorem NMap.look_put_ne (m : NMap α) (k j : Nat) (v : α) (h : j ≠ k) : (m.put k v).look j = m.look j := by
  induction m with
  | nil => simp [NMap.put, NMap.look, Ne.symm h]
  | cons p m ih =>
    obtain ⟨i, w⟩ := p
    simp only [NMap.put]
    split
    · simp [NMap.look, Ne.symm h]
    · split
      · rename_i e; subst e; simp [NMap.look, Ne.symm h]
      · simp only [NMap.look, ih]

theorem NMap.look_change (m : NMap α) (k : Nat) (f : α → α) : (m.change k f).look k = (m.look k).map f := by
  unfold NMap.change
  cases h : m.look k <;> simp [h]

theorem NMap.look_change_ne (m : NMap α) (k j : Nat) (f : α → α) (h : j ≠ k) : (m.change k f).look j = m.look j := by
  unfold NMap.change
  cases m.look k with
  | none => rfl
  | some v => exact NMap.look_put_ne m k j _ h

theorem NMap.look_each (m : NMap α) (f : Nat → α → β) (k : Nat) : (m.each f).look k = (m.look k).map (f k) := by
  induction m with
  | nil => rfl
  | cons p m ih =>
    obtain ⟨j, w⟩ := p
    simp only [NMap.each, List.map_cons, NMap.look]
    split
    · rename_i h; subst h; rfl
    · exact ih

@[simp] theorem NMap.has_put (m : NMap α) (k : Nat) (v : α) : (m.put k v).has k = true := by simp [NMap.has]

/-- The keys of `put`: the new one, and the old ones. -/
theorem NMap.mem_put (m : NMap α) (k : Nat) (v : α) (p : Nat × α) (h : p ∈ m.put k v) : p = (k, v) ∨ p ∈ m := by
  induction m with
  | nil => simpa [NMap.put] using h
  | cons q m ih =>
    obtain ⟨j, w⟩ := q
    simp only [NMap.put] at h
    split at h
    · rcases List.mem_cons.mp h with h | h
      · exact .inl h
      · exact .inr h
    · split at h
      · rcases List.mem_cons.mp h with h | h
        · exact .inl h
        · exact .inr (List.mem_cons_of_mem _ h)
      · rcases List.mem_cons.mp h with h | h
        · exact .inr (by simp [h])
        · rcases ih h with h | h
          · exact .inl h
          · exact .inr (List.mem_cons_of_mem _ h)

/-- `put` keeps the canonical form. -/
theorem NMap.put_wf (m : NMap α) (k : Nat) (v : α) (h : m.wf = true) : (m.put k v).wf = true := by
  induction m with
  | nil => rfl
  | cons q m ih =>
    obtain ⟨j, w⟩ := q
    simp only [NMap.wf, Bool.and_eq_true, List.all_eq_true, decide_eq_true_eq] at h
    simp only [NMap.put]
    split
    · rename_i hk
      simp only [NMap.wf, Bool.and_eq_true, List.all_eq_true, decide_eq_true_eq, List.mem_cons]
      refine ⟨?_, h.1, h.2⟩
      rintro p (rfl | hp)
      · exact hk
      · exact Nat.lt_trans hk (h.1 p hp)
    · split
      · rename_i e; subst e
        simp only [NMap.wf, Bool.and_eq_true, List.all_eq_true, decide_eq_true_eq]
        exact h
      · rename_i h1 h2
        simp only [NMap.wf, Bool.and_eq_true, List.all_eq_true, decide_eq_true_eq]
        refine ⟨?_, ih h.2⟩
        intro p hp
        rcases NMap.mem_put m k v p hp with rfl | hp
        · simp only; omega
        · exact h.1 p hp

/-- `change` keeps the canonical form. -/
theorem NMap.change_wf (m : NMap α) (k : Nat) (f : α → α) (h : m.wf = true) : (m.change k f).wf = true := by
  unfold NMap.change
  cases m.look k with
  | none => exact h
  | some v => exact NMap.put_wf m k _ h

/-- `keep` keeps the canonical form. -/
theorem NMap.keep_wf (m : NMap α) (f : Nat → α → Bool) (h : m.wf = true) : (m.keep f).wf = true := by
  induction m with
  | nil => rfl
  | cons q m ih =>
    simp only [NMap.wf, Bool.and_eq_true, List.all_eq_true, decide_eq_true_eq] at h
    simp only [NMap.keep, List.filter_cons]
    split
    · simp only [NMap.wf, Bool.and_eq_true, List.all_eq_true, decide_eq_true_eq]
      exact ⟨fun p hp => h.1 p ((List.mem_filter.mp hp).1), ih h.2⟩
    · exact ih h.2

end Sys2Proof
end

