-- ==== Sys2Proof/Laws/Memory.lean ====
section
/-! SUPPORT. The laws of the pool's memory (R32): every operation keeps the canonical form, and the bytes of a run read
back. -/

namespace Sys2Proof.Machine

theorem cellsFrom_mono (m : List Host.Cell) (a b : Nat) (h : a ≤ b) (w : cellsFrom b m = true) : cellsFrom a m = true := by
  cases m with
  | nil => rfl
  | cons c m =>
    simp only [cellsFrom, Bool.and_eq_true, decide_eq_true_eq] at w ⊢
    exact ⟨⟨Nat.le_trans h w.1.1, w.1.2⟩, w.2⟩

/-- What is left of a memory from an address up is canonical from there. -/
theorem cellsFrom_dropWhile (m : List Host.Cell) (a b : Nat) (w : cellsFrom a m = true) :
    cellsFrom b (m.dropWhile fun c => decide (c.1 < b)) = true := by
  induction m generalizing a with
  | nil => rfl
  | cons c m ih =>
    obtain ⟨k, v⟩ := c
    simp only [cellsFrom, Bool.and_eq_true, decide_eq_true_eq] at w
    by_cases h : k < b
    · simp only [List.dropWhile_cons, decide_eq_true h, if_true]
      exact ih (k + 1) w.2
    · simp only [List.dropWhile_cons, h, decide_false, Bool.false_eq_true, if_false, cellsFrom, Bool.and_eq_true,
        decide_eq_true_eq]
      exact ⟨⟨Nat.le_of_not_lt h, w.1.2⟩, w.2⟩

/-- A run of cells that ends below `b`, before a memory that is canonical from `b`. -/
theorem cellsFrom_takeWhile (m l : List Host.Cell) (a b : Nat) (w : cellsFrom a m = true) (h : a ≤ b)
    (k : cellsFrom b l = true) : cellsFrom a ((m.takeWhile fun c => decide (c.1 < b)) ++ l) = true := by
  induction m generalizing a with
  | nil => exact cellsFrom_mono l a b h k
  | cons c m ih =>
    obtain ⟨i, v⟩ := c
    simp only [cellsFrom, Bool.and_eq_true, decide_eq_true_eq] at w
    by_cases g : i < b
    · simp only [List.takeWhile_cons, decide_eq_true g, if_true, List.cons_append, cellsFrom, Bool.and_eq_true,
        decide_eq_true_eq]
      exact ⟨w.1, ih (i + 1) w.2 g⟩
    · simp only [List.takeWhile_cons, g, decide_false, Bool.false_eq_true, if_false, List.nil_append]
      exact cellsFrom_mono l a b h k

/-- The cells of a run of bytes, before a memory that is canonical from the run's end. -/
theorem cellsFrom_byteCells (b : List Byte) (l : List Host.Cell) (a : Nat) (k : cellsFrom (a + b.length) l = true) :
    cellsFrom a (byteCells a b ++ l) = true := by
  induction b generalizing a with
  | nil => exact k
  | cons v t ih =>
    have h := ih (a + 1) (by simpa [Nat.add_assoc, Nat.add_comm 1] using k)
    unfold byteCells
    split
    · exact cellsFrom_mono _ a (a + 1) (Nat.le_succ a) h
    · rename_i n
      simp only [List.cons_append, cellsFrom, Bool.and_eq_true, decide_eq_true_eq]
      exact ⟨⟨Nat.le_refl a, n⟩, h⟩

/-- Writing keeps the canonical form. -/
theorem cellWrites_wf (m : List Host.Cell) (a : Nat) (b : List Byte) (w : Memory.wf m = true) :
    Memory.wf (cellWrites m a b) = true := by
  unfold Memory.wf cellWrites
  rw [List.append_assoc]
  exact cellsFrom_takeWhile m _ 0 a w (Nat.zero_le a)
    (cellsFrom_byteCells b _ a (cellsFrom_dropWhile m 0 (a + b.length) w))

theorem cellsFrom_filter (m : List Host.Cell) (f : Host.Cell → Bool) (a : Nat) (w : cellsFrom a m = true) :
    cellsFrom a (m.filter f) = true := by
  induction m generalizing a with
  | nil => rfl
  | cons c m ih =>
    obtain ⟨k, v⟩ := c
    simp only [cellsFrom, Bool.and_eq_true, decide_eq_true_eq] at w
    rw [List.filter_cons]
    split
    · simp only [cellsFrom, Bool.and_eq_true, decide_eq_true_eq]
      exact ⟨w.1, ih (k + 1) w.2⟩
    · exact cellsFrom_mono _ a (k + 1) (Nat.le_succ_of_le w.1.1) (ih (k + 1) w.2)

/-- Writing at an extent keeps the canonical form. -/
theorem State.writePool_wf (s : State) (e off : Nat) (b : List Byte) (w : Memory.wf s.pool.mem = true) :
    Memory.wf (s.writePool e off b).pool.mem = true := by
  unfold State.writePool
  split
  · exact cellWrites_wf _ _ _ w
  · exact w

/-- Dropping an extent's bytes keeps the canonical form. -/
theorem State.wipeStore_wf (s : State) (k : Nat) (w : Memory.wf s.pool.mem = true) :
    Memory.wf (s.wipeStore k).pool.mem = true :=
  cellsFrom_filter s.pool.mem _ 0 w

theorem cellsRun_nil (a n : Nat) : cellsRun [] a n = List.replicate n 0#8 := by
  induction n generalizing a with
  | zero => rfl
  | succ n ih => simp [cellsRun, ih, List.replicate_succ]

/-- Bytes above the one that is read do not bear on it. -/
theorem cellsRun_later (m : List Host.Cell) (a n : Nat) (h : ∀ c ∈ m, a < c.1) :
    cellsRun m a (n + 1) = 0 :: cellsRun m (a + 1) n := by
  cases m with
  | nil => rfl
  | cons c m =>
    obtain ⟨k, v⟩ := c
    have : k ≠ a := Nat.ne_of_gt (h (k, v) (by simp))
    simp [cellsRun, this]

theorem byteCells_above (b : List Byte) (a : Nat) : ∀ c ∈ byteCells a b, a ≤ c.1 := by
  induction b generalizing a with
  | nil => simp [byteCells]
  | cons v t ih =>
    intro c h
    unfold byteCells at h
    split at h
    · exact Nat.le_of_succ_le (ih (a + 1) c h)
    · rcases List.mem_cons.mp h with rfl | h
      · exact Nat.le_refl _
      · exact Nat.le_of_succ_le (ih (a + 1) c h)

/-- The bytes of a run read back. -/
theorem cellsRun_byteCells (b : List Byte) (a n : Nat) (h : n ≤ b.length) : cellsRun (byteCells a b) a n = b.take n := by
  induction b generalizing a n with
  | nil => simp at h; subst h; rfl
  | cons v t ih =>
    cases n with
    | zero => rfl
    | succ n =>
      have k := ih (a + 1) n (by simpa using h)
      unfold byteCells
      split
      · rename_i z
        rw [cellsRun_later _ _ _ fun c hc => byteCells_above t (a + 1) c hc, k, z, List.take_succ_cons]
      · simp [cellsRun, k]

end Sys2Proof.Machine
end

