-- ==== Sys2Proof/Laws/Nirod.lean ====
section
/-! SUPPORT. What the admission of a Nirod command does, once for all commands: an admitted command's body runs on the
state that `State.taken` gives, and its answer is sent. -/

namespace Sys2Proof.Machine

/-- `admitted` runs the body when every check of steps 8 to 11 passes. -/
theorem admitted_body (c : Ctx) (k : Cmd) (tg : Target) (legalNow : State → Nat) (body : State → Res) (s : State)
    (h0 : (!k.open_ && c.session == 0) = false)
    (h1 : (k.open_ || k.permits ((s.nirod.sessions.look c.session).bind Session.cls)) = true)
    (h2 : bit (legalNow s) s.dev.state.code = true)
    (h3 : (tg.comp.bind fun h => checkComp k ((s.nirod.sessions.look c.session).bind Session.cls)
      (((s.nirod.sessions.look c.session).map Session.comp).getD 256) h s) = none)
    (h4 : (((s.nirod.sessions.look c.session).bind Session.cls).bind fun x => s.superseder c x k.op tg) = none)
    (h5 : c.badItem = none) :
    admitted c k tg legalNow body s = body s := by
  unfold admitted
  simp only [h0, h2, h3, h4, h5]
  have h1' : (!k.open_ && !k.permits ((s.nirod.sessions.look c.session).bind Session.cls)) = false := by
    revert h1; cases k.open_ <;> simp
  simp [h1']

/-- An admitted command: its body runs, and its answer is sent (R368). -/
theorem nirodFull_admitted (i : Instr) (c : Ctx) (k : Cmd) (tg : Target) (legalNow : State → Nat) (body : State → Res)
    (s : State) (h : s.admits c k tg legalNow = true) :
    nirodFull i c k tg legalNow body s = State.finish c k.op (body (s.taken c k.op tg)) := by
  unfold State.admits at h
  simp only [Bool.and_eq_true, Option.isNone_iff_eq_none, Bool.not_eq_true'] at h
  obtain ⟨⟨⟨⟨⟨⟨⟨hup, hrom⟩, hseq⟩, hper⟩, hleg⟩, hcomp⟩, hsup⟩, hbad⟩ := h
  unfold nirodFull
  by_cases hz : c.session = 0
  · have ht : s.taken c k.op tg = s := by simp [State.taken, hz]
    rw [ht] at hper hleg hcomp hsup ⊢
    simp only [hz, if_true, Bool.and_eq_true, beq_iff_eq] at hseq
    have hb := admitted_body c k tg legalNow body s (by simp [hseq.1]) hper hleg hcomp hsup hbad
    simp [hup, hrom, hz, hseq.2, hb]
  · simp only [if_neg hz, Bool.and_eq_true, Bool.not_eq_true', Bool.or_eq_true] at hseq
    have hb := admitted_body c k tg legalNow body (s.taken c k.op tg) (by simp [hz]) hper hleg hcomp hsup hbad
    by_cases hw : s.waits c = true
    · have ht : s.taken c k.op tg = s.start c := by simp [State.taken, hz, hw]
      rw [ht] at hb hseq ⊢
      have hr : s.dev.restarting.getLsbD (s.coreFor c.session) = false := hseq.2
      simp [hup, hrom, hz, hw, hr, hb]
    · have h6 : (s.stepSix c.session c.seq k.op tg).1 = true := by
        rcases hseq.1 with h | h
        · exact absurd h hw
        · exact h
      have ht : s.taken c k.op tg = (s.stepSix c.session c.seq k.op tg).2.start c := by
        simp [State.taken, hz, hw]
      rw [ht] at hb hseq ⊢
      have hr : (s.stepSix c.session c.seq k.op tg).2.dev.restarting.getLsbD
          ((s.stepSix c.session c.seq k.op tg).2.coreFor c.session) = false := hseq.2
      simp [hup, hrom, hz, hw, h6, hr, hb]

/-- The same for a command whose legal states are those of its row. -/
theorem nirod_admitted (i : Instr) (c : Ctx) (k : Cmd) (tg : Target) (body : State → Res) (s : State)
    (h : s.admits c k tg (fun _ => k.legal) = true) :
    nirod i c k tg body s = State.finish c k.op (body (s.taken c k.op tg)) :=
  nirodFull_admitted i c k tg _ body s h

/-- A command that starts at `t` ends with its body at `t` and its answer. -/
theorem nirod_starts (i : Instr) (c : Ctx) (k : Cmd) (tg : Target) (body : State → Res) (s t : State)
    (h : s.starts t c k tg) : nirod i c k tg body s = State.finish c k.op (body t) := by
  rw [nirod_admitted i c k tg body s h.1, h.2]

@[simp] theorem Cmd.f_op (op l : Nat) : (Cmd.f op l).op = op := rfl
@[simp] theorem Cmd.fo_op (op l : Nat) : (Cmd.fo op l).op = op := rfl
@[simp] theorem Cmd.fob_op (op l : Nat) : (Cmd.fob op l).op = op := rfl
@[simp] theorem Cmd.any_op (op l : Nat) : (Cmd.any op l).op = op := rfl

@[simp] theorem finish_ok (c : Ctx) (op : Nat) (l : List Item) (s : State) :
    State.finish c op (ok l s) = s.reply c op St.OK l := rfl
@[simp] theorem finish_fail (c : Ctx) (op st : Nat) (s : State) : State.finish c op (fail st s) = s.reply c op st [] := rfl
@[simp] theorem finish_invalid (c : Ctx) (op i : Nat) (s : State) :
    State.finish c op (invalid i s) = s.reply c op St.INVALID_PARAM [.detail Det.FAILED_ITEM i] := rfl
@[simp] theorem finish_failDetail (c : Ctx) (op st d : Nat) (s : State) :
    State.finish c op (failDetail st d s) = s.reply c op st [.detail Det.DETAIL d] := rfl
@[simp] theorem finish_wait (c : Ctx) (op : Nat) (s : State) : State.finish c op (wait s) = s := rfl

end Sys2Proof.Machine
end

