-- ==== Sys2Proof/Laws/PerInstr.lean ====
section
/-! SUPPORT. The family `Operands` of LAWS.json: what the well-formedness of a command says of the Nirod message or the
packet header that it carries and of its other operands, one lemma per constructor. -/

namespace Sys2Proof.Laws.Operands

open Sys2Proof

/-- A well-formed command carries a well-formed message and header, and its other operands fit their fields. -/
def Statement (i : Instr) : Prop :=
  i.wf = true → (∀ c, i.ctx = some c → c.wf = true) ∧ (∀ h, i.hdr = some h → h.wf = true) ∧ i.operandsOk = true

/-- It holds of every command, by the form of `Instr.wf`. -/
theorem statement_of_wf (i : Instr) : Statement i := by
  intro w
  simp only [Instr.wf, Bool.and_eq_true] at w
  exact ⟨fun c h => by have := w.1.1; rw [h] at this; exact this, fun x h => by have := w.1.2; rw [h] at this; exact this, w.2⟩

theorem powerOn : Statement (.powerOn) := statement_of_wf _
theorem powerLoss : Statement (.powerLoss) := statement_of_wf _
theorem resetNAssert (a0 : Nat) : Statement (.resetNAssert a0) := statement_of_wf _
theorem resetNRelease : Statement (.resetNRelease) := statement_of_wf _
theorem bootStepTimeout : Statement (.bootStepTimeout) := statement_of_wf _
theorem wakeNAssert (a0 : Nat) : Statement (.wakeNAssert a0) := statement_of_wf _
theorem railsInRange : Statement (.railsInRange) := statement_of_wf _
theorem railsRestoreTimeout : Statement (.railsRestoreTimeout) := statement_of_wf _
theorem railUndervoltage (a0 : Nat) (a1 : Nat) : Statement (.railUndervoltage a0 a1) := statement_of_wf _
theorem ppsInEdge (a0 : Nat) : Statement (.ppsInEdge a0) := statement_of_wf _
theorem ppsLost : Statement (.ppsLost) := statement_of_wf _
theorem evtInChange (a0 : Nat) (a1 : Bool) : Statement (.evtInChange a0 a1) := statement_of_wf _
theorem throttleLevelRise (a0 : Nat) (a1 : Nat) : Statement (.throttleLevelRise a0 a1) := statement_of_wf _
theorem throttleLevelFall (a0 : Nat) (a1 : Nat) : Statement (.throttleLevelFall a0 a1) := statement_of_wf _
theorem thermalTrip (a0 : Nat) : Statement (.thermalTrip a0) := statement_of_wf _
theorem nirodPartReceive (a0 : NirodPart) : Statement (.nirodPartReceive a0) := statement_of_wf _
theorem partTimeout (a0 : Nat) (a1 : Nat) : Statement (.partTimeout a0 a1) := statement_of_wf _
theorem sessionIdleTimeout (a0 : Nat) : Statement (.sessionIdleTimeout a0) := statement_of_wf _
theorem snapshotExpiry (a0 : Nat) (a1 : Nat) : Statement (.snapshotExpiry a0 a1) := statement_of_wf _
theorem sessionOpen (a0 : Ctx) (a1 : Nat) (a2 : Nat) (a3 : Nat) (a4 : Nat) : Statement (.sessionOpen a0 a1 a2 a3 a4) := statement_of_wf _
theorem sessionClose (a0 : Ctx) : Statement (.sessionClose a0) := statement_of_wf _
theorem nop (a0 : Ctx) : Statement (.nop a0) := statement_of_wf _
theorem deviceInfo (a0 : Ctx) : Statement (.deviceInfo a0) := statement_of_wf _
theorem deviceStateSet (a0 : Ctx) (a1 : Nat) : Statement (.deviceStateSet a0 a1) := statement_of_wf _
theorem deviceReset (a0 : Ctx) : Statement (.deviceReset a0) := statement_of_wf _
theorem csrRead (a0 : Ctx) (a1 : List Nat) : Statement (.csrRead a0 a1) := statement_of_wf _
theorem csrWrite (a0 : Ctx) (a1 : List (Nat × Word)) : Statement (.csrWrite a0 a1) := statement_of_wf _
theorem colophon (a0 : Ctx) (a1 : Nat) (a2 : Nat) : Statement (.colophon a0 a1 a2) := statement_of_wf _
theorem compCreate (a0 : Ctx) (a1 : CompReq) : Statement (.compCreate a0 a1) := statement_of_wf _
theorem sliceEvictionDone (a0 : Nat) : Statement (.sliceEvictionDone a0) := statement_of_wf _
theorem compDestroy (a0 : Ctx) (a1 : Nat) : Statement (.compDestroy a0 a1) := statement_of_wf _
theorem compDestroyDone (a0 : Nat) : Statement (.compDestroyDone a0) := statement_of_wf _
theorem compMemberAdd (a0 : Ctx) (a1 : Nat) (a2 : Nat) (a3 : Nat) : Statement (.compMemberAdd a0 a1 a2 a3) := statement_of_wf _
theorem compMemberRemove (a0 : Ctx) (a1 : Nat) (a2 : Nat) (a3 : Bool) : Statement (.compMemberRemove a0 a1 a2 a3) := statement_of_wf _
theorem compRenew (a0 : Ctx) (a1 : Nat) (a2 : Option Nat) : Statement (.compRenew a0 a1 a2) := statement_of_wf _
theorem compPressSet (a0 : Ctx) (a1 : Nat) (a2 : BitVec 8) : Statement (.compPressSet a0 a1 a2) := statement_of_wf _
theorem compInfo (a0 : Ctx) (a1 : Nat) : Statement (.compInfo a0 a1) := statement_of_wf _
theorem compMeterRead (a0 : Ctx) (a1 : Nat) : Statement (.compMeterRead a0 a1) := statement_of_wf _
theorem compStats (a0 : Ctx) (a1 : Nat) : Statement (.compStats a0 a1) := statement_of_wf _
theorem compObserverSet (a0 : Ctx) (a1 : Nat) (a2 : List Digest) : Statement (.compObserverSet a0 a1 a2) := statement_of_wf _
theorem cohDomainCreate (a0 : Ctx) (a1 : Nat) (a2 : Nat) (a3 : Nat) : Statement (.cohDomainCreate a0 a1 a2 a3) := statement_of_wf _
theorem cohDomainDestroy (a0 : Ctx) (a1 : Nat) : Statement (.cohDomainDestroy a0 a1) := statement_of_wf _
theorem cohAgentAdd (a0 : Ctx) (a1 : Nat) (a2 : Nat) (a3 : Nat) (a4 : Nat) (a5 : Nat) : Statement (.cohAgentAdd a0 a1 a2 a3 a4 a5) := statement_of_wf _
theorem cohAgentRemove (a0 : Ctx) (a1 : Nat) (a2 : Nat) (a3 : Bool) : Statement (.cohAgentRemove a0 a1 a2 a3) := statement_of_wf _
theorem cohExtentAttach (a0 : Ctx) (a1 : Nat) (a2 : Nat) : Statement (.cohExtentAttach a0 a1 a2) := statement_of_wf _
theorem cohExtentDetach (a0 : Ctx) (a1 : Nat) (a2 : Nat) : Statement (.cohExtentDetach a0 a1 a2) := statement_of_wf _
theorem cohRecallDone (a0 : Nat) : Statement (.cohRecallDone a0) := statement_of_wf _
theorem cohReclaimClear (a0 : Ctx) (a1 : Nat) (a2 : Nat) : Statement (.cohReclaimClear a0 a1 a2) := statement_of_wf _
theorem cohDomainInfo (a0 : Ctx) (a1 : Nat) : Statement (.cohDomainInfo a0 a1) := statement_of_wf _
theorem extentCreate (a0 : Ctx) (a1 : Nat) (a2 : ExtentReq) : Statement (.extentCreate a0 a1 a2) := statement_of_wf _
theorem extentDestroy (a0 : Ctx) (a1 : Nat) : Statement (.extentDestroy a0 a1) := statement_of_wf _
theorem extentHint (a0 : Ctx) (a1 : Nat) (a2 : Nat) (a3 : Nat) (a4 : Nat) : Statement (.extentHint a0 a1 a2 a3 a4) := statement_of_wf _
theorem extentSeal (a0 : Ctx) (a1 : Nat) : Statement (.extentSeal a0 a1) := statement_of_wf _
theorem extentSealDone (a0 : Nat) (a1 : Digest) : Statement (.extentSealDone a0 a1) := statement_of_wf _
theorem extentRevoke (a0 : Ctx) (a1 : Nat) : Statement (.extentRevoke a0 a1) := statement_of_wf _
theorem extentDrain (a0 : Ctx) (a1 : Nat) : Statement (.extentDrain a0 a1) := statement_of_wf _
theorem extentDrainDone (a0 : Nat) : Statement (.extentDrainDone a0) := statement_of_wf _
theorem extentAdopt (a0 : Ctx) (a1 : Nat) (a2 : Nat) : Statement (.extentAdopt a0 a1 a2) := statement_of_wf _
theorem extentInfo (a0 : Ctx) (a1 : Nat) : Statement (.extentInfo a0 a1) := statement_of_wf _
theorem kvCreate (a0 : Ctx) (a1 : KvReq) : Statement (.kvCreate a0 a1) := statement_of_wf _
theorem kvPublish (a0 : Ctx) (a1 : Nat) : Statement (.kvPublish a0 a1) := statement_of_wf _
theorem kvLookup (a0 : Ctx) (a1 : Nat) (a2 : BitVec 128) : Statement (.kvLookup a0 a1 a2) := statement_of_wf _
theorem kvAcquire (a0 : Ctx) (a1 : Nat) : Statement (.kvAcquire a0 a1) := statement_of_wf _
theorem kvRelease (a0 : Ctx) (a1 : Nat) : Statement (.kvRelease a0 a1) := statement_of_wf _
theorem kvRenew (a0 : Ctx) (a1 : Nat) (a2 : Nat) : Statement (.kvRenew a0 a1 a2) := statement_of_wf _
theorem kvHint (a0 : Ctx) (a1 : Nat) (a2 : Nat) : Statement (.kvHint a0 a1 a2) := statement_of_wf _
theorem kvDestroy (a0 : Ctx) (a1 : Nat) : Statement (.kvDestroy a0 a1) := statement_of_wf _
theorem kvLeaseExpiry (a0 : Nat) : Statement (.kvLeaseExpiry a0) := statement_of_wf _
theorem vqCodebookSet (a0 : Ctx) (a1 : Nat) (a2 : Nat) (a3 : Nat) : Statement (.vqCodebookSet a0 a1 a2 a3) := statement_of_wf _
theorem vqCodebookClear (a0 : Ctx) (a1 : Nat) (a2 : Nat) : Statement (.vqCodebookClear a0 a1 a2) := statement_of_wf _
theorem vqCodebookInfo (a0 : Ctx) (a1 : Nat) : Statement (.vqCodebookInfo a0 a1) := statement_of_wf _
theorem vqSlotStatus (a0 : Ctx) (a1 : Nat) (a2 : Nat) (a3 : Nat) : Statement (.vqSlotStatus a0 a1 a2 a3) := statement_of_wf _
theorem reduceGroupCreate (a0 : Ctx) (a1 : Nat) (a2 : Nat) (a3 : Nat) (a4 : List (Nat × Nat)) (a5 : Option (Nat × Nat)) : Statement (.reduceGroupCreate a0 a1 a2 a3 a4 a5) := statement_of_wf _
theorem reduceGroupDestroy (a0 : Ctx) (a1 : Nat) (a2 : Nat) : Statement (.reduceGroupDestroy a0 a1 a2) := statement_of_wf _
theorem ledgerOpen (a0 : Ctx) (a1 : Nat) (a2 : Nat) (a3 : Nat) (a4 : Nat) (a5 : Nat) (a6 : Option (Nat × Nat)) : Statement (.ledgerOpen a0 a1 a2 a3 a4 a5 a6) := statement_of_wf _
theorem ledgerClose (a0 : Ctx) (a1 : Nat) : Statement (.ledgerClose a0 a1) := statement_of_wf _
theorem nodeIdSet (a0 : Ctx) (a1 : Nat) : Statement (.nodeIdSet a0 a1) := statement_of_wf _
theorem routeSet (a0 : Ctx) (a1 : Nat) (a2 : List RouteReq) : Statement (.routeSet a0 a1 a2) := statement_of_wf _
theorem routeGet (a0 : Ctx) (a1 : Nat) (a2 : Nat) : Statement (.routeGet a0 a1 a2) := statement_of_wf _
theorem neighbourList (a0 : Ctx) : Statement (.neighbourList a0) := statement_of_wf _
theorem neighbourAccept (a0 : Ctx) (a1 : Nat) : Statement (.neighbourAccept a0 a1) := statement_of_wf _
theorem ftManagerSet (a0 : Ctx) (a1 : List Digest) (a2 : Nat) (a3 : List Signed) : Statement (.ftManagerSet a0 a1 a2 a3) := statement_of_wf _
theorem expel (a0 : Ctx) (a1 : ExpelReq) : Statement (.expel a0 a1) := statement_of_wf _
theorem readmit (a0 : Ctx) (a1 : ExpelReq) : Statement (.readmit a0 a1) := statement_of_wf _
theorem ftExpelList (a0 : Ctx) : Statement (.ftExpelList a0) := statement_of_wf _
theorem ftHealthGet (a0 : Ctx) : Statement (.ftHealthGet a0) := statement_of_wf _
theorem spdmGetVersion (a0 : Ctx) : Statement (.spdmGetVersion a0) := statement_of_wf _
theorem spdmGetCapabilities (a0 : Ctx) : Statement (.spdmGetCapabilities a0) := statement_of_wf _
theorem spdmNegotiateAlgorithms (a0 : Ctx) (a1 : Bool) : Statement (.spdmNegotiateAlgorithms a0 a1) := statement_of_wf _
theorem spdmGetDigests (a0 : Ctx) : Statement (.spdmGetDigests a0) := statement_of_wf _
theorem spdmGetCertificate (a0 : Ctx) : Statement (.spdmGetCertificate a0) := statement_of_wf _
theorem spdmChallenge (a0 : Ctx) (a1 : Digest) : Statement (.spdmChallenge a0 a1) := statement_of_wf _
theorem spdmGetMeasurements (a0 : Ctx) (a1 : Digest) : Statement (.spdmGetMeasurements a0 a1) := statement_of_wf _
theorem spdmKeyExchange (a0 : Ctx) : Statement (.spdmKeyExchange a0) := statement_of_wf _
theorem spdmFinish (a0 : Ctx) (a1 : Nat) (a2 : Signed) : Statement (.spdmFinish a0 a1 a2) := statement_of_wf _
theorem spdmKeyUpdate (a0 : Ctx) (a1 : Nat) (a2 : Bool) : Statement (.spdmKeyUpdate a0 a1 a2) := statement_of_wf _
theorem spdmHeartbeat (a0 : Ctx) (a1 : Nat) : Statement (.spdmHeartbeat a0 a1) := statement_of_wf _
theorem spdmEndSession (a0 : Ctx) (a1 : Nat) : Statement (.spdmEndSession a0 a1) := statement_of_wf _
theorem secStatus (a0 : Ctx) : Statement (.secStatus a0) := statement_of_wf _
theorem secBindkeyGet (a0 : Ctx) (a1 : Nat) : Statement (.secBindkeyGet a0 a1) := statement_of_wf _
theorem weightBind (a0 : Ctx) (a1 : Nat) (a2 : Nat) (a3 : Bool) (a4 : Bool) : Statement (.weightBind a0 a1 a2 a3 a4) := statement_of_wf _
theorem weightUnbind (a0 : Ctx) (a1 : Nat) (a2 : Nat) : Statement (.weightUnbind a0 a1 a2) := statement_of_wf _
theorem secImport (a0 : Ctx) (a1 : Nat) (a2 : Nat) (a3 : Nat) (a4 : Nat) (a5 : Option Nat) (a6 : List Bool) : Statement (.secImport a0 a1 a2 a3 a4 a5 a6) := statement_of_wf _
theorem secExport (a0 : Ctx) (a1 : Nat) (a2 : Nat) (a3 : Nat) (a4 : Nat) : Statement (.secExport a0 a1 a2 a3 a4) := statement_of_wf _
theorem debugEnter (a0 : Ctx) (a1 : Token) : Statement (.debugEnter a0 a1) := statement_of_wf _
theorem debugExit (a0 : Ctx) : Statement (.debugExit a0) := statement_of_wf _
theorem reprovision (a0 : Ctx) (a1 : Token) : Statement (.reprovision a0 a1) := statement_of_wf _
theorem fmKeySet (a0 : Ctx) (a1 : Nat) (a2 : Digest) : Statement (.fmKeySet a0 a1 a2) := statement_of_wf _
theorem evtSubscribe (a0 : Ctx) (a1 : List Nat) (a2 : Nat) (a3 : Nat) : Statement (.evtSubscribe a0 a1 a2 a3) := statement_of_wf _
theorem evtUnsubscribe (a0 : Ctx) (a1 : Nat) : Statement (.evtUnsubscribe a0 a1) := statement_of_wf _
theorem evtClaim (a0 : Ctx) (a1 : Nat) (a2 : Nat) : Statement (.evtClaim a0 a1 a2) := statement_of_wf _
theorem evtComplete (a0 : Ctx) (a1 : Nat) (a2 : Nat) : Statement (.evtComplete a0 a1 a2) := statement_of_wf _
theorem powerStateSet (a0 : Ctx) (a1 : Nat) : Statement (.powerStateSet a0 a1) := statement_of_wf _
theorem quiesceComplete : Statement (.quiesceComplete) := statement_of_wf _
theorem quiesceTimeout : Statement (.quiesceTimeout) := statement_of_wf _
theorem fwUpdateBegin (a0 : Ctx) (a1 : Manifest) : Statement (.fwUpdateBegin a0 a1) := statement_of_wf _
theorem fwUpdateBlock (a0 : Ctx) (a1 : Nat) (a2 : Nat) (a3 : Nat) (a4 : List Byte) : Statement (.fwUpdateBlock a0 a1 a2 a3 a4) := statement_of_wf _
theorem fwUpdateVerify (a0 : Ctx) (a1 : Nat) : Statement (.fwUpdateVerify a0 a1) := statement_of_wf _
theorem fwActivate (a0 : Ctx) (a1 : Nat) : Statement (.fwActivate a0 a1) := statement_of_wf _
theorem unitSwitchDone (a0 : SwUnit) : Statement (.unitSwitchDone a0) := statement_of_wf _
theorem switchPhaseTimeout (a0 : SwUnit) : Statement (.switchPhaseTimeout a0) := statement_of_wf _
theorem healthConfirm (a0 : Ctx) : Statement (.healthConfirm a0) := statement_of_wf _
theorem confirmWindowExpiry : Statement (.confirmWindowExpiry) := statement_of_wf _
theorem fwUpdateAbort (a0 : Ctx) (a1 : Nat) : Statement (.fwUpdateAbort a0 a1) := statement_of_wf _
theorem revertDone (a0 : SwUnit) : Statement (.revertDone a0) := statement_of_wf _
theorem fwStatus (a0 : Ctx) : Statement (.fwStatus a0) := statement_of_wf _
theorem recList (a0 : Ctx) : Statement (.recList a0) := statement_of_wf _
theorem recRead (a0 : Ctx) (a1 : List Nat) : Statement (.recRead a0 a1) := statement_of_wf _
theorem recClear (a0 : Ctx) (a1 : List Nat) (a2 : Token) : Statement (.recClear a0 a1 a2) := statement_of_wf _
theorem ftUnfence (a0 : Ctx) (a1 : Nat) (a2 : Nat) (a3 : Bool) : Statement (.ftUnfence a0 a1 a2 a3) := statement_of_wf _
theorem ftInject (a0 : Ctx) (a1 : Nat) (a2 : Nat) (a3 : Nat) (a4 : Nat) (a5 : Nat) (a6 : Nat) : Statement (.ftInject a0 a1 a2 a3 a4 a5 a6) := statement_of_wf _
theorem rehearsalInjection (a0 : Nat) : Statement (.rehearsalInjection a0) := statement_of_wf _
theorem pressReset (a0 : Ctx) (a1 : Nat) : Statement (.pressReset a0 a1) := statement_of_wf _
theorem pressResetDone (a0 : Nat) (a1 : Bool) (a2 : BitVec 5) : Statement (.pressResetDone a0 a1 a2) := statement_of_wf _
theorem lockSet (a0 : Ctx) (a1 : Nat) (a2 : Word) : Statement (.lockSet a0 a1 a2) := statement_of_wf _
theorem evcSoftSetWrite (a0 : Ctx) (a1 : Word) : Statement (.evcSoftSetWrite a0 a1) := statement_of_wf _
theorem evcPendingClear (a0 : Ctx) (a1 : Word) (a2 : Bool) : Statement (.evcPendingClear a0 a1 a2) := statement_of_wf _
theorem evcTgtClaimRead (a0 : Nat) : Statement (.evcTgtClaimRead a0) := statement_of_wf _
theorem evcTgtCompleteWrite (a0 : Nat) (a1 : Word) : Statement (.evcTgtCompleteWrite a0 a1) := statement_of_wf _
theorem swHistClear (a0 : Ctx) (a1 : Word) : Statement (.swHistClear a0 a1) := statement_of_wf _
theorem swQShaperWrite (a0 : Ctx) (a1 : Nat) (a2 : Word) : Statement (.swQShaperWrite a0 a1 a2) := statement_of_wf _
theorem furrowSlotWrite (a0 : Ctx) (a1 : Nat) (a2 : Word) : Statement (.furrowSlotWrite a0 a1 a2) := statement_of_wf _
theorem jrnClearPaths (a0 : Ctx) (a1 : Word) : Statement (.jrnClearPaths a0 a1) := statement_of_wf _
theorem jrnSelWrite (a0 : Ctx) (a1 : Word) : Statement (.jrnSelWrite a0 a1) := statement_of_wf _
theorem recClogSelWrite (a0 : Ctx) (a1 : Word) : Statement (.recClogSelWrite a0 a1) := statement_of_wf _
theorem lkPortEnable (a0 : Ctx) (a1 : Word) : Statement (.lkPortEnable a0 a1) := statement_of_wf _
theorem lkPortDisable (a0 : Ctx) (a1 : Word) : Statement (.lkPortDisable a0 a1) := statement_of_wf _
theorem lkSplitSet (a0 : Ctx) (a1 : Word) : Statement (.lkSplitSet a0 a1) := statement_of_wf _
theorem signalDetect (a0 : Nat) : Statement (.signalDetect a0) := statement_of_wf _
theorem signalLoss (a0 : Nat) : Statement (.signalLoss a0) := statement_of_wf _
theorem detectDone (a0 : Nat) : Statement (.detectDone a0) := statement_of_wf _
theorem laneLockDone (a0 : Nat) (a1 : BitVec 8) : Statement (.laneLockDone a0 a1) := statement_of_wf _
theorem alignDone (a0 : Nat) (a1 : Word64) (a2 : Nat) (a3 : Bool) (a4 : Bool) : Statement (.alignDone a0 a1 a2 a3 a4) := statement_of_wf _
theorem equalizeDone (a0 : Nat) (a1 : Nat) : Statement (.equalizeDone a0 a1) := statement_of_wf _
theorem fastEqualizeFail (a0 : Nat) : Statement (.fastEqualizeFail a0) := statement_of_wf _
theorem linkInitDone (a0 : Nat) (a1 : FarEnd) : Statement (.linkInitDone a0 a1) := statement_of_wf _
theorem trainingStepTimeout (a0 : Nat) : Statement (.trainingStepTimeout a0) := statement_of_wf _
theorem dataFlitReceive (a0 : Nat) (a1 : Trailer) (a2 : List Packet) : Statement (.dataFlitReceive a0 a1 a2) := statement_of_wf _
theorem idleFlitReceive (a0 : Nat) (a1 : Trailer) : Statement (.idleFlitReceive a0 a1) := statement_of_wf _
theorem fallowReqReceive (a0 : Nat) : Statement (.fallowReqReceive a0) := statement_of_wf _
theorem fallowAckReceive (a0 : Nat) : Statement (.fallowAckReceive a0) := statement_of_wf _
theorem keySwitchReceive (a0 : Nat) (a1 : Nat) : Statement (.keySwitchReceive a0 a1) := statement_of_wf _
theorem nakReceive (a0 : Nat) (a1 : Nat) : Statement (.nakReceive a0 a1) := statement_of_wf _
theorem ackStallTimeout (a0 : Nat) : Statement (.ackStallTimeout a0) := statement_of_wf _
theorem nakResendTimeout (a0 : Nat) : Statement (.nakResendTimeout a0) := statement_of_wf _
theorem linkKeyEstablished (a0 : Nat) : Statement (.linkKeyEstablished a0) := statement_of_wf _
theorem rekeyDue (a0 : Nat) : Statement (.rekeyDue a0) := statement_of_wf _
theorem portIdleTimeout (a0 : Nat) : Statement (.portIdleTimeout a0) := statement_of_wf _
theorem fallowLockBurst (a0 : Nat) : Statement (.fallowLockBurst a0) := statement_of_wf _
theorem wakeToneReceive (a0 : Nat) : Statement (.wakeToneReceive a0) := statement_of_wf _
theorem portWakeDone (a0 : Nat) : Statement (.portWakeDone a0) := statement_of_wf _
theorem portWakeTimeout (a0 : Nat) : Statement (.portWakeTimeout a0) := statement_of_wf _
theorem pressIdleTimeout (a0 : Nat) : Statement (.pressIdleTimeout a0) := statement_of_wf _
theorem pressFallowDone (a0 : Nat) : Statement (.pressFallowDone a0) := statement_of_wf _
theorem pressWakeDone (a0 : Nat) : Statement (.pressWakeDone a0) := statement_of_wf _
theorem hbmIdleTimeout (a0 : Nat) : Statement (.hbmIdleTimeout a0) := statement_of_wf _
theorem hbmWakeDone (a0 : Nat) : Statement (.hbmWakeDone a0) := statement_of_wf _
theorem evcIdleTimeout : Statement (.evcIdleTimeout) := statement_of_wf _
theorem evcWake : Statement (.evcWake) := statement_of_wf _
theorem eventOffer : Statement (.eventOffer) := statement_of_wf _
theorem claimTimeout (a0 : Nat) : Statement (.claimTimeout a0) := statement_of_wf _
theorem watchdogExpiry (a0 : Nat) : Statement (.watchdogExpiry a0) := statement_of_wf _
theorem escapeWaitExpiry (a0 : Nat) (a1 : Nat) : Statement (.escapeWaitExpiry a0 a1) := statement_of_wf _
theorem spillFetchDone (a0 : Nat) (a1 : Nat) : Statement (.spillFetchDone a0 a1) := statement_of_wf _
theorem shaperRefill : Statement (.shaperRefill) := statement_of_wf _
theorem queueSample : Statement (.queueSample) := statement_of_wf _
theorem egressSend (a0 : Nat) : Statement (.egressSend a0) := statement_of_wf _
theorem furrowSlotChange : Statement (.furrowSlotChange) := statement_of_wf _
theorem load (a0 : Hdr) : Statement (.load a0) := statement_of_wf _
theorem store (a0 : Hdr) (a1 : List Byte) : Statement (.store a0 a1) := statement_of_wf _
theorem atAdd32 (a0 : Hdr) (a1 : List Byte) : Statement (.atAdd32 a0 a1) := statement_of_wf _
theorem atAdd64 (a0 : Hdr) (a1 : List Byte) : Statement (.atAdd64 a0 a1) := statement_of_wf _
theorem atSwap32 (a0 : Hdr) (a1 : List Byte) : Statement (.atSwap32 a0 a1) := statement_of_wf _
theorem atSwap64 (a0 : Hdr) (a1 : List Byte) : Statement (.atSwap64 a0 a1) := statement_of_wf _
theorem atCas32 (a0 : Hdr) (a1 : List Byte) : Statement (.atCas32 a0 a1) := statement_of_wf _
theorem atCas64 (a0 : Hdr) (a1 : List Byte) : Statement (.atCas64 a0 a1) := statement_of_wf _
theorem atMin32 (a0 : Hdr) (a1 : List Byte) : Statement (.atMin32 a0 a1) := statement_of_wf _
theorem atMin64 (a0 : Hdr) (a1 : List Byte) : Statement (.atMin64 a0 a1) := statement_of_wf _
theorem atMax32 (a0 : Hdr) (a1 : List Byte) : Statement (.atMax32 a0 a1) := statement_of_wf _
theorem atMax64 (a0 : Hdr) (a1 : List Byte) : Statement (.atMax64 a0 a1) := statement_of_wf _
theorem fence (a0 : Hdr) (a1 : List Byte) : Statement (.fence a0 a1) := statement_of_wf _
theorem fenceDequeue (a0 : Nat) : Statement (.fenceDequeue a0) := statement_of_wf _
theorem fenceComplete (a0 : Nat) (a1 : Nat) : Statement (.fenceComplete a0 a1) := statement_of_wf _
theorem fenceDeadline (a0 : Nat) (a1 : Nat) : Statement (.fenceDeadline a0 a1) := statement_of_wf _
theorem chReadShared (a0 : Hdr) : Statement (.chReadShared a0) := statement_of_wf _
theorem chReadOwn (a0 : Hdr) : Statement (.chReadOwn a0) := statement_of_wf _
theorem chUpgrade (a0 : Hdr) : Statement (.chUpgrade a0) := statement_of_wf _
theorem chWriteback (a0 : Hdr) (a1 : List Byte) : Statement (.chWriteback a0 a1) := statement_of_wf _
theorem chEvictClean (a0 : Hdr) : Statement (.chEvictClean a0) := statement_of_wf _
theorem snpInvalidateResp (a0 : Nat) (a1 : Nat) (a2 : Nat) (a3 : List Byte) : Statement (.snpInvalidateResp a0 a1 a2 a3) := statement_of_wf _
theorem snpShareResp (a0 : Nat) (a1 : Nat) (a2 : Nat) (a3 : List Byte) : Statement (.snpShareResp a0 a1 a2 a3) := statement_of_wf _
theorem snpOwnResp (a0 : Nat) (a1 : Nat) (a2 : Nat) (a3 : List Byte) : Statement (.snpOwnResp a0 a1 a2 a3) := statement_of_wf _
theorem snoopTimeout (a0 : Nat) (a1 : Nat) (a2 : Nat) : Statement (.snoopTimeout a0 a1 a2) := statement_of_wf _
theorem gfpResponseReceive (a0 : Packet) : Statement (.gfpResponseReceive a0) := statement_of_wf _
theorem packetForward (a0 : Packet) : Statement (.packetForward a0) := statement_of_wf _
theorem responseTimeout (a0 : Nat) : Statement (.responseTimeout a0) := statement_of_wf _
theorem atomicHoldExpiry (a0 : Nat) (a1 : Nat) (a2 : Nat) : Statement (.atomicHoldExpiry a0 a1 a2) := statement_of_wf _
theorem noRouteWaitExpiry (a0 : Nat) : Statement (.noRouteWaitExpiry a0) := statement_of_wf _
theorem heldRequestSend (a0 : Nat) : Statement (.heldRequestSend a0) := statement_of_wf _
theorem probe (a0 : Nat) (a1 : ProbeRec) : Statement (.probe a0 a1) := statement_of_wf _
theorem probeAnswer (a0 : Nat) (a1 : ProbeRec) : Statement (.probeAnswer a0 a1) := statement_of_wf _
theorem probeInterval : Statement (.probeInterval) := statement_of_wf _
theorem labNodeCandidate : Statement (.labNodeCandidate) := statement_of_wf _
theorem routeUpdateWithdraw (a0 : Hdr) (a1 : Nat) (a2 : Nat) (a3 : Nat) (a4 : List Nat) : Statement (.routeUpdateWithdraw a0 a1 a2 a3 a4) := statement_of_wf _
theorem routeUpdateRestore (a0 : Hdr) (a1 : Nat) (a2 : Nat) (a3 : Nat) (a4 : List Nat) : Statement (.routeUpdateRestore a0 a1 a2 a3 a4) := statement_of_wf _
theorem routeUpdateAck (a0 : Hdr) : Statement (.routeUpdateAck a0) := statement_of_wf _
theorem fill (a0 : Hdr) (a1 : List Byte) : Statement (.fill a0 a1) := statement_of_wf _
theorem copy (a0 : Hdr) (a1 : List Byte) : Statement (.copy a0 a1) := statement_of_wf _
theorem compare (a0 : Hdr) (a1 : List Byte) : Statement (.compare a0 a1) := statement_of_wf _
theorem nmReduce (a0 : Hdr) (a1 : List Byte) : Statement (.nmReduce a0 a1) := statement_of_wf _
theorem nmLeafDone (a0 : Nat) (a1 : Nat) : Statement (.nmLeafDone a0 a1) := statement_of_wf _
theorem allReduce (a0 : Hdr) (a1 : List Byte) : Statement (.allReduce a0 a1) := statement_of_wf _
theorem reduceScatter (a0 : Hdr) (a1 : List Byte) : Statement (.reduceScatter a0 a1) := statement_of_wf _
theorem reduceToMem (a0 : Hdr) (a1 : List Byte) : Statement (.reduceToMem a0 a1) := statement_of_wf _
theorem reduceSegment (a0 : Hdr) (a1 : List Byte) (a2 : List Byte) : Statement (.reduceSegment a0 a1 a2) := statement_of_wf _
theorem reduceBlockDone (a0 : Nat) (a1 : Nat) : Statement (.reduceBlockDone a0 a1) := statement_of_wf _
theorem reduceInstanceTimeout (a0 : Nat) : Statement (.reduceInstanceTimeout a0) := statement_of_wf _
theorem gather (a0 : Hdr) (a1 : List Byte) : Statement (.gather a0 a1) := statement_of_wf _
theorem scatter (a0 : Hdr) (a1 : List Byte) : Statement (.scatter a0 a1) := statement_of_wf _
theorem filterPredicate (a0 : Hdr) (a1 : List Byte) : Statement (.filterPredicate a0 a1) := statement_of_wf _
theorem filterThreshold (a0 : Hdr) (a1 : List Byte) : Statement (.filterThreshold a0 a1) := statement_of_wf _
theorem filterTopk (a0 : Hdr) (a1 : List Byte) : Statement (.filterTopk a0 a1) := statement_of_wf _
theorem filterBlockSelect (a0 : Hdr) (a1 : List Byte) : Statement (.filterBlockSelect a0 a1) := statement_of_wf _
theorem attend (a0 : Hdr) (a1 : List Byte) : Statement (.attend a0 a1) := statement_of_wf _
theorem encode (a0 : Hdr) (a1 : List Byte) : Statement (.encode a0 a1) := statement_of_wf _
theorem opSubmitDequeue (a0 : Nat) : Statement (.opSubmitDequeue a0) := statement_of_wf _
theorem opTimeout (a0 : Nat) : Statement (.opTimeout a0) := statement_of_wf _
theorem seedActivate (a0 : Nat) : Statement (.seedActivate a0) := statement_of_wf _
theorem seedCompletionReceive (a0 : Nat) (a1 : Nat) (a2 : Nat) : Statement (.seedCompletionReceive a0 a1 a2) := statement_of_wf _
theorem drillLeafArrive (a0 : Nat) (a1 : Answer) : Statement (.drillLeafArrive a0 a1) := statement_of_wf _
theorem blockRefetchDone (a0 : Nat) (a1 : List Byte) : Statement (.blockRefetchDone a0 a1) := statement_of_wf _
theorem codebookLoadDone (a0 : Nat) (a1 : Nat) : Statement (.codebookLoadDone a0 a1) := statement_of_wf _
theorem chainStart (a0 : Nat) : Statement (.chainStart a0) := statement_of_wf _
theorem verdictReady (a0 : Nat) (a1 : Nat) (a2 : Bool) : Statement (.verdictReady a0 a1 a2) := statement_of_wf _
theorem tieBreakDone (a0 : Nat) (a1 : Nat) (a2 : TieResult) : Statement (.tieBreakDone a0 a1 a2) := statement_of_wf _
theorem chainCommit (a0 : Nat) (a1 : Nat) : Statement (.chainCommit a0 a1) := statement_of_wf _
theorem seedDone (a0 : Nat) : Statement (.seedDone a0) := statement_of_wf _
theorem seedFailed (a0 : Nat) : Statement (.seedFailed a0) := statement_of_wf _
theorem ledgerWriteApplied (a0 : Nat) (a1 : Bool) : Statement (.ledgerWriteApplied a0 a1) := statement_of_wf _
theorem scratchpadParityError (a0 : Nat) (a1 : Nat) (a2 : Nat) (a3 : Bool) : Statement (.scratchpadParityError a0 a1 a2 a3) := statement_of_wf _
theorem quantumExpiry (a0 : Nat) : Statement (.quantumExpiry a0) := statement_of_wf _
theorem switchWindowExpiry (a0 : Nat) : Statement (.switchWindowExpiry a0) := statement_of_wf _
theorem contextScrubDone (a0 : Nat) : Statement (.contextScrubDone a0) := statement_of_wf _
theorem sweepPeriodStart : Statement (.sweepPeriodStart) := statement_of_wf _
theorem sweepPassDone (a0 : Nat) (a1 : Nat) (a2 : Bool) : Statement (.sweepPassDone a0 a1 a2) := statement_of_wf _
theorem healthScoreTick : Statement (.healthScoreTick) := statement_of_wf _
theorem t1AccessDone (a0 : Nat) (a1 : Nat) (a2 : Bool) (a3 : Answer) : Statement (.t1AccessDone a0 a1 a2 a3) := statement_of_wf _
theorem t1LateThreshold (a0 : Nat) (a1 : Nat) : Statement (.t1LateThreshold a0 a1) := statement_of_wf _
theorem t2LateThreshold (a0 : Nat) (a1 : Nat) : Statement (.t2LateThreshold a0 a1) := statement_of_wf _
theorem stepDeadlineExpiry (a0 : Nat) : Statement (.stepDeadlineExpiry a0) := statement_of_wf _
theorem leafCopyDone (a0 : Nat) (a1 : Nat) : Statement (.leafCopyDone a0 a1) := statement_of_wf _
theorem writeBackDone (a0 : Nat) (a1 : Nat) : Statement (.writeBackDone a0 a1) := statement_of_wf _
theorem backgroundMoveStart (a0 : Nat) : Statement (.backgroundMoveStart a0) := statement_of_wf _
theorem mirrorRebuildDone (a0 : Nat) (a1 : Nat) : Statement (.mirrorRebuildDone a0 a1) := statement_of_wf _
theorem replicaFetchDone (a0 : Nat) (a1 : Nat) (a2 : Bool) : Statement (.replicaFetchDone a0 a1 a2) := statement_of_wf _
theorem replicaFetchRetry (a0 : Nat) (a1 : Nat) : Statement (.replicaFetchRetry a0 a1) := statement_of_wf _
theorem recencyTick : Statement (.recencyTick) := statement_of_wf _
theorem agePass : Statement (.agePass) := statement_of_wf _
theorem trayAttach (a0 : Nat) (a1 : Geometry) : Statement (.trayAttach a0 a1) := statement_of_wf _
theorem pageReadResult (a0 : Nat) (a1 : Nat) (a2 : List Nat) : Statement (.pageReadResult a0 a1 a2) := statement_of_wf _
theorem retryStepResult (a0 : Nat) (a1 : Nat) (a2 : Nat) (a3 : Bool) : Statement (.retryStepResult a0 a1 a2 a3) := statement_of_wf _
theorem softReadResult (a0 : Nat) (a1 : Nat) (a2 : Nat) (a3 : Bool) : Statement (.softReadResult a0 a1 a2 a3) := statement_of_wf _
theorem pageProgramResult (a0 : Nat) (a1 : Nat) (a2 : Option Nat) : Statement (.pageProgramResult a0 a1 a2) := statement_of_wf _
theorem blockEraseResult (a0 : Nat) (a1 : Nat) (a2 : Option Nat) : Statement (.blockEraseResult a0 a1 a2) := statement_of_wf _
theorem pageRelocateResult (a0 : Nat) (a1 : Nat) (a2 : Option Nat) : Statement (.pageRelocateResult a0 a1 a2) := statement_of_wf _
theorem checkpointDue (a0 : Nat) : Statement (.checkpointDue a0) := statement_of_wf _
theorem tempReadPoll (a0 : Nat) (a1 : Nat) : Statement (.tempReadPoll a0 a1) := statement_of_wf _
theorem patrolDue (a0 : Nat) (a1 : Nat) : Statement (.patrolDue a0 a1) := statement_of_wf _
theorem compLeaseExpiry (a0 : Nat) : Statement (.compLeaseExpiry a0) := statement_of_wf _
theorem memberLeaseExpiry (a0 : Nat) (a1 : Nat) : Statement (.memberLeaseExpiry a0 a1) := statement_of_wf _
theorem drainWindowClose (a0 : Nat) : Statement (.drainWindowClose a0) := statement_of_wf _
theorem recorderSample (a0 : Nat) (a1 : Int) : Statement (.recorderSample a0 a1) := statement_of_wf _
theorem recorderFlush : Statement (.recorderFlush) := statement_of_wf _
theorem extremeFlush : Statement (.extremeFlush) := statement_of_wf _
theorem coreRestartDone (a0 : Nat) : Statement (.coreRestartDone a0) := statement_of_wf _
theorem bridgeFailure : Statement (.bridgeFailure) := statement_of_wf _
theorem jtagInstruction (a0 : Jtag) : Statement (.jtagInstruction a0) := statement_of_wf _
theorem trstNAssert : Statement (.trstNAssert) := statement_of_wf _
theorem neighbourDiscoveryEchoArp (a0 : NetKind) : Statement (.neighbourDiscoveryEchoArp a0) := statement_of_wf _
theorem bootStepDone (a0 : Bool) (a1 : Nat) (a2 : Nat) : Statement (.bootStepDone a0 a1 a2) := statement_of_wf _
theorem shadowLoadDone (a0 : Option Nat) : Statement (.shadowLoadDone a0) := statement_of_wf _
theorem secImportExportDone : Statement (.secImportExportDone) := statement_of_wf _
theorem macRekeyDone (a0 : Nat) : Statement (.macRekeyDone a0) := statement_of_wf _
theorem transmitterHoldOffEnd (a0 : Nat) : Statement (.transmitterHoldOffEnd a0) := statement_of_wf _

end Sys2Proof.Laws.Operands
end

