-- ==== Sys2Proof/Laws/Registers.lean ====
section
/-! SUPPORT. Register writes: which write of a CSR_WRITE does what, and that a write which changes no link loses no
tray. -/

namespace Sys2Proof.Machine

/-- A tray is up by the trays and the links alone. -/
theorem trayUp_congr (r s : State) (ht : s.trays = r.trays) (hl : s.links = r.links) (t : Nat) :
    s.trayUp t = r.trayUp t := by
  unfold State.trayUp State.tray
  rw [ht, hl]

/-- What leaves the trays and the links as they were drops no tray. -/
theorem dropTrays_of_same (r s : State) (ht : s.trays = r.trays) (hl : s.links = r.links) : s.dropTrays r = s := by
  have h : ((List.range 24).filter fun t => r.trayUp t && !s.trayUp t) = [] := by
    simp [trayUp_congr r s ht hl]
  rw [State.dropTrays, h]; rfl

/-- A CSR_WRITE of one register. -/
theorem csrWriteBody_one (a : Nat) (v : Word) (s : State) :
    csrWriteBody [(a, v)] s = ((s.csrWrite a v.toNat).1.dropTrays s,
      some (if (s.csrWrite a v.toNat).2 = 0 then St.OK else St.CSR_REFUSED, [.num (s.csrWrite a v.toNat).2])) := by
  simp [csrWriteBody, State.csrWrites]

@[simp] theorem setReg_trays (a v : Nat) (s : State) : (s.setReg a v).trays = s.trays := rfl
@[simp] theorem setReg_links (a v : Nat) (s : State) : (s.setReg a v).links = s.links := rfl
@[simp] theorem modFw_trays (f : Firmware → Firmware) (s : State) : (s.modFw f).trays = s.trays := rfl
@[simp] theorem modFw_links (f : Firmware → Firmware) (s : State) : (s.modFw f).links = s.links := rfl

/-- The effect of a configuration write leaves the trays and the links alone. -/
theorem cfgEffect_trays (a v : Nat) (s : State) : (s.cfgEffect a v).trays = s.trays := by
  simp only [State.cfgEffect]; split
  · rfl
  · split <;> rfl

theorem cfgEffect_links (a v : Nat) (s : State) : (s.cfgEffect a v).links = s.links := by
  simp only [State.cfgEffect]; split
  · rfl
  · split <;> rfl

/-- A write of a configuration register that passes its checks. -/
theorem csrWriteBody_cfg (a : Nat) (v : Word) (mask r : Nat) (rwl : Bool) (s : State)
    (hk : regKind a = some (.cfg mask rwl r)) (hl : (rwl && s.locked a) = false)
    (hr : cfgInRange a (v.toNat &&& mask) = true) (hn : s.cfgRefused a (v.toNat &&& mask) = false) :
    csrWriteBody [(a, v)] s =
      ok [.num Wr.WRITTEN] ((s.setReg a (v.toNat &&& mask)).cfgEffect a (v.toNat &&& mask)) := by
  have hw : s.csrWrite a v.toNat = ((s.setReg a (v.toNat &&& mask)).cfgEffect a (v.toNat &&& mask), Wr.WRITTEN) := by
    simp only [State.csrWrite, hk, hl, hr, hn, Bool.not_true, Bool.false_eq_true, if_false]
  rw [csrWriteBody_one, hw, dropTrays_of_same _ _ (by rw [cfgEffect_trays]; rfl) (by rw [cfgEffect_links]; rfl)]
  rfl

end Sys2Proof.Machine
end

