-- ==== Sys2Proof/Laws/Requests.lean ====
section
/-! SUPPORT. How a request that waits for nothing is served: the sweep over the waiting steps, the bytes that a read and a
write touch, and the end of a step. -/

namespace Sys2Proof.Machine

/-- With no step waiting, a sweep does nothing. -/
theorem sweep_none (n : Nat) (s : State) (h : s.tx.steps = []) : State.sweep n s = s := by
  induction n with
  | zero => rfl
  | succ n ih => simp only [State.sweep, h, NMap.keys, List.map_nil, List.foldl_nil]; exact ih

theorem settle_none (s : State) (h : s.tx.steps = []) : s.settle = s := sweep_none _ s h

/-- With one step waiting, and none after it has been tried, settling is that one try. -/
theorem settle_one (s : State) (i : Nat) (t : Step) (h : s.tx.steps = [(i, t)]) (hn : (s.runStep i).tx.steps = []) :
    s.settle = s.runStep i := by
  have h1 : s.settle = State.sweep 3 (s.tx.steps.keys.foldl (fun s i => s.runStep i) s) := by
    unfold State.settle
    rw [show 2 * s.tx.steps.length + 2 = 3 + 1 by rw [h]; rfl, State.sweep]
  rw [h1, h]
  exact sweep_none 3 _ hn

/-- What reading leaves alone: an access only stamps chunks. -/
structure Stamps (s t : State) : Prop where
  mem : t.pool.mem = s.pool.mem
  links : t.links = s.links
  tx : t.tx = s.tx
  coh : t.coh = s.coh
  comps : t.comps = s.comps

theorem stamps_touch (e l : Nat) (s : State) : Stamps s (s.touch e l) := by constructor <;> rfl

theorem stamps_foldl (e : Nat) (ls : List Nat) (s : State) : Stamps s (ls.foldl (fun s l => s.touch e l) s) := by
  induction ls generalizing s with
  | nil => constructor <;> rfl
  | cons l ls ih =>
    have h := ih (s.touch e l)
    exact ⟨h.mem, h.links, h.tx, h.coh, h.comps⟩

/-- An access that reads answers the bytes of the pool and changes none. -/
theorem stamps_readBytes (e off n : Nat) (s : State) :
    (s.readBytes e off n).1 = s.readPool e off n ∧ Stamps s (s.readBytes e off n).2 := ⟨rfl, stamps_foldl e _ s⟩

/-- What a write to the pool leaves alone. -/
structure Writes (s t : State) : Prop where
  mem : t.pool.mem = s.pool.mem
  links : t.links = s.links
  tx : t.tx = s.tx
  coh : t.coh = s.coh

theorem Writes.refl (s : State) : Writes s s := ⟨rfl, rfl, rfl, rfl⟩

theorem Writes.trans {s t u : State} (a : Writes s t) (b : Writes t u) : Writes s u :=
  ⟨by rw [b.mem, a.mem], by rw [b.links, a.links], by rw [b.tx, a.tx], by rw [b.coh, a.coh]⟩

theorem Writes.foldl {α : Type} (f : State → α → State) (h : ∀ s x, Writes s (f s x)) (l : List α) (s : State) :
    Writes s (l.foldl f s) := by
  induction l generalizing s with
  | nil => exact Writes.refl s
  | cons x l ih => exact (h s x).trans (ih _)

theorem writes_versionLine (e n : Nat) (s : State) : Writes s (s.versionLine e n) := by
  unfold State.versionLine
  split
  · exact Writes.refl s
  · dsimp only
    repeat' split
    all_goals constructor <;> rfl

theorem writes_lineWritten (e n : Nat) (s : State) : Writes s (s.lineWritten e n) := by
  unfold State.lineWritten
  split
  · exact Writes.refl s
  · dsimp only
    repeat' split
    all_goals constructor <;> rfl

/-- A write to an extent writes its bytes to the pool and no others. -/
theorem writeBytes_mem (e off : Nat) (b : List Byte) (s : State) (x : Extent) (h : s.extent e = some x) :
    (s.writeBytes e off b).pool.mem = cellWrites s.pool.mem (poolAddr x.store off) b
      ∧ (s.writeBytes e off b).links = s.links ∧ (s.writeBytes e off b).tx = s.tx ∧ (s.writeBytes e off b).coh = s.coh := by
  have h0 : (s.writePool e off b).pool.mem = cellWrites s.pool.mem (poolAddr x.store off) b
      ∧ (s.writePool e off b).links = s.links ∧ (s.writePool e off b).tx = s.tx ∧ (s.writePool e off b).coh = s.coh := by
    unfold State.writePool; rw [h]; exact ⟨rfl, rfl, rfl, rfl⟩
  have h1 : Writes (s.writePool e off b) (s.writeBytes e off b) := by
    unfold State.writeBytes
    rw [h]
    refine Writes.trans ?_ (Writes.foldl _ (fun s n => (writes_versionLine e n s).trans (writes_lineWritten e n _)) _ _)
    refine Writes.trans ?_ (Writes.foldl _ (fun s l => ?_) _ _)
    · constructor <;> rfl
    · constructor <;> rfl
  exact ⟨by rw [h1.mem, h0.1], by rw [h1.links, h0.2.1], by rw [h1.tx, h0.2.2.1], by rw [h1.coh, h0.2.2.2]⟩

end Sys2Proof.Machine
end

