-- ==== Sys2Proof/Tests/Slice0.lean ====
section
/-! SUPPORT. Tests: the well-formedness checks refuse an ill-formed term each; single steps with the result the spec
gives; and, for every statement with hypotheses, states and operands that meet them, clause by clause. -/

namespace Sys2Proof.Tests
open Sys2Proof Sys2Proof.Machine

set_option Elab.async false

/-- A secure session of class `k`, bound to composition 0, whose key is 7. -/
def sess (k : Option Cls) (h : Nat) : Session := { newSession 300 0 with signer := some 7, cls := k, comp := h }

/-- A composition that owns every Press, every stack and every frame, with one member at port 0, node 1. -/
def cp : Comp where
  compId := 9
  ownerId := 7
  slice := false
  releaseFlag := false
  furrow := true
  confidential := false
  pressMask := 0xFF
  stackMask := 0xFF
  fpMask := 0xFFFFFFFF
  leaseS := 60
  memberLeaseMs := 1000
  drainUs := 100
  state := .active
  epoch := 0
  windowEnd := none
  prevMap := []
  leaseEnd := 60000000000
  members := [{ lport := 0, node := 1, leaseEnd := 1000000000, lapsed := false }]
  observers := []
  deadlineUs := 1000
  pinQuota := 1000
  cnt := []
  meters := { createdNs := 0, resident := 0, press := 0, lane := 0, t0Frame := 0, t1Chunk := 0, t2Sheaf := 0, furrow := 0 }
  codebooks := []
  bindSlots := []
  evicting := none
  destroyer := none

/-- SERVING, with a session of each class (1 to 3), one with a key and no class (4), one with neither (5), and
composition 0. -/
def k0 : State := { State.reset with
  dev := { Device.reset with state := .serving, resume := .serving }
  nirod := { Nirod.reset with
    sessions := [(1, sess (some .fabricManager) 256), (2, sess (some .owner) 0), (3, sess (some .observer) 0),
      (4, sess none 256), (5, { sess none 256 with signer := none })]
    nextSession := 6
    fmKeys := [(0, 7)] }
  sec := { Sec.reset with identityValid := true, chainKey := true }
  comps := [(0, cp)] }

/-- The first command of the fabric manager's, the owner's and the unbound session, and of session 0. -/
def fm : Ctx := ⟨1, 1, none⟩
def ow : Ctx := ⟨2, 1, none⟩
def ub : Ctx := ⟨4, 1, none⟩
def s0 : Ctx := ⟨0, 0, none⟩

/-- A header of a request of `n` lines from node 1 at port 0 to node 0, for composition 9. -/
def h0 (n addr : Nat) : Hdr := ⟨0, false, false, 0, 0, 5, 1, 0, 9, 0, 0, 0, n, addr, 0, 0⟩

/-- A packet of that request. -/
def q0 (op : Nat) : Packet := ⟨op, h0 0 0, []⟩

/-- A step of extent 1 that waits for nothing. -/
def st0 : Step := ⟨q0 1, 0, 1, 0, .order, [], none, false, true, false, none, [], false⟩

/-- A manifest of five components of one byte each, the byte 0, signed by the firmware authority. -/
def m0 : Manifest := ⟨0x4B394D46, 1, 5, 255, true, 1, 4116, Config.firmwareAuthority, Config.firmwareAuthority, true,
  (List.range' 1 5).map fun n => ⟨n, true, 1, Config.sha3 [0]⟩, 0⟩

/-- The bank that holds it whole. -/
def b0 : Bank := ⟨some m0, (List.range' 1 5).map fun n => (n, [(0, 0)])⟩

/-- `k0` with the firmware changed. -/
def kf (f : Firmware → Firmware) : State := { k0 with fw := f k0.fw }

/-- A boot at step `n`. -/
def kb (n : Nat) : State := { k0 with dev := Device.reset, fw := { Firmware.reset with step := n } }

/-- The token of target `n` that `signer` signed for this device. -/
def tk (n : Nat) (signer : Digest) : Token := ⟨n, Config.identity 0, 3, 0, ⟨signer, true⟩⟩

/-- `k0` after SEC_STATUS gave the nonce 3, with debug key 7 registered. -/
def kd (d : DebugState) : State := { k0 with
  nirod := { k0.nirod with nonce := some 3 }
  csr := [(Reg.SE_DEBUG_AUTH, 7)]
  sec := { k0.sec with debugSt := d }
  comps := [] }

theorem m0_valid : Manifest.valid m0 = true := by simp [Manifest.valid, m0]

theorem b0_whole : ∀ x ∈ m0.comps, b0.complete x = true ∧ b0.matchesDigest x = true := by
  intro x hx
  simp [m0, List.range'] at hx
  rcases hx with rfl | rfl | rfl | rfl | rfl <;>
    exact ⟨by decide +kernel, by simp [Bank.matchesDigest, b0, NMap.look, List.range']⟩

theorem fresh (s : State) (k : Token) (h1 : k.sig.ok = true) (h2 : k.device = Config.identity s.sec.identityGen)
    (h3 : s.nirod.nonce = some k.nonce) (h4 : s.clk.timeNs ≤ k.expiry) : s.tokenFresh k = true := by
  simp [State.tokenFresh, *]

/-- An ACTIVE extent of one 2 MiB chunk at address `b` of composition 0, in T1, nothing written. -/
def ex (b st : Nat) : Extent where
  comp := 0
  base := b
  size := 2097152
  tier := .t1Home
  vq := false
  isProtected := false
  durability := .single
  affinity := 0
  slotLines := 0
  homeTrays := 0xFFFFFF
  replica := 0
  initialHint := .warm
  state := .active
  store := st
  sheafBase := none
  chunks := [(0, ⟨0, none, none, .warm, 0, [], false, false, [], false⟩)]
  written := []
  poison := []
  marks := []
  sealer := none
  drainers := []
  counters := []
  macGen := 0
  rekeying := false
  replicaFetch := []

/-- A protected extent. -/
def xp : Extent := { ex 0x200000 1 with isProtected := true }

/-- `k0` with the extents 1, plain, and 2, protected. -/
def kp : State := { k0 with pool := { Pool.reset with extents := [(1, ex 0 0), (2, xp)], nextExtent := 3, nextStore := 2 } }

theorem next_ne (w : Word64) : w + 1 ≠ w := by
  intro h
  have := congrArg BitVec.toNat h
  simp [BitVec.toNat_add] at this
  omega

theorem expel_ok (a : Nat) (r : ExpelReq) (s : State) (h1 : r.node ≤ 0xFFF) (h2 : s.topo.assigned = false)
    (h3 : r.linkId ≠ s.linkId) (h4 : s.clk.timeNs ≤ r.expiry) (h5 : r.expiry ≤ s.clk.timeNs + 60000000000)
    (h6 : s.ft.managers.isEmpty = false) (h7 : s.ft.quorum ≤ s.validSigners r.sigs) (h8 : s.ft.applied = []) :
    expelCheck a r s = none := by
  simp [expelCheck, Nat.not_lt.mpr h1, h2, h3, Nat.not_lt.mpr h4, Nat.not_lt.mpr h5, h6, Nat.not_lt.mpr h7, h8]

/-- An EXPEL or READMIT of another K9's, signed by the one manager. -/
def xr : ExpelReq := ⟨0xFFF, k0.linkId + 1, 60000000000, [⟨7, true⟩]⟩

/-- `k0` with one manager and the expel list `l`. -/
def kx (l : List ExpelEntry) (r : List (Nat × Word64 × Nat)) : State :=
  { k0 with ft := { Ft.reset with managers := [7], quorum := 1, expelled := l, recent := r } }

/-- `k0` with the one extent 1. -/
def ke (x : Extent) : State := { k0 with pool := { Pool.reset with extents := [(1, x)], nextExtent := 2, nextStore := 1 } }

/-- A composition to create, of form `f`. -/
def cr (f : Nat) : CompReq := ⟨65535, 7, f, 1, 1, 1, 0xFF, if f = 1 then 0xFF else 0, if f = 1 then 0xFFFFFFFF else 0, 3600, 60000, 10000⟩

/-- An extent to create. -/
def er : ExtentReq := ⟨0, 2097152, 0, 0, 0, 0, none, 1, none, 0xFFFFFF, none⟩

/-- A key-value object of one page in extent 1. -/
def kv : Kv := ⟨5, 1, 0, 1, 1, 1, 64, true, .ready, 0, 0, 30000000000, []⟩

/-- `k0` with the object 1. -/
def kk (o : Kv) : State := { k0 with pool := { (ke (ex 0 0)).pool with kv := [(1, o)], nextKv := 2 } }

/-- A peer's port that is UP. -/
def lp : LPort := { LPort.reset 8 with enable := true, role := .peer, st := .up, signal := true }

/-- `k0` with port 8 in the state `l`, node 2. -/
def kl (l : LPort) : State := { k0 with links := [(8, l)], topo := { Topo.reset with assigned := true, node := 2 } }

/-- `ke x` with tray 0 attached at port 16. -/
def kt (x : Extent) : State := { ke x with
  trays := [(0, { Tray.reset with state := .normal, lport := some 16 })]
  links := [(16, { lp with role := .tray })] }

/-- A coherence domain of composition 0 with the agent 15 at node 1, port 0. -/
def dm : Domain := ⟨0, [(15, ⟨1, 0, 0, false⟩)], [], 0, 1024, [], [], [], 0, [], none⟩

/-- `ke (ex 0 0)` with the domain 63. -/
def kc (d : Domain) : State := { ke (ex 0 0) with coh := [(63, d)] }

/-- A group of composition 0 on press 7, and `k0` with it. -/
def gr : Group := ⟨0, 65535, 7, [(1, 0), (2, 8)], none, [], []⟩
def kg (g : Group) : State := { kl lp with work := { Work.reset with groups := [(1, g)] } }

/-- A neighbour, and the probe that it sends. -/
def nb : Nbr := ⟨.new, 5, 3, 0, true, 0, 0, false, none, 0, 0, 0⟩
def pr : ProbeRec := ⟨5, 3, 0, true, true, false, false, false, false, false, 8, 0, 0, 0⟩

/-- The trailer of a good flit of sequence number `n`. -/
def tr (n : Nat) : Trailer := ⟨n, 0, 0, false, false, 0, 0, true, true, 0, 0, 0, 0, false, false, true⟩

theorem leNat_zero (n : Nat) : leNat (List.replicate n 0#8) = 0 := by
  induction n with
  | zero => rfl
  | succ n ih => simp [List.replicate_succ, leNat, ih]

theorem finite_zero (n : Nat) : codebookFinite (List.replicate n 0#8) = true := by
  simp [codebookFinite, leAt, leNat_zero]

/-- An accelerator's port with one packet in queue 0 and a credit for it. -/
def lq : LPort := { lp with role := .accel, credits := [(0, 1)], queues := [(0, { Queue.reset with packets := [(q0 1, 0)] })] }

/-- `ke x` with an accelerator at port 0 and a peer at port 8; this K9 is node 0. -/
def kr (x : Extent) : State := { ke x with
  links := [(0, { lp with role := .accel }), (8, lp)]
  topo := { Topo.reset with assigned := true } }

/-- The header of a request `op` of node 1 at port 0, with `n` bytes of data. -/
def hq (op n : Nat) : Hdr := { h0 0 0 with length := n }.sealed op

/-- `ex 0 0` with leaf 0 in T0. -/
def et : Extent := { ex 0 0 with chunks := [(0, ⟨0, none, none, .warm, 0, [(0, ⟨0, false⟩)], false, false, [], false⟩)] }

/-- A FILL of one line, and a segment of one word. -/
def fd : List Byte := [1, 1] ++ List.replicate 26 0 ++ [0x28, 0xC5, 0, 0xBB] ++ List.replicate 8 0 ++ leBytes 8 128
  ++ List.replicate 208 0
def sg : List Byte := [0x13, 1] ++ List.replicate 26 0 ++ [0xBC, 0x77, 0xA3, 0xD7] ++ List.replicate 8 0 ++ leBytes 2 64
  ++ List.replicate 22 0

/-- A CRC over two runs of bytes, by the value after the first. -/
theorem crc_two (a b : List Byte) (c d e : BitVec 32) (h : a.foldl crcByte c = d) (k : b.foldl crcByte d = e) :
    (a ++ b).foldl crcByte c = e := by rw [List.foldl_append, h, k]

theorem fd_sum : crc32 (([1, 1] ++ List.replicate 38 0 ++ leBytes 8 128) ++ List.replicate 208 0) = 0xBB00C528#32 := by
  have z : List.replicate 26 (0 : Byte) ++ (List.replicate 26 0 ++ (List.replicate 26 0 ++ (List.replicate 26 0
      ++ (List.replicate 26 0 ++ (List.replicate 26 0 ++ (List.replicate 26 0 ++ List.replicate 26 0)))))) = List.replicate 208 0 := by
    decide +kernel
  rw [← z, crc32, crc_two _ _ _ 0x0a842e09#32 0x44ff3ad7#32 (by decide +kernel)
    (crc_two _ _ _ 0x8c5ac11c#32 _ (by decide +kernel) (crc_two _ _ _ 0x3f937fb2#32 _ (by decide +kernel)
    (crc_two _ _ _ 0xcc1c87d6#32 _ (by decide +kernel) (crc_two _ _ _ 0xaa32f0cf#32 _ (by decide +kernel)
    (crc_two _ _ _ 0x5913d939#32 _ (by decide +kernel) (crc_two _ _ _ 0xe8240ee4#32 _ (by decide +kernel)
    (crc_two _ _ _ 0xef5c7291#32 _ (by decide +kernel) (by decide +kernel))))))))]
  decide +kernel

theorem fd_check (d : List Byte) (v : Nat) (e : d.take 28 ++ leBytes 4 0 ++ (d.drop 32).take 224
      = ([1, 1] ++ List.replicate 38 0 ++ leBytes 8 128) ++ List.replicate 208 0) (h : leAt d 28 4 = v) :
    descCrcOk d 256 = (v == 0xBB00C528) := by
  simp only [descCrcOk, show 256 - 32 = 224 from rfl, e, fd_sum, h]
  rfl

theorem fd_crc : descCrcOk fd 256 = true := fd_check fd 0xBB00C528 (by decide +kernel) (by decide +kernel)
theorem fd_bad : descCrcOk (fd.set 31 0) 256 = false := fd_check _ 0xC528 (by decide +kernel) (by decide +kernel)

theorem sg_crc : descCrcOk sg 64 = true := by
  have e : sg.take 28 ++ leBytes 4 0 ++ (sg.drop 32).take 32
      = ([0x13, 1] ++ List.replicate 30 0) ++ (List.replicate 8 0 ++ leBytes 2 64 ++ List.replicate 22 0) := by decide +kernel
  have h : crc32 (sg.take 28 ++ leBytes 4 0 ++ (sg.drop 32).take 32) = 0xD7A377BC#32 := by
    rw [e, crc32, crc_two _ _ _ 0x3c5424d5#32 0x285c8843#32 (by decide +kernel) (by decide +kernel)]
    decide +kernel
  simp only [descCrcOk, show 64 - 32 = 32 from rfl, h]
  decide +kernel

theorem pair_eq {α β : Type} (x : α × β) (b : β) (h : x.2 = b) : x = (x.1, b) := by cases x; cases h; rfl

/-- A running operation of kind `k`, and `kr x` with it. -/
def og (k : OpKind) : Op := { newOp k 0 (hq 0x30 256) fd with phase := .running, todo := [0], seeds := [1] }
def ko (x : Extent) (o : Op) : State := { kr x with work := { Work.reset with ops := [(1, o)], nextOp := 2 } }

/-- An active seed of operation 1 on press 7 that fetches leaf 0 of extent 1. -/
def sd : Seed := ⟨1, 0, 0, 7, .active, .rows 0 1, [], [], 1, 0, 0, false, [⟨1, 0⟩], 0, false, none, 0, 0, 0, 0, false,
  false, false, 0, 0, 0⟩

/-- A lit press of composition 0. -/
def pl : Press := { Press.reset with state := .lit, ctx := some 0 }

/-- `kr x` with the operation `o`, the seed `z` and press 7 as `p`. -/
def ks (x : Extent) (o : Op) (z : Seed) (p : Press) : State := { kr x with
  work := { Work.reset with ops := [(1, o)], nextOp := 2, seeds := [(1, z)], nextSeed := 2 }
  presses := [(7, p)] }

/-- A contributor whose submission has come. -/
def cb0 : Contrib := ⟨0, some (hq 0x30 256), 0, [], none, 0, false⟩

/-- A chain of engine 3 for seed 1. -/
def ch : Chain := ⟨3, 1, 1, 0, false, false, false⟩

/-- Tray 0 attached, with sheaf 0 of the extent 1 in superblock 2. -/
def ty : Tray := { Tray.reset with state := .normal, lport := some 16, goodSb := 200000, freeSb := 100 }
def ef : Extent := { ex 0 0 with tier := .t2Home, sheafBase := some 0 }
def kh (r : Tray) : State := { kt ef with trays := [(0, r)] }

/-- A binding record of one device, this one. -/
def rec0 : List Byte := ([0x42, 0x57, 0x39, 0x4B, 1, 1] ++ List.replicate 34 0 ++ digestBytes (Config.sha3 (List.replicate 1312 0))
  ++ List.replicate 56 0 ++ digestBytes (Config.identity 0) ++ List.replicate 1136 0) ++ (List.replicate 1312 0 ++ List.replicate 2420 0)

/-- `ke (ex 0 0)` with that record in the extent, its owner the record's issuer. -/
def kw : State := { ke (ex 0 0) with
  comps := [(0, { cp with ownerId := Config.sha3 (List.replicate 1312 0) })]
  pool := { (ke (ex 0 0)).pool with mem := byteCells 0 rec0 } }

theorem leNat_leBytes (n v : Nat) : leNat (leBytes n v) = v % 256 ^ n := by
  induction n generalizing v with
  | zero => simp [leBytes, leNat, Nat.mod_one]
  | succ n ih =>
    simp only [leBytes, leNat, ih, BitVec.toNat_ofNat]
    rw [show (256 : Nat) ^ (n + 1) = 256 * 256 ^ n from by rw [Nat.pow_succ, Nat.mul_comm], Nat.mod_mul]

theorem digest_back (d : Digest) : digestOf (digestBytes d) = d := by
  simp only [digestOf, digestBytes, leNat_leBytes]
  rw [Nat.mod_eq_of_lt (by exact d.isLt)]
  simp

theorem leBytes_len (n v : Nat) : (leBytes n v).length = n := by
  induction n generalizing v with
  | zero => rfl
  | succ n ih => simp [leBytes, ih]

theorem rec0_len : rec0.length = 5028 := by
  simp only [rec0, digestBytes, List.length_append, leBytes_len, List.length_replicate, List.length_cons, List.length_nil]

theorem rec0_read (n : Nat) (h : n ≤ 5028) : rec0.take n = (kw.taken ow 0x5004 (Target.ofComp 0)).readPool 1 0 n :=
  (cellsRun_byteCells rec0 0 n (rec0_len ▸ h)).symm.trans (by
    show _ = cellsRun ((byteCells 0 rec0).dropWhile fun c => decide (c.1 < 0)) 0 n
    cases byteCells 0 rec0 <;> rfl)

theorem rec0_ok : bindRefused (kw.taken ow 0x5004 (Target.ofComp 0)) { cp with ownerId := Config.sha3 (List.replicate 1312 0) }
    rec0 true true = none := by
  have f : brFormat rec0 = true := by decide +kernel
  have i : brIssuer rec0 = Config.sha3 (List.replicate 1312 0) :=
    (congrArg digestOf (show (rec0.drop 40).take 32 = digestBytes _ from rfl)).trans (digest_back _)
  have c : brCount rec0 = 1 := by decide +kernel
  have p : brIssuerPk rec0 = List.replicate 1312 0 := by
    rw [brIssuerPk, c, rec0, List.drop_left' (by
      simp only [digestBytes, List.length_append, leBytes_len, List.length_replicate, List.length_cons, List.length_nil]),
      List.take_left' List.length_replicate]
  have d : digestOf ((rec0.drop (128 + 1168 * 0)).take 32) = Config.identity 0 :=
    (congrArg digestOf (show (rec0.drop (128 + 1168 * 0)).take 32 = digestBytes _ from rfl)).trans (digest_back _)
  have g : (kw.taken ow 0x5004 (Target.ofComp 0)).sec = k0.sec := rfl
  have m : brMinSvn rec0 = 0 := by decide +kernel
  have r : (List.range 1).any (fun i => digestOf ((rec0.drop (128 + 1168 * i)).take 32) == Config.identity 0) = true := by
    show (digestOf ((rec0.drop (128 + 1168 * 0)).take 32) == Config.identity 0 || false) = true
    rw [d]; simp
  unfold bindRefused
  simp only [f, i, p, c, g, m]
  rw [show k0.sec.identityGen = 0 from rfl, r]
  simp only [bne_self_eq_false, Bool.not_true, Bool.or_self, Bool.false_eq_true, if_false, ne_eq, not_true_eq_false,
    Nat.not_lt_zero, show k0.sec.chainKey = true from rfl]

/-- An ENCODE of one stage with codebook 63. -/
def og2 : Op := { og .encode with desc := List.replicate 52 0 ++ [1, 0, 63] }

/-- A Nirod packet, and a key-value object to create. -/
def np : NirodPart := ⟨true, 1, false, false, true, true, 3, 1, 1, 16, 127, true, []⟩
def kr0 : KvReq := ⟨5, 1, 0, 1, 1, 1, 256, true, some 3600⟩

/-! ### Well-formedness -/

theorem test_wf_refuses_a : ∀ i ∈ ([.railUndervoltage 12 0, .ppsInEdge (2 ^ 64), .evtInChange (2 ^ 3) false, .throttleLevelRise (2 ^ 16) 0,
    .throttleLevelRise 0 (2 ^ 16), .throttleLevelFall (2 ^ 16) 0, .throttleLevelFall 0 (2 ^ 16),
    .partTimeout (2 ^ 32) 0, .partTimeout 0 (2 ^ 32), .sessionIdleTimeout (2 ^ 32), .snapshotExpiry (2 ^ 32) 0,
    .sessionOpen fm (2 ^ 8) 0 0 0, .sessionOpen fm 0 (2 ^ 16) 0 0, .sessionOpen fm 0 0 (2 ^ 32) 0,
    .sessionOpen fm 0 0 0 (2 ^ 16), .deviceStateSet fm (2 ^ 8), .csrRead fm [2 ^ 32], .colophon fm 0 (2 ^ 32),
    .sliceEvictionDone (2 ^ 8), .compDestroy fm (2 ^ 8), .compDestroyDone (2 ^ 8),
    .compMemberAdd fm (2 ^ 8) 0 0, .compMemberAdd fm 0 (2 ^ 8) 0, .compMemberAdd fm 0 0 (2 ^ 12),
    .compMemberRemove fm (2 ^ 8) 0 false, .compMemberRemove fm 0 (2 ^ 8) false, .compRenew fm (2 ^ 8) none,
    .compPressSet fm (2 ^ 8) 0, .compInfo fm (2 ^ 8), .compMeterRead fm (2 ^ 8), .compStats fm (2 ^ 8),
    .compObserverSet fm (2 ^ 8) [], .cohDomainCreate fm (2 ^ 8) 0 0, .cohDomainDestroy fm (2 ^ 6),
    .cohAgentAdd fm (2 ^ 6) 0 0 0 0, .cohAgentAdd fm 0 (2 ^ 4) 0 0 0, .cohAgentAdd fm 0 0 (2 ^ 12) 0 0,
    .cohAgentAdd fm 0 0 0 (2 ^ 8) 0, .cohAgentAdd fm 0 0 0 0 (2 ^ 4), .cohAgentRemove fm (2 ^ 6) 0 false,
    .cohAgentRemove fm 0 (2 ^ 4) false, .cohExtentAttach fm (2 ^ 6) 0, .cohExtentAttach fm 0 (2 ^ 32),
    .cohExtentDetach fm (2 ^ 6) 0, .cohExtentDetach fm 0 (2 ^ 32), .cohRecallDone (2 ^ 6),
    .cohReclaimClear fm (2 ^ 6) 0, .cohReclaimClear fm 0 (2 ^ 32), .cohDomainInfo fm (2 ^ 6),
    .extentCreate fm (2 ^ 8) er, .extentDestroy fm (2 ^ 32), .extentHint fm (2 ^ 32) 0 0 0,
    .extentHint fm 0 (2 ^ 32) 0 0, .extentHint fm 0 0 (2 ^ 32) 0, .extentHint fm 0 0 0 (2 ^ 8),
    .extentSeal fm (2 ^ 32), .extentSealDone (2 ^ 32) 0, .extentRevoke fm (2 ^ 32), .extentDrain fm (2 ^ 32),
    .extentDrainDone (2 ^ 32)] : List Instr), i.wf = false := by decide +kernel

theorem test_wf_refuses_b : ∀ i ∈ ([.extentAdopt fm (2 ^ 32) 0, .extentAdopt fm 0 (2 ^ 8), .extentInfo fm (2 ^ 32), .kvPublish fm (2 ^ 32),
    .kvLookup fm (2 ^ 8) 0, .kvAcquire fm (2 ^ 32), .kvRelease fm (2 ^ 32), .kvRenew fm (2 ^ 32) 0,
    .kvRenew fm 0 (2 ^ 32), .kvHint fm (2 ^ 32) 0, .kvHint fm 0 (2 ^ 8), .kvDestroy fm (2 ^ 32),
    .kvLeaseExpiry (2 ^ 32), .vqCodebookSet fm (2 ^ 8) 0 0, .vqCodebookSet fm 0 (2 ^ 8) 0,
    .vqCodebookSet fm 0 0 (2 ^ 57), .vqCodebookClear fm (2 ^ 8) 0, .vqCodebookClear fm 0 (2 ^ 8),
    .vqCodebookInfo fm (2 ^ 8), .vqSlotStatus fm (2 ^ 32) 0 0, .reduceGroupCreate fm (2 ^ 8) 0 0 [] none,
    .reduceGroupCreate fm 0 (2 ^ 16) 0 [] none, .reduceGroupCreate fm 0 0 (2 ^ 8) [] none,
    .reduceGroupDestroy fm (2 ^ 8) 0, .reduceGroupDestroy fm 0 (2 ^ 16), .ledgerOpen fm (2 ^ 8) 0 0 0 0 none,
    .ledgerOpen fm 0 (2 ^ 12) 0 0 0 none, .ledgerOpen fm 0 0 (2 ^ 57) 0 0 none, .nodeIdSet fm (2 ^ 12),
    .routeSet fm (2 ^ 12) [], .routeGet fm (2 ^ 12) 0, .neighbourAccept fm (2 ^ 8),
    .spdmFinish fm (2 ^ 32) ⟨0, true⟩, .spdmKeyUpdate fm (2 ^ 32) false, .spdmHeartbeat fm (2 ^ 32),
    .spdmEndSession fm (2 ^ 32), .weightBind fm (2 ^ 8) 0 false false, .weightBind fm 0 (2 ^ 57) false false,
    .weightUnbind fm (2 ^ 8) 0, .weightUnbind fm 0 (2 ^ 8), .secImport fm (2 ^ 8) 0 0 0 none [],
    .secImport fm 0 (2 ^ 57) 0 0 none [], .secImport fm 0 0 0 (2 ^ 57) none [], .secExport fm (2 ^ 8) 0 0 0,
    .secExport fm 0 (2 ^ 57) 0 0, .secExport fm 0 0 0 (2 ^ 57), .fmKeySet fm (2 ^ 8) 0,
    .evtSubscribe fm [2 ^ 10] 0 0, .evtSubscribe fm [] 0 (2 ^ 16), .evtUnsubscribe fm (2 ^ 8),
    .evtClaim fm (2 ^ 8) 0, .evtClaim fm 0 (2 ^ 10), .evtComplete fm (2 ^ 8) 0, .evtComplete fm 0 (2 ^ 10),
    .powerStateSet fm (2 ^ 8), .fwUpdateBlock fm (2 ^ 32) 0 0 [], .fwUpdateBlock fm 0 (2 ^ 8) 0 [],
    .fwUpdateBlock fm 0 0 (2 ^ 32) [], .recRead fm [2 ^ 16], .recClear fm [2 ^ 16] (tk 0 0)] : List Instr), i.wf = false := by decide +kernel

theorem test_wf_refuses_c : ∀ i ∈ ([.ftUnfence fm (2 ^ 3) 0 false, .ftUnfence fm 0 5 false, .pressReset fm (2 ^ 3),
    .pressResetDone (2 ^ 3) false 0, .lockSet fm (2 ^ 32) 0, .evcTgtClaimRead (2 ^ 3),
    .evcTgtCompleteWrite (2 ^ 3) 0, .swQShaperWrite fm (2 ^ 32) 0, .furrowSlotWrite fm (2 ^ 6) 0,
    .signalDetect (2 ^ 8), .signalLoss (2 ^ 8), .detectDone (2 ^ 8), .laneLockDone (2 ^ 8) 0,
    .alignDone (2 ^ 8) 0 0 false false, .alignDone 0 0 (2 ^ 8) false false, .equalizeDone (2 ^ 8) 0,
    .equalizeDone 0 (2 ^ 4), .fastEqualizeFail (2 ^ 8), .linkInitDone (2 ^ 8) ⟨0, true, true, true, []⟩,
    .trainingStepTimeout (2 ^ 8), .dataFlitReceive (2 ^ 8) (tr 0) [], .idleFlitReceive (2 ^ 8) (tr 0),
    .fallowReqReceive (2 ^ 8), .fallowAckReceive (2 ^ 8), .keySwitchReceive (2 ^ 8) 0,
    .keySwitchReceive 0 (2 ^ 2), .nakReceive (2 ^ 8) 0, .nakReceive 0 (2 ^ 12), .ackStallTimeout (2 ^ 8),
    .nakResendTimeout (2 ^ 8), .linkKeyEstablished (2 ^ 8), .rekeyDue (2 ^ 8), .portIdleTimeout (2 ^ 8),
    .fallowLockBurst (2 ^ 8), .wakeToneReceive (2 ^ 8), .portWakeDone (2 ^ 8), .portWakeTimeout (2 ^ 8),
    .pressIdleTimeout (2 ^ 3), .pressFallowDone (2 ^ 3), .pressWakeDone (2 ^ 3), .hbmIdleTimeout (2 ^ 3),
    .hbmWakeDone (2 ^ 3), .claimTimeout (2 ^ 10), .watchdogExpiry (2 ^ 3), .escapeWaitExpiry (2 ^ 8) 0,
    .escapeWaitExpiry 0 (2 ^ 3), .spillFetchDone (2 ^ 8) 0, .spillFetchDone 0 (2 ^ 4), .egressSend (2 ^ 8),
    .fenceDequeue (2 ^ 8), .fenceComplete (2 ^ 8) 0, .fenceComplete 0 (2 ^ 16), .fenceDeadline (2 ^ 8) 0,
    .fenceDeadline 0 (2 ^ 16), .snpInvalidateResp (2 ^ 6) 0 0 [], .snpInvalidateResp 0 (2 ^ 4) 0 [],
    .snpShareResp (2 ^ 6) 0 0 [], .snpShareResp 0 (2 ^ 4) 0 [], .snpOwnResp (2 ^ 6) 0 0 [],
    .snpOwnResp 0 (2 ^ 4) 0 []] : List Instr), i.wf = false := by decide +kernel

theorem test_wf_refuses_d : ∀ i ∈ ([.snoopTimeout (2 ^ 6) 0 0, .snoopTimeout 0 (2 ^ 4) 0, .responseTimeout (2 ^ 16),
    .atomicHoldExpiry (2 ^ 12) 0 0, .atomicHoldExpiry 0 (2 ^ 8) 0, .atomicHoldExpiry 0 0 (2 ^ 32),
    .probe (2 ^ 8) pr, .probeAnswer (2 ^ 8) pr, .routeUpdateWithdraw (h0 0 0) 0 0 0 [2 ^ 12],
    .routeUpdateRestore (h0 0 0) 0 0 0 [2 ^ 12], .seedActivate (2 ^ 3), .seedCompletionReceive (2 ^ 3) 0 0,
    .codebookLoadDone (2 ^ 3) 0, .codebookLoadDone 0 (2 ^ 6), .chainStart (2 ^ 3),
    .verdictReady (2 ^ 3) 0 false, .verdictReady 0 5 false, .tieBreakDone (2 ^ 3) 0 .neither,
    .tieBreakDone 0 5 .neither, .chainCommit (2 ^ 3) 0, .chainCommit 0 5,
    .scratchpadParityError (2 ^ 3) 0 0 false, .scratchpadParityError 0 (2 ^ 4) 0 false,
    .scratchpadParityError 0 0 1536 false, .quantumExpiry (2 ^ 3), .switchWindowExpiry (2 ^ 3),
    .contextScrubDone (2 ^ 3), .sweepPassDone (2 ^ 3) 0 false, .sweepPassDone 0 5 false,
    .t1AccessDone (2 ^ 32) 0 false .ok, .t1LateThreshold (2 ^ 32) 0, .t2LateThreshold (2 ^ 32) 0,
    .leafCopyDone (2 ^ 32) 0, .writeBackDone (2 ^ 32) 0, .backgroundMoveStart 24, .mirrorRebuildDone (2 ^ 32) 0,
    .replicaFetchDone (2 ^ 32) 0 false, .replicaFetchRetry (2 ^ 32) 0, .trayAttach 24 Geometry.none,
    .pageReadResult 24 0 [], .retryStepResult 24 0 0 false, .softReadResult 24 0 0 false,
    .pageProgramResult 24 0 none, .blockEraseResult 24 0 none, .pageRelocateResult 24 0 none, .checkpointDue 24,
    .tempReadPoll 24 0, .patrolDue 24 0, .compLeaseExpiry (2 ^ 8), .memberLeaseExpiry (2 ^ 8) 0,
    .memberLeaseExpiry 0 (2 ^ 8), .drainWindowClose (2 ^ 8), .recorderSample (2 ^ 16) 0,
    .coreRestartDone (2 ^ 3), .macRekeyDone (2 ^ 32), .transmitterHoldOffEnd (2 ^ 8),
    .nirodPartReceive { np with version := 256 }, .nirodPartReceive { np with opcode := 65536 },
    .nirodPartReceive { np with session := 2 ^ 32 }, .nirodPartReceive { np with seq := 2 ^ 32 }] : List Instr), i.wf = false := by decide +kernel

theorem test_wf_refuses_e : ∀ i ∈ ([.nirodPartReceive { np with length := 65536 }, .nirodPartReceive { np with part := 256 },
    .csrWrite fm [(2 ^ 32, 0)], .reduceGroupCreate fm 0 0 0 [(4096, 0)] none,
    .reduceGroupCreate fm 0 0 0 [(0, 256)] none, .routeSet fm 0 [⟨4096, true, true, 0, 0, [], true⟩],
    .routeSet fm 0 [⟨0, true, true, 0, 0, List.replicate 17 0, true⟩],
    .routeSet fm 0 [⟨0, true, true, 0, 0, [256], true⟩], .expel fm { xr with node := 4096 },
    .expel fm { xr with expiry := 2 ^ 64 }, .readmit fm { xr with node := 4096 },
    .readmit fm { xr with expiry := 2 ^ 64 }, .unitSwitchDone (.core 8), .unitSwitchDone (.press 8),
    .switchPhaseTimeout (.tile 8), .switchPhaseTimeout (.stack 8), .revertDone (.tray 24),
    .linkInitDone 0 ⟨4, true, true, true, []⟩, .dataFlitReceive 0 { tr 0 with seq := 4096 } [],
    .dataFlitReceive 0 { tr 0 with ackSeq := 4096 } [], .dataFlitReceive 0 { tr 0 with vc := 8 } [],
    .idleFlitReceive 0 { tr 0 with endOffset := 256 }, .idleFlitReceive 0 { tr 0 with creditVc := 8 },
    .dataFlitReceive 0 (tr 0) [{ q0 1 with opcode := 256 }], .gfpResponseReceive { q0 1 with opcode := 256 },
    .probe 0 { pr with node := 4096 }, .probe 0 { pr with member := 16 },
    .probeAnswer 0 { pr with node := 4096 }, .probeAnswer 0 { pr with member := 16 },
    .compCreate fm { cr 0 with compId := 65536 }, .compCreate fm { cr 0 with form := 256 },
    .compCreate fm { cr 0 with ordering := 256 }, .compCreate fm { cr 0 with isolation := 256 },
    .compCreate fm { cr 0 with confidential := 256 }, .compCreate fm { cr 0 with leaseS := 2 ^ 32 },
    .compCreate fm { cr 0 with memberLeaseMs := 2 ^ 32 }, .compCreate fm { cr 0 with drainUs := 2 ^ 32 },
    .extentCreate fm 0 { er with base := 2 ^ 57 }, .extentCreate fm 0 { er with size := 2 ^ 57 },
    .extentCreate fm 0 { er with tier := 256 }, .extentCreate fm 0 { er with layout := 256 },
    .extentCreate fm 0 { er with protection := 256 }, .extentCreate fm 0 { er with durability := 256 },
    .extentCreate fm 0 { er with hint := 256 }, .kvCreate fm { kr0 with extent := 2 ^ 32 },
    .kvCreate fm { kr0 with objOffset := 2 ^ 57 }, .nop ⟨2 ^ 32, 0, none⟩, .nop ⟨1, 2 ^ 32, none⟩,
    .nop ⟨0, 1, none⟩, .load { h0 0 0 with lport := 256 }, .load { h0 0 0 with tc := 8 },
    .load { h0 0 0 with tag := 65536 }, .load { h0 0 0 with src := 4096 }, .load { h0 0 0 with dst := 4096 },
    .load { h0 0 0 with compId := 65536 }, .load { h0 0 0 with epoch := 256 },
    .load { h0 0 0 with status := 256 }, .load { h0 0 0 with length := 8192 },
    .load { h0 0 0 with lines := 32 }, .load { h0 0 0 with addr := 2 ^ 57 }] : List Instr), i.wf = false := by decide +kernel

theorem test_wf_refuses_f : ∀ i ∈ ([.load { h0 0 0 with seq := 2 ^ 32 }] : List Instr), i.wf = false := by decide +kernel

theorem test_wf_refuses_long (a : List Digest) (b d : List Byte) (ha : a.length = 65537) (hb : b.length = 73729)
    (hd : d.length = 4097) : (Instr.compObserverSet fm 0 a).wf = false ∧ (Instr.fwUpdateBlock fm 0 0 0 b).wf = false
      ∧ (Instr.packetForward { q0 1 with data := d }).wf = false := by
  have n (i : Instr) (h : i.operandsOk = false) : i.wf = false := by rw [Instr.wf, h, Bool.and_false]
  refine ⟨n _ ?_, n _ ?_, n _ ?_⟩
  · show (fits 8 0 && decide (a.length ≤ 65536)) = false
    rw [ha]; rfl
  · show (fits 32 0 && fits 8 0 && fits 32 0 && decide (b.length ≤ 73728)) = false
    rw [hb]; rfl
  · show (fits 8 1 && (h0 0 0).wf && decide (d.length ≤ 4096)) = false
    rw [hd]; rfl

theorem test_wf_accepts : ∀ i ∈ ([.nop fm, .nop s0, .load (h0 31 0), .nirodPartReceive np, .compCreate fm (cr 1),
    .extentCreate ow 0 er, .kvCreate ow kr0, .expel fm xr, .dataFlitReceive 8 (tr 4095) [q0 1], .egressSend 255] : List Instr),
    i.wf = true := by decide +kernel

/-! ### Single steps -/

/-- The state that a command leaves. -/
def after (i : Instr) (s : State) : State := match exec i s with
  | .next t => t
  | _ => s

/-- The statuses of the replies that left, oldest first. -/
def statuses (s : State) : List Nat := s.out.filterMap fun e => match e with
  | .reply _ _ _ st _ => some st
  | _ => none

/-- Opcode, status and data of the answers, which wait for a route where the tables hold none (R275). -/
def answers (s : State) : List (Nat × Nat × List Byte) := s.tx.held.map fun q => (q.2.pkt.opcode, q.2.pkt.hdr.status, q.2.pkt.data)

/-- The check value of IEEE 802.3 CRC-32 over "123456789" (R113). -/
theorem test_crc32 : crc32 [0x31, 0x32, 0x33, 0x34, 0x35, 0x36, 0x37, 0x38, 0x39] = 0xCBF43926#32 := by decide +kernel

/-- R371: BOOT is state 3; NOP answers it and TIME_NS from session 0. -/
theorem test_nop_in_boot : (after (.nop s0) State.reset).out = [.reply 0 0 3 0 [.num 3, .num 0]] := by decide +kernel

/-- R17: 40 ns a cycle on an empty queue. -/
theorem test_idle_cycle : (match step State.reset with | .next t => t.clk.timeNs | _ => 0) = 40 := by decide +kernel

/-- The queue is first in, first out. -/
theorem test_queue_order : (match step { State.reset with pending := [.nop s0, .powerLoss] } with
    | .next t => t.pending == [.powerLoss] && t.pins.powered
    | _ => false) = true := by decide +kernel

/-- R366: a SEQ that has been recorded does not run again. -/
theorem test_repeated_seq : (after (.nodeIdSet fm 5) (after (.nodeIdSet fm 4) { k0 with dev := { k0.dev with state := .ready } })).topo.node
    = 4 := by decide +kernel

/-- R300: an owner may not send a fabric manager's command. -/
theorem test_owner_refused : statuses (after (.ftExpelList ow) k0) = [St.NOT_AUTHORISED] := by decide +kernel

/-- R374: a locked register is refused and keeps its value. -/
theorem test_locked_register :
    (let t := after (.csrWrite fm [(Reg.POOL_CFG, 1)]) { k0 with csr := [(lockOf Reg.POOL_CFG, 1)] }
     statuses t == [St.CSR_REFUSED] && t.reg Reg.POOL_CFG == 25) = true := by decide +kernel

/-- R32: a LOAD of bytes that nothing has written answers zeros in 0x81 with status OK. -/
theorem test_load_zeros : answers (after (.load (hq 1 0)) (kr (ex 0 0))) = [(0x81, 0, List.replicate 128 0)] := by decide +kernel

/-- R183: a STORE writes its line and answers 0x82. -/
theorem test_store_line :
    (let t := after (.store (hq 2 128) (List.replicate 128 7)) (kr et)
     t.readPool 1 127 2 == [7, 0] && answers t == [(0x82, 0, [])]) = true := by decide +kernel

/-- R190: a header whose CRC fails is dropped, counted and not answered. -/
theorem test_header_crc :
    (let t := after (.load (h0 0 0)) (kr (ex 0 0))
     answers t == [] && t.cnt.num Reg.TX_CNT_HDR_CRC == 1) = true := by decide +kernel

/-- R186: AT_ADD_32 wraps at 32 bits and answers the old value. -/
theorem test_add_wraps : atomicNew 0x10 0xFFFFFFFF 1 0 = some 0 ∧ atomicNew 0x11 0xFFFFFFFF 1 0 = some 0x100000000 := by
  decide +kernel

/-- R186: MIN and MAX are signed. -/
theorem test_min_signed : atomicNew 0x16 0xFFFFFFFF 1 0 = some 0xFFFFFFFF ∧ atomicNew 0x18 0xFFFFFFFF 1 0 = some 1 := by
  decide +kernel

/-- IEEE 754: 1 + 1 = 2, 1.5 × 4 = 6, and halves round to even (R51). -/
theorem test_fp32 : f32add 0x3F800000 0x3F800000 = 0x40000000 ∧ f32mul 0x3FC00000 0x40800000 = 0x40C00000
    ∧ f32add 0x4B800000 0x3F800000 = 0x4B800000 := by decide +kernel

/-- R49: FILL repeats its PATTERN from ADDR_A. -/
theorem test_fill_pattern : fillBytes (List.replicate 56 0 ++ [1, 2, 3, 4, 5, 6, 7, 8]) 6 4 = [7, 8, 1, 2] := by decide +kernel

/-- R282: the first composition takes handle 0, and READY becomes SERVING (R371). -/
theorem test_comp_create :
    (let t := after (.compCreate fm (cr 0)) { k0 with comps := [], dev := { k0.dev with state := .ready } }
     t.comps.keys == [0] && decide (t.dev.state = .serving)) = true := by decide +kernel

/-- R432: losing a supply takes the sessions and the compositions away. -/
theorem test_power_loss :
    (let t := after .powerLoss k0
     t.comps == [] && t.nirod.sessions == [] && decide (t.dev.state = .poweredOff)) = true := by decide +kernel

/-- R427: a 499 ns pulse on RESET_N is ignored. -/
theorem test_short_pulse : (after (.resetNAssert 499) k0).pins.resetLow = false ∧ (after (.resetNAssert 1000) k0).pins.resetLow = true := by
  decide +kernel

/-- R435: 97 C is the threshold of throttle level 1. -/
theorem test_throttle : (after (.throttleLevelRise 970 0) k0).pins.throttle = 1 ∧ (after (.throttleLevelRise 969 0) k0).pins.throttle = 0 := by
  decide +kernel

/-- No row of the table gives bits, so no word spells a command. -/
theorem test_no_word : decodeTableWord 16 0 = none := rfl

/-! ### Witnesses: states and operands that meet the hypotheses of each clause of each statement -/

theorem witness_IdleStepAdvancesTime :
    ∃ (s : State), s.pending = [] ∧ s.nextDeferred = none ∧ s.pins.powered = true ∧ s.clk.slew = 0 ∧ s.clk.slewFrac
    = 0 :=
  ⟨State.reset, by decide +kernel⟩

theorem witness_StepKeepsMemoryCanonical :
    ∃ (s t : State), s.MemOk ∧ step s = .next t :=
  ⟨{ State.reset with pool := { Pool.reset with mem := [(5, 1), (9, 255)] } }, _, And.intro (by decide +kernel)
  (by decide +kernel), rfl⟩

theorem witness_PoolReadsWhatWasWritten :
    (∃ (m : List Host.Cell), Memory.wf m = true)
    ∧ (∃ (m : List Host.Cell), Memory.wf m = true) :=
  ⟨⟨[(5, 1), (9, 255)], by decide +kernel⟩,
   ⟨[(5, 1), (9, 255)], by decide +kernel⟩⟩

theorem witness_SessionCommandsComplete :
    (∃ (s t : State) (c : Ctx), s.starts t c (Cmd.any 0x0003 Legal.A) Target.none)
    ∧ (∃ (s t : State) (c : Ctx), s.starts t c (Cmd.any 0x0004 Legal.A) Target.none)
    ∧ (∃ (s t : State) (c : Ctx), s.starts t c (Cmd.fob 0x0002 Legal.A) Target.none)
    ∧ (∃ (s t : State) (c : Ctx) (cls compId spdm partBytes : Nat) (x : Session) (k : Digest) (a : Cls), s.starts t
    c (Cmd.any 0x0001 Legal.A) Target.none ∧ cls ≤ 2 ∧ 1024 ≤ partBytes ∧ partBytes ≤ 8192 ∧ partBytes % 64 = 0 ∧
    t.nirod.sessions.look spdm = some x ∧ x.cls = none ∧ x.signer = some k ∧ a = (if cls = 0 then .fabricManager
    else if cls = 1 then .owner else .observer) ∧ t.keyAdmits k a (if cls = 0 then none else t.handleOf compId) =
    true)
    ∧ (∃ (s t : State) (c : Ctx) (target : Nat) (d : DevState), s.admits c (Cmd.f 0x0005 0) Target.none (fun u =>
    u.deviceTargetLegal target) = true ∧ t = s.taken c 0x0005 Target.none ∧ target ≤ 2 ∧ t.dev.state ≠ .faulted ∧ d
    = (if target = 1 then .draining else if target = 2 then .maintenance else t.activeState)) :=
  ⟨⟨State.reset, _, s0, And.intro (by decide +kernel) rfl⟩,
   ⟨State.reset, _, s0, And.intro (by decide +kernel) rfl⟩,
   ⟨k0, _, ⟨3, 1, none⟩, And.intro (by decide +kernel) rfl⟩,
   ⟨k0, _, s0, 1, 9, 4, 1024, sess none 256, 7, .owner, And.intro (by decide +kernel) rfl, by decide +kernel⟩,
   ⟨k0, _, fm, 1, .draining, by decide +kernel, rfl, by decide +kernel⟩⟩

theorem witness_ControlPortCompletes :
    (∃ (s : State) (a : Assembly), s.nirod.asm.find? (fun b => b.session == a.session && b.seq == a.seq) = some a)
    ∧ (∃ (s : State) (i : Nat) (x : Session), s.nirod.sessions.look i = some x)
    ∧ (∃ (s : State) (i : Nat) (x : Session) (p : Snapshot), s.nirod.sessions.look i = some x ∧ x.snaps.find? (fun
    q => q.id == p.id) = some p)
    ∧ (∃ (s : State) (p : NirodPart), s.controlUp = true ∧ p.hdrCrcOk = true ∧ partWellFormed (s.partBytes
    p.session) p = true ∧ p.session ≠ 0 ∧ s.nirod.sessions.has p.session = true ∧ p.encrypted = true ∧ p.tagOk =
    true)
    ∧ (∃ (s : State) (p : NirodPart), s.controlUp = true ∧ p.hdrCrcOk = false)
    ∧ (∃ (s : State) (k : NetKind), s.controlUp = true ∧ (k = .neighbourDiscovery ∨ k = .icmpEcho))
    ∧ (∃ (s : State), s.controlUp = true) :=
  ⟨⟨{ k0 with nirod := { k0.nirod with asm := [⟨1, 4, 3, 0, none, []⟩] } }, ⟨1, 4, 3, 0, none, []⟩,
   by decide +kernel⟩,
   ⟨k0, 2, sess (some .owner) 0, by decide +kernel⟩,
   ⟨{ k0 with nirod := { k0.nirod with sessions := [(1, { sess none 0 with snaps := [⟨1, [0], 0⟩] })] } }, 1,
   { sess none 0 with snaps := [⟨1, [0], 0⟩] }, ⟨1, [0], 0⟩, by decide +kernel⟩,
   ⟨k0, ⟨true, 1, false, false, true, true, 3, 1, 1, 16, 127, true, []⟩, by decide +kernel⟩,
   ⟨k0, ⟨false, 1, false, false, true, true, 3, 1, 1, 0, 0, true, []⟩, by decide +kernel⟩,
   ⟨k0, .icmpEcho, by decide +kernel⟩,
   ⟨k0, by decide +kernel⟩⟩

theorem witness_RegisterAccessesComplete :
    (∃ (s t : State) (c : Ctx) (addrs : List Nat), s.starts t c (Cmd.f 0x0010 Legal.R) Target.none ∧ addrs ≠ [] ∧
    addrs.length ≤ 256 ∧ (∀ a ∈ addrs, (regKind a).isSome = true))
    ∧ (∃ (s t : State) (c : Ctx) (a : Nat) (v : Word) (mask : Nat) (rwl : Bool) (r : Nat), s.starts t c (Cmd.f
    0x0011 Legal.C) Target.none ∧ regKind a = some (.cfg mask rwl r) ∧ (rwl && t.locked a) = false ∧ cfgInRange a
    (v.toNat &&& mask) = true ∧ t.cfgRefused a (v.toNat &&& mask) = false)
    ∧ (∃ (s t : State) (c : Ctx) (a : Nat) (v : Word), s.starts t c (Cmd.f 0x0011 Legal.C) Target.none ∧ regKind a
    = some .lock ∧ bit v.toNat 0 = true)
    ∧ (∃ (s t : State) (c : Ctx), s.starts t c (Cmd.f 0x0011 Legal.C) Target.none)
    ∧ (∃ (s t : State) (c : Ctx), s.starts t c (Cmd.f 0x0011 Legal.C) Target.none)
    ∧ (∃ (s t : State) (c : Ctx), s.starts t c (Cmd.f 0x0011 Legal.C) Target.none)
    ∧ (∃ (s t : State) (c : Ctx) (n : Nat) (v : Word) (x : Comp), s.starts t c (Cmd.f 0x0011 Legal.C) Target.none ∧
    n < 64 ∧ t.comp (v.toNat % 256) = some x ∧ x.furrow = true)
    ∧ (∃ (s t : State) (c : Ctx) (v : Word), s.starts t c (Cmd.f 0x0011 Legal.C) Target.none ∧ t.links.has
    t.selQueue.1 = true ∧ bit v.toNat 0 = true)
    ∧ (∃ (s t : State) (c : Ctx) (v : Word) (l : LPort), s.starts t c (Cmd.f 0x0011 Legal.C) Target.none ∧
    t.links.look t.selQueue.1 = some l ∧ bits v.toNat 18 0 ≤ 262144 ∧ ((bit v.toNat 31 = true → 4128 ≤ (l.queue
    t.selQueue.2).burst))) :=
  ⟨⟨k0, _, fm, List.replicate 256 Reg.CM_STATE, And.intro (by decide +kernel) rfl, by decide +kernel⟩,
   ⟨k0, _, fm, Reg.POOL_CFG, 100, 0xFF, true, 25, And.intro (by decide +kernel) rfl, by decide +kernel⟩,
   ⟨k0, _, fm, lockOf Reg.POOL_CFG, 1, And.intro (by decide +kernel) rfl, by decide +kernel⟩,
   ⟨k0, _, fm, And.intro (by decide +kernel) rfl⟩,
   ⟨k0, _, fm, And.intro (by decide +kernel) rfl⟩,
   ⟨k0, _, fm, And.intro (by decide +kernel) rfl⟩,
   ⟨k0, _, fm, 63, 0x80000000, cp, And.intro (by decide +kernel) rfl, by decide +kernel⟩,
   ⟨k0, _, fm, 1, And.intro (by decide +kernel) rfl, by decide +kernel⟩,
   ⟨k0, _, fm, 0x80040000, LPort.reset 8, And.intro (by decide +kernel) rfl, by decide +kernel⟩⟩

theorem witness_RegistersKeepTheirRules :
    (∃ (s t : State) (c : Ctx) (a mask r : Nat), s.starts t c (Cmd.f 0x0011 Legal.C) Target.none ∧ regKind a = some
    (.cfg mask true r) ∧ t.reg (lockOf a) % 2 = 1)
    ∧ (∃ (s t : State) (c : Ctx) (a : Nat), s.starts t c (Cmd.f 0x0011 Legal.C) Target.none ∧ regKind a = none)
    ∧ (∃ (s t : State) (c : Ctx) (a : Nat) (sc : CtrScope), s.starts t c (Cmd.f 0x0011 Legal.C) Target.none ∧
    regKind a = some (.ctr sc))
    ∧ (∃ (v : Nat), v < 2 ^ 32) :=
  ⟨⟨{ k0 with csr := [(lockOf Reg.POOL_CFG, 1)] }, _, fm, Reg.POOL_CFG, 0xFF, 25, And.intro (by decide +kernel)
   rfl, by decide +kernel⟩,
   ⟨k0, _, fm, 1, And.intro (by decide +kernel) rfl, by decide +kernel⟩,
   ⟨k0, _, fm, Reg.CM_CNT_HDR_CRC, .dev, And.intro (by decide +kernel) rfl, by decide +kernel⟩,
   ⟨0xFFFFFFFF, by decide +kernel⟩⟩

theorem witness_EventRegistersComplete :
    (∃ (s t : State) (c : Ctx) (v : Word), s.starts t c (Cmd.f 0x0011 Legal.C) Target.none ∧ bits v.toNat 9 0 ≤ 15)
    ∧ (∃ (s t : State) (c : Ctx) (v : Word) (ev : Nat), s.starts t c (Cmd.f 0x0011 Legal.C) Target.none ∧ ev =
    t.reg Reg.EVC_SRC_SEL % 1024 ∧ bit v.toNat 31 = true ∧ (t.source ev).pending = true ∧ (t.source ev).holds =
    false)
    ∧ (∃ (s t : State) (c : Ctx) (v : Word) (ev : Nat), s.starts t c (Cmd.f 0x0011 Legal.C) Target.none ∧ ev =
    t.reg Reg.EVC_SRC_SEL % 1024 ∧ bit v.toNat 31 = true ∧ (t.source ev).pending = true)
    ∧ (∃ (s : State) (k e : Nat), k < 8 ∧ s.targetPresent k = true ∧ s.mostUrgent ((s.ev.offers.filter fun o =>
    o.targets.contains k).map Offer.ev) = some e)
    ∧ (∃ (s : State) (k : Nat), k < 8 ∧ s.targetPresent k = true ∧ (s.ev.offers.filter fun o => o.targets.contains
    k) = [])
    ∧ (∃ (s : State) (k g : Nat) (v : Word), k < 8 ∧ s.targetPresent k = true ∧ (s.source (bits v.toNat 9
    0)).holder = some (k, g)) :=
  ⟨⟨k0, _, fm, 15, And.intro (by decide +kernel) rfl, by decide +kernel⟩,
   ⟨{ k0 with csr := [(Reg.EVC_SRC_SEL, 16)], ev := { Evc.reset with sources := [(16, { Source.reset with pending := true })] } },
   _, fm, 0x80000000, 16, And.intro (by decide +kernel) rfl, by decide +kernel⟩,
   ⟨{ k0 with csr := [(Reg.EVC_SRC_SEL, 16)], ev := { Evc.reset with sources := [(16, { Source.reset with pending := true })] } },
   _, fm, 0x80000000, 16, And.intro (by decide +kernel) rfl, by decide +kernel⟩,
   ⟨{ k0 with ev := { Evc.reset with offers := [⟨16, [7], [], 0⟩] } }, 7, 16, by decide +kernel⟩,
   ⟨k0, 7, by decide +kernel⟩,
   ⟨{ k0 with ev := { Evc.reset with sources := [(16, { Source.reset with holder := some (7, 0) })] } }, 7, 0, 16,
   by decide +kernel⟩⟩

theorem witness_SuppliesComplete :
    (∃ (s : State), s.pins.powered = false ∧ s.pins.resetLow = false)
    ∧ (∃ (s : State), s.pins.powered = true)
    ∧ (∃ (s : State) (n : Nat), 1000 ≤ n ∧ s.pins.powered = true ∧ s.pins.thermtripLow = false ∧ s.dev.state ≠
    .poweredOff)
    ∧ (∃ (s : State), s.pins.resetLow = true ∧ s.pins.powered = true ∧ s.pins.thermtripLow = false ∧ s.dev.state ≠
    .poweredOff)
    ∧ (∃ (s : State) (n : Nat), 1000 ≤ n ∧ s.pins.powered = true ∧ s.pins.resetLow = false ∧ s.dev.state =
    .standby)
    ∧ (∃ (s : State) (n : Nat), s.dev.state = .deepStandby ∧ s.pins.railsPending = some n)
    ∧ (∃ (s : State) (n : Nat), s.pins.railsPending = some n)
    ∧ (∃ (s : State) (r n : Nat), r < 9 ∧ 10000 < n ∧ s.pins.powered = true ∧ s.pins.sleepLow = false ∧
    s.pins.railsPending = none ∧ s.dev.state ≠ .poweredOff ∧ s.pins.resetLow = false)
    ∧ (∃ (s : State) (r : Nat), 9 ≤ r ∧ r < 12 ∧ s.pins.powered = true)
    ∧ (∃ (n : Nat), n < 500) :=
  ⟨⟨{ k0 with pins := { Pins.reset with powered := false } }, by decide +kernel⟩,
   ⟨k0, by decide +kernel⟩,
   ⟨k0, 1000, by decide +kernel⟩,
   ⟨{ k0 with pins := { Pins.reset with resetLow := true } }, by decide +kernel⟩,
   ⟨{ k0 with dev := { k0.dev with state := .standby } }, 1000, by decide +kernel⟩,
   ⟨{ k0 with dev := { k0.dev with state := .deepStandby }, pins := { Pins.reset with railsPending := some 5 } },
   5, by decide +kernel⟩,
   ⟨{ k0 with dev := { k0.dev with state := .deepStandby }, pins := { Pins.reset with railsPending := some 5 } },
   5, by decide +kernel⟩,
   ⟨k0, 8, 10001, by decide +kernel⟩,
   ⟨k0, 9, by decide +kernel⟩,
   ⟨499, by decide +kernel⟩⟩

theorem witness_SensorsComplete :
    (∃ (s : State) (n : Nat), s.pins.powered = true ∧ s.clk.ppsFirst = true ∧ s.clk.ppsLast = none ∧ s.clk.timeNs ≤
    n)
    ∧ (∃ (s : State) (n p : Nat), s.pins.powered = true ∧ s.clk.ppsLast = some p ∧ s.clk.timeNs ≤ n ∧ n < p +
    999000000)
    ∧ (∃ (s : State) (n p : Nat) (e : Int), s.pins.powered = true ∧ s.clk.ppsFirst = false ∧ s.clk.ppsLast = some p
    ∧ s.clk.timeNs ≤ n ∧ p + 999000000 ≤ n ∧ e = (n : Int) - ((n + 500000000) / 1000000000 * 1000000000 : Nat) ∧
    -10000 ≤ e)
    ∧ (∃ (s : State) (p : Nat), s.clk.ppsLast = some p ∧ s.clk.timeNs ≤ p + 1100000000)
    ∧ (∃ (s : State) (a b : Nat), s.running = true ∧ s.pins.throttle < throttleLevel (max a b))
    ∧ (∃ (s : State) (a b : Nat), s.running = true ∧ 0 < s.pins.throttle ∧ max a b + 30 ≤ throttleThreshold
    s.pins.throttle)
    ∧ (∃ (s : State) (n : Nat), s.running = true ∧ 10000 ≤ n) :=
  ⟨⟨k0, 1, by decide +kernel⟩,
   ⟨{ k0 with clk := { Clock.reset with timeNs := 5, ppsLast := some 5 } }, 5, 5, by decide +kernel⟩,
   ⟨{ k0 with clk := { Clock.reset with ppsFirst := false, ppsLast := some 5 } }, 999990000, 5, -10000,
   by decide +kernel⟩,
   ⟨{ k0 with clk := { Clock.reset with ppsLast := some 5 } }, 5, by decide +kernel⟩,
   ⟨k0, 2000, 0, by decide +kernel⟩,
   ⟨{ k0 with pins := { Pins.reset with throttle := 1 } }, 0, 0, by decide +kernel⟩,
   ⟨k0, 10000, by decide +kernel⟩⟩

theorem witness_JtagComplete :
    (∃ (s : State) (i : Jtag), s.pins.powered = true ∧ jtagGranted s.sec.debugSt i = false)
    ∧ (∃ (s : State) (i : Jtag), s.pins.powered = true ∧ jtagGranted s.sec.debugSt i = true ∧ jtagDrives i = true ∧
    s.pins.resetLow = false ∧ s.dev.state ≠ .maintenance)
    ∧ (∃ (s : State), s.pins.powered = true)
    ∧ (∃ (s : State) (i : Jtag), s.pins.powered = true ∧ jtagGranted s.sec.debugSt i = true ∧ i ≠ .idcode ∧
    ((jtagDrives i = true → s.pins.resetLow = true ∨ s.dev.state = .maintenance)))
    ∧ (∃ (s : State), s.pins.powered = true) :=
  ⟨⟨k0, .scanChain, by decide +kernel⟩,
   ⟨k0, .extest, by decide +kernel⟩,
   ⟨k0, by decide +kernel⟩,
   ⟨k0, .bypass, by decide +kernel, by decide +kernel, by decide +kernel, by decide⟩,
   ⟨k0, by decide +kernel⟩⟩

theorem witness_EventControllerCompletes :
    (∃ (s : State) (pin : Nat), pin < 8 ∧ s.pins.evtIn.getLsbD pin = false ∧ s.pins.powered = true ∧
    s.pins.resetLow = false ∧ s.dev.state ≠ .poweredOff ∧ (s.source (16 + pin)).sense ∈ [0, 2, 4])
    ∧ (∃ (s : State) (pin : Nat), pin < 8 ∧ s.pins.evtIn.getLsbD pin = true ∧ s.pins.powered = true ∧
    s.pins.resetLow = false ∧ s.dev.state ≠ .poweredOff ∧ (s.source (16 + pin)).sense ∈ [0, 2])
    ∧ (∃ (s : State) (ev k : Nat), s.evcRuns = true ∧ s.ev.fallow = false ∧ s.mostUrgent s.offerable = some ev ∧
    (s.source ev).fallback = false ∧ s.mainTarget ev = some k ∧ s.ev.tried = [] ∧ k < 8 ∧ s.ev.subs.look k = none)
    ∧ (∃ (s : State), s.ev.fallow = true)
    ∧ (∃ (s : State) (o : Offer), s.evcRuns = true ∧ (s.ev.offers.find? fun q => q.ev == o.ev) = some o ∧ (s.source
    o.ev).fallback = false)
    ∧ (∃ (s : State), s.evcRuns = true ∧ s.offerable = [] ∧ s.ev.offers = [] ∧ (s.ev.sources.all fun q =>
    q.2.holder.isNone) = true)
    ∧ (∃ (s : State) (n : Nat) (x : Source), s.evcRuns = true ∧ (n, x) ∈ s.ev.sources ∧ x.pending = true ∧ x.enable
    = true ∧ x.wake = true)
    ∧ (∃ (s t : State) (c : Ctx) (mask : List Nat) (addr port k : Nat), s.starts t c (Cmd.fo 0x6001 Legal.R)
    Target.none ∧ (∀ e ∈ mask, e ≤ 1023) ∧ addr < 2 ^ 128 ∧ port < 65536 ∧ ((t.classOf c = some .owner → ∀ e ∈
    mask, e = Ev.THERMAL_THROTTLE)) ∧ t.ev.subs.lowestFree 8 8 = some k)
    ∧ (∃ (s t : State) (c : Ctx) (k : Nat) (u : Subscriber), s.starts t c (Cmd.fo 0x6002 Legal.A) Target.none ∧
    t.ev.subs.look k = some u ∧ u.session = c.session)
    ∧ (∃ (s t : State) (c : Ctx) (k ev : Nat) (u : Subscriber), s.starts t c (Cmd.fo 0x6003 Legal.A) Target.none ∧
    t.ev.subs.look k = some u ∧ u.session = c.session ∧ (t.ev.offers.any fun o => o.ev == ev && o.targets.contains
    k) = true)
    ∧ (∃ (s t : State) (c : Ctx) (k ev : Nat) (u : Subscriber), s.starts t c (Cmd.fo 0x6003 Legal.A) Target.none ∧
    t.ev.subs.look k = some u ∧ u.session = c.session ∧ (t.ev.offers.any fun o => o.ev == ev && o.targets.contains
    k) = false)
    ∧ (∃ (s t : State) (c : Ctx) (k ev g : Nat) (u : Subscriber), s.starts t c (Cmd.fo 0x6004 Legal.A) Target.none
    ∧ t.ev.subs.look k = some u ∧ u.session = c.session ∧ (t.source ev).holder = some (k, g)) :=
  ⟨⟨{ k0 with pins := { Pins.reset with evtIn := 0 } }, 7, by decide +kernel⟩,
   ⟨k0, 7, by decide +kernel⟩,
   ⟨{ k0 with ev := { Evc.reset with sources := [(16, { Source.reset with pending := true, enable := true })] } },
   16, 0, by decide +kernel⟩,
   ⟨{ k0 with ev := { Evc.reset with fallow := true } }, by decide +kernel⟩,
   ⟨{ k0 with ev := { Evc.reset with offers := [⟨16, [7], [], 0⟩] } }, ⟨16, [7], [], 0⟩, by decide +kernel⟩,
   ⟨k0, by decide +kernel⟩,
   ⟨{ k0 with ev := { Evc.reset with fallow := true, sources := [(16, { Source.reset with pending := true, enable := true, wake := true })] } },
   16, { Source.reset with pending := true, enable := true, wake := true }, by decide +kernel⟩,
   ⟨k0, _, fm, [1023], 5, 65535, 8, And.intro (by decide +kernel) rfl, by decide +kernel, by decide +kernel,
   by decide +kernel, nofun, by decide +kernel⟩,
   ⟨{ k0 with ev := { Evc.reset with subs := [(8, ⟨1, [], 0, 0, 0, false⟩)] } }, _, fm, 8, ⟨1, [], 0, 0, 0, false⟩,
   And.intro (by decide +kernel) rfl, by decide +kernel⟩,
   ⟨{ k0 with ev := { Evc.reset with subs := [(8, ⟨1, [], 0, 0, 0, false⟩)], offers := [⟨16, [8], [], 0⟩] } }, _,
   fm, 8, 16, ⟨1, [], 0, 0, 0, false⟩, And.intro (by decide +kernel) rfl, by decide +kernel⟩,
   ⟨{ k0 with ev := { Evc.reset with subs := [(8, ⟨1, [], 0, 0, 0, false⟩)], offers := [⟨16, [9], [], 0⟩] } }, _,
   fm, 8, 16, ⟨1, [], 0, 0, 0, false⟩, And.intro (by decide +kernel) rfl, by decide +kernel⟩,
   ⟨{ k0 with ev := { Evc.reset with subs := [(8, ⟨1, [], 0, 0, 0, false⟩)], sources := [(16, { Source.reset with holder := some (8, 0) })] } },
   _, fm, 8, 16, 0, ⟨1, [], 0, 0, 0, false⟩, And.intro (by decide +kernel) rfl, by decide +kernel⟩⟩

theorem witness_EventsFollowPriority :
    ∃ (s : State) (ev k : Nat), s.eligible ev k = true :=
  ⟨{ k0 with ev := { Evc.reset with sources := [(16, { Source.reset with pending := true, enable := true, priority := 0 })] } },
  16, 7, by decide +kernel⟩

theorem witness_PowerStatesComplete :
    (∃ (s t : State) (c : Ctx) (n : Nat), s.admits c (Cmd.f 0x6101 Legal.P) Target.none (fun u => u.powerLegal n) =
    true ∧ t = s.taken c 0x6101 Target.none ∧ (n = 1 ∨ n = 2) ∧ t.dev.quiesce = none)
    ∧ (∃ (s t : State) (c : Ctx), s.admits c (Cmd.f 0x6101 Legal.P) Target.none (fun u => u.powerLegal 0) = true ∧
    t = s.taken c 0x6101 Target.none ∧ t.dev.quiesce = none ∧ t.dev.state = .standby)
    ∧ (∃ (s : State) (q : Quiesce), s.dev.quiesce = some q ∧ s.entryOpen = true ∧ s.openSteps = 0 ∧ q.deep = false
    ∧ q.wake = none ∧ s.dev.powerWaiting = [])
    ∧ (∃ (s : State) (q : Quiesce), s.dev.quiesce = some q ∧ s.entryOpen = true ∧ s.openSteps ≠ 0 ∧ q.flushing =
    false ∧ s.dev.powerWaiting = [])
    ∧ (∃ (s : State) (k : Nat), s.running = true ∧ (k < 4 ∨ (k < 8 ∧ s.dev.singleDie = false)))
    ∧ (∃ (s : State) (k : Nat), k < 8 ∧ s.dev.hbmWaking.getLsbD k = true) :=
  ⟨⟨k0, _, fm, 2, by decide +kernel, rfl, by decide +kernel⟩,
   ⟨{ k0 with dev := { k0.dev with state := .standby } }, _, fm, by decide +kernel, rfl, by decide +kernel⟩,
   ⟨{ k0 with dev := { k0.dev with quiesce := some ⟨1, 1, false, 0, none, false⟩ } }, ⟨1, 1, false, 0, none,
   false⟩, by decide +kernel⟩,
   ⟨{ k0 with dev := { k0.dev with quiesce := some ⟨1, 1, false, 0, none, false⟩ }, tx := { Tx.reset with steps := [(1, st0)] } },
   ⟨1, 1, false, 0, none, false⟩, by decide +kernel⟩,
   ⟨k0, 7, by decide +kernel⟩,
   ⟨{ k0 with dev := { k0.dev with hbmWaking := 0x80 } }, 7, by decide +kernel⟩⟩

theorem witness_BootCompletes :
    (∃ (s : State) (n : Nat), s.booting = true ∧ s.fw.step = n)
    ∧ (∃ (s : State) (n : Nat), s.booting = true ∧ s.fw.step = n ∧ n ≠ 14)
    ∧ (∃ (s : State) (n : Nat), s.booting = true ∧ s.fw.step = n ∧ n ≠ 14 ∧ n ≠ 8 ∧ n ≠ 11)
    ∧ (∃ (s : State), s.booting = true ∧ s.fw.step = 14 ∧ s.fw.confirmed = true)
    ∧ (∃ (s : State), s.booting = true ∧ s.fw.step = 14 ∧ s.fw.confirmed = false)
    ∧ (∃ (s : State), s.booting = true ∧ s.fw.step = 3 ∧ s.fw.confirmed = true ∧ s.fw.other = true)
    ∧ (∃ (s t : State) (c : Ctx), s.starts t c (Cmd.f 0x0006 Legal.C) Target.none)
    ∧ (∃ (s : State) (n : Nat), n < 8 ∧ s.dev.coresOn.getLsbD n = true ∧ s.dev.restarting.getLsbD n = false)
    ∧ (∃ (s : State) (n : Nat), n < 8 ∧ s.dev.restarting.getLsbD n = true)
    ∧ (∃ (s : State), s.dev.bridgeUp = true ∧ s.dev.singleDie = false ∧ s.dev.state ≠ .poweredOff ∧ s.dev.state ≠
    .deepStandby ∧ s.dev.state ≠ .boot) :=
  ⟨⟨kb 1, 1, by decide +kernel⟩,
   ⟨kb 13, 13, by decide +kernel⟩,
   ⟨kb 13, 13, by decide +kernel⟩,
   ⟨kb 14, by decide +kernel⟩,
   ⟨{ kb 14 with fw := { (kb 14).fw with confirmed := false } }, by decide +kernel⟩,
   ⟨{ kb 3 with fw := { (kb 3).fw with other := true } }, by decide +kernel⟩,
   ⟨k0, _, fm, And.intro (by decide +kernel) rfl⟩,
   ⟨k0, 7, by decide +kernel⟩,
   ⟨{ k0 with dev := { k0.dev with restarting := 0x80 } }, 7, by decide +kernel⟩,
   ⟨k0, by decide +kernel⟩⟩

theorem witness_RollbackCounterNeverFalls :
    (∃ (s t : State) (c : Ctx) (i : Instr), i = .healthConfirm c ∧ exec i s = .next t)
    ∧ (∃ (s t : State) (c : Ctx) (h k off : Nat) (d : List Byte) (m : Manifest) (i : Instr), i ∈ [.fwUpdateBegin c
    m, .fwUpdateBlock c h k off d, .fwUpdateVerify c h, .fwUpdateAbort c h, .fwActivate c h, .fwStatus c] ∧ exec i
    s = .next t) :=
  ⟨⟨kf fun f => { f with upd := .pendingConfirm, bank0 := b0 }, _, fm, _, rfl, rfl⟩,
   ⟨k0, _, fm, 0, 0, 0, [], m0, .fwStatus fm, by simp, rfl⟩⟩

theorem witness_RecorderCompletes :
    (∃ (s : State) (i : Nat), recIds.contains i = true ∧ recKind i = 0 ∧ s.sourceRuns i = true)
    ∧ (∃ (s t : State) (c : Ctx), s.starts t c (Cmd.f 0x8001 Legal.R) Target.none)
    ∧ (∃ (s t : State) (c : Ctx) (ids : List Nat), s.starts t c (Cmd.f 0x8002 Legal.R) Target.none ∧ ids ≠ [] ∧
    ids.length ≤ 64 ∧ (∀ i ∈ ids, i ∈ recIds))
    ∧ (∃ (s t : State) (c : Ctx) (ids : List Nat) (k : Token), s.starts t c (Cmd.f 0x8003 Legal.C) Target.none ∧
    ids ≠ [] ∧ ids.length ≤ 64 ∧ (∀ i ∈ ids, i ∈ recIds) ∧ t.sec.debugSt ≠ .opened ∧ t.sec.debugSt ≠ .returning ∧
    t.tokenFresh k = true ∧ (t.debugSigner k.sig.signer = true ∨ k.sig.signer = Config.returnAuthority) ∧
    t.rcd.clearLog.length < 1024)
    ∧ (∃ (s : State) (i : Nat) (v : Int), (s.rcrd i).bins.num (recBin i v) < 0xFFFFFFFF) :=
  ⟨⟨k0, 1, by decide +kernel⟩,
   ⟨k0, _, fm, And.intro (by decide +kernel) rfl⟩,
   ⟨k0, _, fm, List.replicate 64 1, And.intro (by decide +kernel) rfl, by decide +kernel⟩,
   ⟨kd .sealed, _, fm, [1], tk 0 7, And.intro (by decide +kernel) rfl, by decide +kernel, by decide +kernel,
   by decide +kernel, by decide +kernel, by decide +kernel, fresh _ _ rfl rfl rfl (by decide +kernel),
   by decide +kernel⟩,
   ⟨k0, 1, 300, by decide +kernel⟩⟩

theorem witness_ColophonCompletes :
    (∃ (s t : State) (c : Ctx) (off : Nat) (x : Session) (p : Snapshot), s.starts t c (Cmd.fob 0x0020 Legal.A)
    Target.none ∧ t.nirod.sessions.look c.session = some x ∧ p =
    { id := x.nextSnap, bytes := t.colophon c.session, readNs := t.clk.timeNs } ∧ off ≤ p.bytes.length)
    ∧ (∃ (s t : State) (c : Ctx) (off : Nat) (x : Session) (p : Snapshot), s.starts t c (Cmd.fob 0x0020 Legal.A)
    Target.none ∧ t.nirod.sessions.look c.session = some x ∧ p.id ≠ 0 ∧ (x.snaps.find? fun q => q.id == p.id) =
    some p ∧ off ≤ p.bytes.length) :=
  ⟨⟨k0, _, fm, 0, _, _, And.intro (by decide +kernel) rfl, rfl, rfl, Nat.zero_le _⟩,
   ⟨{ k0 with nirod := { k0.nirod with sessions := [(1, { sess (some .fabricManager) 256 with snaps := [⟨1, [7], 0⟩] })] } },
   _, fm, 1, _, ⟨1, [7], 0⟩, And.intro (by decide +kernel) rfl, rfl, by decide +kernel⟩⟩

theorem witness_SpdmCompletes :
    (∃ (s t : State) (c : Ctx), s.starts t c (Cmd.any 0x5001 Legal.A) Target.none)
    ∧ (∃ (s t : State) (c : Ctx), s.starts t c (Cmd.any 0x5001 Legal.A) Target.none ∧ t.sec.identityValid = true)
    ∧ (∃ (s t : State) (c : Ctx) (i : Nat), s.starts t c (Cmd.any 0x5001 Legal.A) Target.none ∧
    t.nirod.sessions.length < 64 ∧ i = t.nirod.nextSession)
    ∧ (∃ (s t : State) (c : Ctx) (i : Nat) (g : Signed) (x : Session), s.starts t c (Cmd.any 0x5001 Legal.A)
    Target.none ∧ t.nirod.sessions.look i = some x ∧ x.signer = none ∧ g.ok = true)
    ∧ (∃ (s t : State) (c : Ctx) (i : Nat) (k : Digest) (x : Session), s.starts t c (Cmd.any 0x5001 Legal.A)
    Target.none ∧ t.nirod.sessions.look i = some x ∧ x.signer = some k)
    ∧ (∃ (s t : State) (c : Ctx) (i : Nat), s.starts t c (Cmd.any 0x5001 Legal.A) Target.none ∧
    t.nirod.sessions.has i = true) :=
  ⟨⟨State.reset, _, s0, And.intro (by decide +kernel) rfl⟩,
   ⟨k0, _, s0, And.intro (by decide +kernel) rfl, by decide +kernel⟩,
   ⟨k0, _, s0, _, And.intro (by decide +kernel) rfl, by decide +kernel, rfl⟩,
   ⟨k0, _, s0, 5, ⟨8, true⟩, { sess none 256 with signer := none }, And.intro (by decide +kernel) rfl,
   by decide +kernel⟩,
   ⟨k0, _, s0, 4, 7, sess none 256, And.intro (by decide +kernel) rfl, by decide +kernel⟩,
   ⟨k0, _, s0, 4, And.intro (by decide +kernel) rfl, by decide +kernel⟩⟩

theorem witness_DebugStatesComplete :
    (∃ (s t : State) (c : Ctx) (k : Token), s.starts t c (Cmd.f 0x5008 Legal.C) Target.none ∧ k.target = 1 ∧
    t.tokenFresh k = true ∧ t.debugSigner k.sig.signer = true ∧ t.sec.debugSt = .sealed)
    ∧ (∃ (s t : State) (c : Ctx) (k : Token), s.starts t c (Cmd.f 0x5008 Legal.C) Target.none ∧ k.target = 2 ∧
    t.tokenFresh k = true ∧ t.debugSigner k.sig.signer = true ∧ (t.sec.debugSt = .sealed ∨ t.sec.debugSt = .diag) ∧
    (∀ q ∈ t.comps, q.2.confidential = false))
    ∧ (∃ (s t : State) (c : Ctx) (k : Token), s.starts t c (Cmd.f 0x5008 Legal.C) Target.none ∧ k.target = 3 ∧
    t.tokenFresh k = true ∧ k.sig.signer = Config.returnAuthority ∧ t.comps = [])
    ∧ (∃ (s t : State) (c : Ctx), s.starts t c (Cmd.f 0x5009 Legal.C) Target.none ∧ t.sec.debugSt = .diag)
    ∧ (∃ (s t : State) (c : Ctx) (k : Token), s.starts t c (Cmd.f 0x500A Legal.C) Target.none ∧ t.tokenFresh k =
    true ∧ k.sig.signer = Config.returnAuthority ∧ t.sec.debugSt = .returning ∧ t.sec.identityGen < 255) :=
  ⟨⟨kd .sealed, _, fm, tk 1 7, And.intro (by decide +kernel) rfl, by decide +kernel, fresh _ _ rfl rfl rfl
   (by decide +kernel), by decide +kernel⟩,
   ⟨kd .diag, _, fm, tk 2 7, And.intro (by decide +kernel) rfl, by decide +kernel, fresh _ _ rfl rfl rfl
   (by decide +kernel), by decide +kernel⟩,
   ⟨kd .sealed, _, fm, tk 3 Config.returnAuthority, And.intro (by decide +kernel) rfl, by decide +kernel, fresh _ _
   rfl rfl rfl (by decide +kernel), rfl, by decide +kernel⟩,
   ⟨kd .diag, _, fm, And.intro (by decide +kernel) rfl, by decide +kernel⟩,
   ⟨kd .returning, _, fm, tk 0 Config.returnAuthority, And.intro (by decide +kernel) rfl, fresh _ _ rfl rfl rfl
   (by decide +kernel), rfl, by decide +kernel⟩⟩

theorem witness_ExpelNeedsQuorum :
    (∃ (s t : State) (c : Ctx) (r : ExpelReq), s.starts t c (Cmd.f 0x4102 Legal.C) Target.none ∧ r.node ≤ 0xFFF ∧
    ((t.topo.assigned = true → r.node ≠ t.topo.node)) ∧ r.linkId ≠ t.linkId ∧ t.clk.timeNs ≤ r.expiry ∧ r.expiry ≤
    t.clk.timeNs + 60000000000 ∧ t.validSigners r.sigs < t.ft.quorum)
    ∧ (∃ (s t : State) (c : Ctx) (r : ExpelReq), s.starts t c (Cmd.f 0x4103 Legal.C) Target.none ∧ r.node ≤ 0xFFF ∧
    ((t.topo.assigned = true → r.node ≠ t.topo.node)) ∧ r.linkId ≠ t.linkId ∧ t.clk.timeNs ≤ r.expiry ∧ r.expiry ≤
    t.clk.timeNs + 60000000000 ∧ t.validSigners r.sigs < t.ft.quorum) :=
  ⟨⟨{ k0 with ft := { Ft.reset with managers := [7], quorum := 1 } }, _, fm, { xr with sigs := [] }, And.intro
   (by decide +kernel) rfl, by decide +kernel, nofun, next_ne _, by decide +kernel⟩,
   ⟨{ k0 with ft := { Ft.reset with managers := [7], quorum := 1 } }, _, fm, { xr with sigs := [] }, And.intro
   (by decide +kernel) rfl, by decide +kernel, nofun, next_ne _, by decide +kernel⟩⟩

theorem witness_CompositionsBeginAndEnd :
    (∃ (s t : State) (c : Ctx) (r : CompReq) (h : Nat), s.starts t c (Cmd.f 0x1001 Legal.RS) Target.none ∧
    t.compItemBad r = none ∧ t.sec.debugSt ≠ .returning ∧ ((r.confidential = 1 → t.sec.debugSt ≠ .opened)) ∧
    ((r.confidential = 1 → t.sec.identityValid = true)) ∧ t.comps.lowestFree 0 256 = some h ∧ r.form = 0 ∧
    t.pressesHeld none false r.pressMask = false)
    ∧ (∃ (s t u : State) (c : Ctx) (r : CompReq) (h : Nat), s.starts t c (Cmd.f 0x1001 Legal.RS) Target.none ∧
    t.compItemBad r = none ∧ t.sec.debugSt ≠ .returning ∧ ((r.confidential = 1 → t.sec.debugSt ≠ .opened)) ∧
    ((r.confidential = 1 → t.sec.identityValid = true)) ∧ t.comps.lowestFree 0 256 = some h ∧ r.form = 1 ∧
    t.pressesHeld none true r.pressMask = false ∧ t.unitsHeld r.stackMask r.fpMask = false ∧ t.dev.state = .serving
    ∧ u = ({ t with comps := t.comps.put h (newComp r t.clk.timeNs) } : State).clearStacks h r.stackMask)
    ∧ (∃ (s : State) (h i q : Nat) (y : Comp), s.comp h = some y ∧ y.evicting = some (i, q) ∧ s.foreignLeaves h
    y.stackMask = [])
    ∧ (∃ (s t u : State) (c : Ctx) (h : Nat) (y : Comp), s.starts t c { Cmd.fo 0x1002 Legal.L with compFm := 3 }
    (Target.ofComp h) ∧ t.comp h = some y ∧ y.evicting = none ∧ u = (t.modComp h fun y =>
    { y with state := .destroying, destroyer := some (c.session, c.seq), evicting := none }).unbindAll h)
    ∧ (∃ (s : State) (h i q : Nat) (y : Comp), s.comp h = some y ∧ y.destroyer = some (i, q) ∧ y.state =
    .destroying ∧ s.extentsOf h = [] ∧ (∀ d ∈ s.coh, d.2.comp ≠ h)) :=
  ⟨⟨{ k0 with comps := [] }, _, fm, cr 0, 0, And.intro (by decide +kernel) rfl, by decide +kernel⟩,
   ⟨{ k0 with comps := [] }, _, _, fm, cr 1, 0, And.intro (by decide +kernel) rfl, by decide +kernel,
   by decide +kernel, by decide +kernel, by decide +kernel, by decide +kernel, by decide +kernel,
   by decide +kernel, by decide +kernel, by decide +kernel, rfl⟩,
   ⟨{ k0 with comps := [(0, { cp with evicting := some (1, 1) })] }, 0, 1, 1, { cp with evicting := some (1, 1) },
   by decide +kernel⟩,
   ⟨kp, _, _, fm, 0, cp, And.intro (by decide +kernel) rfl, by decide +kernel, by decide +kernel, rfl⟩,
   ⟨{ k0 with comps := [(0, { cp with state := .destroying, destroyer := some (1, 1) })] }, 0, 1, 1,
   { cp with state := .destroying, destroyer := some (1, 1) }, by decide +kernel⟩⟩

theorem witness_CompositionCommandsComplete :
    (∃ (s t u : State) (c : Ctx) (h p n : Nat) (y : Comp) (m : Member), s.starts t c (Cmd.f 0x1003 Legal.S)
    { Target.ofComp h with member := some p } ∧ t.comp h = some y ∧ t.bindable h p y = true ∧ n < 4096 ∧
    y.members.length < 256 ∧ y.windowOpen = false ∧ m =
    { lport := p, node := n, leaseEnd := t.clk.timeNs + 1000000 * y.memberLeaseMs, lapsed := false } ∧ u =
    (t.mapChange h).modComp h (fun y => { y with members := y.members ++ [m] }))
    ∧ (∃ (s t u : State) (c : Ctx) (h p : Nat) (y : Comp) (m : Member) (reclaim : Bool), s.starts t c (Cmd.fo
    0x1004 Legal.L) { Target.ofComp h with member := some p } ∧ t.comp h = some y ∧ (y.members.find? fun m =>
    m.lport == p) = some m ∧ y.windowOpen = false ∧ ((reclaim = false → ((t.agentsAt h p m.node).all fun a =>
    (t.coh.look a.1).all fun d => d.recaller.isNone) = true)) ∧ u = (if reclaim then ((t.mapChange h).unbind h
    p).reclaimPort h p m.node else ((t.mapChange h).unbind h p).recallPort h p m.node))
    ∧ (∃ (s t : State) (c : Ctx) (h e : Nat) (y : Comp), s.starts t c (Cmd.fo 0x1005 Legal.L) (Target.ofComp h) ∧
    t.comp h = some y ∧ e = t.clk.timeNs + 1000000000 * y.leaseS)
    ∧ (∃ (s t : State) (c : Ctx) (h e p : Nat) (y : Comp), s.starts t c (Cmd.fo 0x1005 Legal.L)
    { Target.ofComp h with member := some p } ∧ t.comp h = some y ∧ (y.members.any fun m => m.lport == p &&
    !m.lapsed && decide (t.clk.timeNs < m.leaseEnd)) = true ∧ e = t.clk.timeNs + 1000000000 * y.leaseS)
    ∧ (∃ (s t : State) (c : Ctx) (h : Nat) (k : BitVec 8) (y : Comp), s.starts t c (Cmd.f 0x1006 Legal.L)
    (Target.ofComp h) ∧ t.comp h = some y ∧ t.pressesHeld (some h) y.slice k = false ∧ (t.work.groups.vals.all fun
    g => g.comp != h || k.getLsbD g.press) = true)
    ∧ (∃ (s t : State) (c : Ctx) (h : Nat) (y : Comp), s.starts t c
    { Cmd.fob 0x1007 Legal.R with compFm := 7, compOther := 5 } (Target.ofComp h) ∧ t.comp h = some y)
    ∧ (∃ (s t : State) (c : Ctx) (h : Nat) (y : Comp), s.starts t c
    { Cmd.fob 0x1008 Legal.R with compFm := 7, compOther := 5 } (Target.ofComp h) ∧ t.comp h = some y)
    ∧ (∃ (s t : State) (c : Ctx) (h : Nat) (y : Comp), s.starts t c (Cmd.fob 0x1009 Legal.R) (Target.ofComp h) ∧
    t.comp h = some y)
    ∧ (∃ (s t : State) (c : Ctx) (h : Nat) (l : List Digest) (y : Comp), s.starts t c (Cmd.fo 0x100A Legal.L)
    (Target.ofComp h) ∧ t.comp h = some y ∧ l.length ≤ 4) :=
  ⟨⟨{ k0 with links := [(255, { LPort.reset 1 with enable := true })] }, _, _, fm, 0, 255, 4095, cp, _, And.intro
   (by decide +kernel) rfl, by decide +kernel, by decide +kernel, by decide +kernel, by decide +kernel,
   by decide +kernel, rfl, rfl⟩,
   ⟨k0, _, _, fm, 0, 0, cp, ⟨0, 1, 1000000000, false⟩, false, And.intro (by decide +kernel) rfl, by decide +kernel,
   by decide +kernel, by decide +kernel, by decide +kernel, rfl⟩,
   ⟨k0, _, ow, 0, _, cp, And.intro (by decide +kernel) rfl, by decide +kernel, rfl⟩,
   ⟨k0, _, ow, 0, _, 0, cp, And.intro (by decide +kernel) rfl, by decide +kernel, by decide +kernel, rfl⟩,
   ⟨k0, _, fm, 0, 0x7F, cp, And.intro (by decide +kernel) rfl, by decide +kernel⟩,
   ⟨k0, _, ⟨3, 1, none⟩, 0, cp, And.intro (by decide +kernel) rfl, by decide +kernel⟩,
   ⟨k0, _, ow, 0, cp, And.intro (by decide +kernel) rfl, by decide +kernel⟩,
   ⟨k0, _, ow, 0, cp, And.intro (by decide +kernel) rfl, by decide +kernel⟩,
   ⟨k0, _, ow, 0, [1, 2, 3, 4], cp, And.intro (by decide +kernel) rfl, by decide +kernel⟩⟩

theorem witness_LeasesAndWindowsComplete :
    (∃ (s : State) (h : Nat) (y : Comp), s.comp h = some y ∧ y.state = .active ∧ s.dev.pausedAt = none)
    ∧ (∃ (s : State) (h p : Nat) (y : Comp) (m : Member), s.comp h = some y ∧ (y.members.find? fun m => m.lport ==
    p) = some m ∧ y.state = .active ∧ s.dev.pausedAt = none ∧ m.lapsed = false ∧ y.windowOpen = false)
    ∧ (∃ (s : State) (h p : Nat) (y : Comp) (m : Member), s.comp h = some y ∧ (y.members.find? fun m => m.lport ==
    p) = some m ∧ y.state = .active ∧ s.dev.pausedAt = none ∧ m.lapsed = false ∧ y.windowOpen = true)
    ∧ (∃ (s t : State) (h n : Nat) (y z : Comp), s.comp h = some y ∧ y.windowEnd = some n ∧ t = ((s.advanceTo
    n).abortOldEpoch h).modComp h (fun y => { y with windowEnd := none, prevMap := [] }) ∧ t.comp h = some z ∧
    (z.members.all fun m => !m.lapsed) = true)
    ∧ (∃ (s : State) (h : Nat) (y : Comp), s.comp h = some y ∧ y.epoch + 1 < 2 ^ 32) :=
  ⟨⟨k0, 0, cp, by decide +kernel⟩,
   ⟨k0, 0, 0, cp, ⟨0, 1, 1000000000, false⟩, by decide +kernel⟩,
   ⟨{ k0 with comps := [(0, { cp with windowEnd := some 9 })] }, 0, 0, { cp with windowEnd := some 9 }, ⟨0, 1,
   1000000000, false⟩, by decide +kernel⟩,
   ⟨{ k0 with comps := [(0, { cp with windowEnd := some 0 })] }, _, 0, 0, { cp with windowEnd := some 0 }, cp,
   by decide +kernel, by decide +kernel, rfl, by decide +kernel⟩,
   ⟨k0, 0, cp, by decide +kernel⟩⟩

theorem witness_ExtentCommandsComplete :
    (∃ (s t : State) (c : Ctx) (h : Nat) (r : ExtentReq) (y : Comp) (x : Extent), s.starts t c (Cmd.fo 0x2001
    Legal.S) (Target.ofComp h) ∧ t.comp h = some y ∧ t.extentItemBad y r = none ∧ ((r.layout = 1 → r.protection ≠
    1)) ∧ t.extentOverlaps h r.base r.size = false ∧ t.extentRoom h y (newExtent r h t.pool.nextStore) = true ∧
    t.placeExtent (newExtent r h t.pool.nextStore) = some x)
    ∧ (∃ (s t : State) (c : Ctx) (e : Nat) (x : Extent) (y : Comp), s.starts t c
    { Cmd.fo 0x2002 Legal.L with compFm := 3 } (s.targetExtent e) ∧ t.extent e = some x ∧ (x.state = .revoked ∨
    x.state = .held) ∧ t.comp x.comp = some y ∧ y.windowOpen = false)
    ∧ (∃ (s t : State) (c : Ctx) (e a n k : Nat) (x : Extent), s.starts t c (Cmd.fo 0x2003 Legal.L) (s.targetExtent
    e) ∧ t.extent e = some x ∧ n ≠ 0 ∧ a + n ≤ x.chunkCount ∧ x.state ≠ .revoking ∧ x.state ≠ .revoked ∧ 1 ≤ k ∧ k
    ≤ 3)
    ∧ (∃ (s t : State) (c : Ctx) (e : Nat) (x : Extent), s.starts t c (Cmd.fo 0x2004 Legal.L) (s.targetExtent e) ∧
    t.extent e = some x ∧ x.durability = .replicated ∧ x.state = .active ∧ x.sealer = none ∧ t.replicaHere x =
    none)
    ∧ (∃ (s : State) (e i q : Nat) (x : Extent) (d : Digest), s.extent e = some x ∧ x.sealer = some (i, q) ∧
    s.tx.steps = [] ∧ d = Config.sha3 (s.readPool e 0 x.size))
    ∧ (∃ (s t : State) (c : Ctx) (e : Nat) (x : Extent), s.starts t c { Cmd.fob 0x2008 Legal.R with compFm := 1 }
    (s.targetExtent e) ∧ t.extent e = some x) :=
  ⟨⟨kt (ex 0x200000 0), _, ow, 0, er, cp, { newExtent er 0 1 with chunks := [(0, newChunk .warm 0 (0, none))] },
   And.intro (by decide +kernel) rfl, by decide +kernel⟩,
   ⟨ke { ex 0 0 with state := .held }, _, fm, 1, { ex 0 0 with state := .held }, cp, And.intro (by decide +kernel)
   rfl, by decide +kernel⟩,
   ⟨ke (ex 0 0), _, ow, 1, 0, 1, 3, ex 0 0, And.intro (by decide +kernel) rfl, by decide +kernel⟩,
   ⟨ke { ex 0 0 with durability := .replicated, replica := 0x10000 }, _, ow, 1,
   { ex 0 0 with durability := .replicated, replica := 0x10000 }, And.intro (by decide +kernel) rfl,
   by decide +kernel⟩,
   ⟨ke { ex 0 0 with sealer := some (2, 1) }, 1, 2, 1, { ex 0 0 with sealer := some (2, 1) }, _, by decide +kernel,
   by decide +kernel, by decide +kernel, rfl⟩,
   ⟨ke (ex 0 0), _, ⟨3, 1, none⟩, 1, ex 0 0, And.intro (by decide +kernel) rfl, by decide +kernel⟩⟩

theorem witness_RevocationCompletes :
    (∃ (s t : State) (c : Ctx) (e : Nat) (x : Extent), s.starts t c (Cmd.fo 0x2005 Legal.L) (s.targetExtent e) ∧
    t.extent e = some x ∧ (x.state = .active ∨ x.state = .sealed))
    ∧ (∃ (s t : State) (c : Ctx) (e : Nat) (x : Extent), s.starts t c (Cmd.fo 0x2006 Legal.L) (s.targetExtent e) ∧
    t.extent e = some x)
    ∧ (∃ (s : State) (e : Nat) (x : Extent), s.extent e = some x ∧ x.state = .revoking ∧ s.drained e = true)
    ∧ (∃ (s t : State) (c : Ctx) (e h : Nat) (x : Extent) (y : Comp), s.starts t c
    { Cmd.f 0x2007 Legal.L with compFm := 3 } (s.targetExtent e) ∧ t.extent e = some x ∧ t.comp h = some y ∧
    t.adoptRefused x h y = none)
    ∧ (∃ (s : State) (e : Nat) (x : Extent), s.extent e = some x ∧ x.written = [] ∧ s.pool.extents.wf = true ∧ e <
    s.pool.nextExtent) :=
  ⟨⟨ke (ex 0 0), _, ow, 1, ex 0 0, And.intro (by decide +kernel) rfl, by decide +kernel⟩,
   ⟨ke (ex 0 0), _, ow, 1, ex 0 0, And.intro (by decide +kernel) rfl, by decide +kernel⟩,
   ⟨ke { ex 0 0 with state := .revoking }, 1, { ex 0 0 with state := .revoking }, by decide +kernel⟩,
   ⟨{ ke { ex 0 0 with state := .held } with comps := [(0, { cp with state := .expired }), (1, cp)] }, _, fm, 1, 1,
   { ex 0 0 with state := .held }, cp, And.intro (by decide +kernel) rfl, by decide +kernel⟩,
   ⟨ke (ex 0 0), 1, ex 0 0, by decide +kernel⟩⟩

theorem witness_KvObjectsComplete :
    (∃ (s t : State) (c : Ctx) (r : KvReq) (x : Extent) (k : Kv), s.starts t c (Cmd.fo 0x2101 Legal.S)
    (s.targetExtent r.extent) ∧ t.extent r.extent = some x ∧ k = newKv r t.clk.timeNs ∧ r.layers ≠ 0 ∧ r.heads ≠ 0
    ∧ r.pages ≠ 0 ∧ dimOk r.dim = true ∧ ((∀ n, r.leaseS = some n → 1 ≤ n ∧ n ≤ 3600)) ∧ r.objOffset % (if x.vq
    then x.slotLines * 128 else 32768) = 0 ∧ x.gone = false ∧ r.objOffset + k.quires * k.quireBytes x ≤ x.size ∧
    t.kvByKey x.comp r.key = none ∧ x.poison = [])
    ∧ (∃ (s t : State) (c : Ctx) (k : Nat) (o : Kv) (x : Extent), s.starts t c (Cmd.fo 0x2102 Legal.L) (s.targetKv
    k) ∧ t.pool.kv.look k = some o ∧ t.extent o.extent = some x ∧ o.state ≠ .retiring)
    ∧ (∃ (s t : State) (c : Ctx) (h k : Nat) (key : BitVec 128) (y : Comp) (o : Kv) (x : Extent), s.starts t c
    (Cmd.fo 0x2103 Legal.R) (Target.ofComp h) ∧ t.comp h = some y ∧ t.kvByKey h key = some (k, o) ∧ t.pool.kv.look
    k = some o ∧ t.extent o.extent = some x ∧ o.state ≠ .retiring ∧ x.gone = false)
    ∧ (∃ (s t : State) (c : Ctx) (k : Nat) (o : Kv) (x : Extent), s.starts t c (Cmd.fo 0x2104 Legal.L) (s.targetKv
    k) ∧ t.pool.kv.look k = some o ∧ t.extent o.extent = some x ∧ o.state ≠ .retiring ∧ x.gone = false ∧ o.refs <
    65535)
    ∧ (∃ (s t : State) (c : Ctx) (k : Nat) (o : Kv), s.starts t c (Cmd.fo 0x2105 Legal.L) (s.targetKv k) ∧
    t.pool.kv.look k = some o ∧ o.refs ≠ 0)
    ∧ (∃ (s t : State) (c : Ctx) (k n e : Nat) (o : Kv) (x : Extent), s.starts t c (Cmd.fo 0x2106 Legal.L)
    (s.targetKv k) ∧ t.pool.kv.look k = some o ∧ t.extent o.extent = some x ∧ o.state ≠ .retiring ∧ 1 ≤ n ∧ n ≤
    3600 ∧ e = t.clk.timeNs + 1000000000 * n)
    ∧ (∃ (s t : State) (c : Ctx) (k n a b : Nat) (o : Kv) (x : Extent), s.starts t c (Cmd.fo 0x2107 Legal.L)
    (s.targetKv k) ∧ t.pool.kv.look k = some o ∧ t.extent o.extent = some x ∧ o.state ≠ .retiring ∧ x.state ≠
    .revoking ∧ x.state ≠ .revoked ∧ 1 ≤ n ∧ n ≤ 3 ∧ o.quires * o.quireBytes x ≠ 0 ∧ a = o.objOffset / 2097152 ∧ b
    = (o.objOffset + o.quires * o.quireBytes x - 1) / 2097152 + 1 - a)
    ∧ (∃ (s t : State) (c : Ctx) (k : Nat) (o : Kv), s.starts t c (Cmd.fo 0x2108 Legal.L) (s.targetKv k) ∧
    t.pool.kv.look k = some o ∧ o.refs = 0 ∧ o.implicit = 0)
    ∧ (∃ (s : State) (k : Nat) (o : Kv), s.pool.kv.look k = some o ∧ o.state ≠ .retiring ∧ s.dev.pausedAt = none ∧
    ((∀ x, s.extent o.extent = some x → x.state ≠ .held)))
    ∧ (∃ (s t : State) (c : Ctx) (k : Nat) (o : Kv), s.starts t c (Cmd.fo 0x2108 Legal.L) (s.targetKv k) ∧
    t.pool.kv.look k = some o ∧ o.refs ≠ 0)
    ∧ (∃ (s t : State) (c : Ctx) (k : Nat) (o : Kv), s.starts t c (Cmd.fo 0x2105 Legal.L) (s.targetKv k) ∧
    t.pool.kv.look k = some o ∧ o.refs = 0) :=
  ⟨⟨ke (ex 0 0), _, ow, ⟨5, 1, 0, 1, 1, 1, 256, true, some 3600⟩, ex 0 0, _, And.intro (by decide +kernel) rfl,
   by decide +kernel, rfl, by decide +kernel, by decide +kernel, by decide +kernel, by decide +kernel, by simp,
   by decide +kernel⟩,
   ⟨kk kv, _, ow, 1, kv, ex 0 0, And.intro (by decide +kernel) rfl, by decide +kernel⟩,
   ⟨kk kv, _, ow, 0, 1, 5, cp, kv, ex 0 0, And.intro (by decide +kernel) rfl, by decide +kernel⟩,
   ⟨kk { kv with refs := 65534 }, _, ow, 1, { kv with refs := 65534 }, ex 0 0, And.intro (by decide +kernel) rfl,
   by decide +kernel⟩,
   ⟨kk { kv with refs := 1 }, _, ow, 1, { kv with refs := 1 }, And.intro (by decide +kernel) rfl,
   by decide +kernel⟩,
   ⟨kk kv, _, ow, 1, 3600, _, kv, ex 0 0, And.intro (by decide +kernel) rfl, by decide +kernel, by decide +kernel,
   by decide +kernel, by decide +kernel, by decide +kernel, rfl⟩,
   ⟨kk kv, _, ow, 1, 3, _, _, kv, ex 0 0, And.intro (by decide +kernel) rfl, by decide +kernel, by decide +kernel,
   by decide +kernel, by decide +kernel, by decide +kernel, by decide +kernel, by decide +kernel,
   by decide +kernel, rfl, rfl⟩,
   ⟨kk kv, _, ow, 1, kv, And.intro (by decide +kernel) rfl, by decide +kernel⟩,
   ⟨kk kv, 1, kv, by decide +kernel, by decide +kernel, by decide +kernel, fun _ h => Option.some.inj h ▸
   by decide +kernel⟩,
   ⟨kk { kv with refs := 1 }, _, ow, 1, { kv with refs := 1 }, And.intro (by decide +kernel) rfl,
   by decide +kernel⟩,
   ⟨kk kv, _, ow, 1, kv, And.intro (by decide +kernel) rfl, by decide +kernel⟩⟩

theorem witness_CodebooksGroupsLedgersComplete :
    (∃ (s t : State) (c : Ctx) (h cb a e off g : Nat) (y : Comp) (x : Extent) (b : List Byte), s.starts t c (Cmd.fo
    0x2201 Legal.L) (Target.ofComp h) ∧ t.comp h = some y ∧ cb ≤ 63 ∧ a % 128 = 0 ∧ a < 2 ^ 57 ∧ t.codebooksBusy h
    = false ∧ t.findExtent h a 65536 = some (e, off) ∧ t.extent e = some x ∧ b = t.readPool e off 65536 ∧ x.gone =
    false ∧ x.isProtected = false ∧ x.vq = false ∧ codebookFinite b = true ∧ ((y.codebooks.look cb).any
    Codebook.registered = true ∨ (t.pinnedOf h + 2 ≤ y.pinQuota ∧ 2 ≤ t.t0Free)) ∧ x.poisoned off 65536 = false ∧ g
    = nextGen (((y.codebooks.look cb).map Codebook.gen).getD 0))
    ∧ (∃ (s t : State) (c : Ctx) (h cb : Nat) (y : Comp) (b : Codebook), s.starts t c (Cmd.fo 0x2202 Legal.L)
    (Target.ofComp h) ∧ t.comp h = some y ∧ cb ≤ 63 ∧ t.codebooksBusy h = false ∧ y.codebooks.look cb = some b ∧
    b.registered = true)
    ∧ (∃ (s t : State) (c : Ctx) (h : Nat) (y : Comp), s.starts t c (Cmd.fo 0x2203 Legal.R) (Target.ofComp h) ∧
    t.comp h = some y)
    ∧ (∃ (s t : State) (c : Ctx) (e a n : Nat) (x : Extent), s.starts t c (Cmd.fo 0x2204 Legal.R) (s.targetExtent
    e) ∧ t.extent e = some x ∧ x.vq = true ∧ 1 ≤ n ∧ n ≤ 1024 ∧ (a + n) * x.slotLines * 128 ≤ x.size)
    ∧ (∃ (s t : State) (c : Ctx) (h gid p : Nat) (l : List (Nat × Nat)) (up : Option (Nat × Nat)) (y : Comp) (g :
    Group), s.starts t c (Cmd.f 0x3001 Legal.S) (Target.ofComp h) ∧ t.comp h = some y ∧ gid < 65536 ∧ t.groupFor h
    gid = none ∧ p < 8 ∧ y.pressMask.getLsbD p = true ∧ ((∀ q ∈ t.comps, q.1 ≠ h → q.2.pressMask.getLsbD p =
    false)) ∧ 2 ≤ l.length ∧ l.length ≤ 256 ∧ distinct l = true ∧ l.all (t.contributorOk y) = true ∧ ((∀ q, up =
    some q → q.1 < 4096 ∧ q.2 < 256)) ∧ t.work.groups.length < 1024 ∧ g =
    { comp := h, gid := gid, press := p, members := l, parent := up, done := [], aborted := [] })
    ∧ (∃ (s t : State) (c : Ctx) (h gid k : Nat) (y : Comp) (g : Group), s.starts t c (Cmd.f 0x3002 Legal.L)
    (Target.ofComp h) ∧ t.comp h = some y ∧ t.groupFor h gid = some (k, g))
    ∧ (∃ (s t : State) (c : Ctx) (h n ring entries depth : Nat) (y : Comp) (j : Job), s.starts t c (Cmd.fo 0x3003
    Legal.S) (Target.ofComp h) ∧ t.comp h = some y ∧ (y.members.any fun m => m.node == n) = true ∧ t.jobFor h n =
    none ∧ 16 ≤ entries ∧ entries ≤ 1048576 ∧ depth ≠ 0 ∧ depth ≤ 1024 ∧ depth ≤ entries ∧ (t.rangeOf h ring (64 *
    entries)).isSome = true ∧ (t.rangeIs h ring (64 * entries) fun x => !x.vq && (decide (x.durability = .mirrored)
    || decide (x.tier = .t2Home))) = true ∧ j =
    { comp := h, node := n, ring := ring, entries := entries, depth := depth, copy := none, nextStep := 1, openSteps := 0, closer := none })
    ∧ (∃ (s t : State) (c : Ctx) (k : Nat) (j : Job), s.work.jobs.look k = some j ∧ s.starts t c (Cmd.fo 0x3004
    Legal.L) (Target.ofComp j.comp) ∧ j.closer = none) :=
  ⟨⟨ke (ex 0 0), _, ow, 0, 63, 0, 1, 0, 1, cp, ex 0 0, List.replicate 65536 0#8, And.intro (by decide +kernel) rfl,
   by decide +kernel, by decide +kernel, by decide +kernel, by decide +kernel, by decide +kernel,
   by decide +kernel, by decide +kernel, (cellsRun_nil 0 65536).symm, by decide +kernel, by decide +kernel,
   by decide +kernel, finite_zero _, by decide +kernel⟩,
   ⟨{ k0 with comps := [(0, { cp with codebooks := [(63, ⟨1, true, []⟩)] })] }, _, ow, 0, 63,
   { cp with codebooks := [(63, ⟨1, true, []⟩)] }, ⟨1, true, []⟩, And.intro (by decide +kernel) rfl,
   by decide +kernel⟩,
   ⟨k0, _, ow, 0, cp, And.intro (by decide +kernel) rfl, by decide +kernel⟩,
   ⟨ke { ex 0 0 with vq := true, slotLines := 64 }, _, ow, 1, 0, 256, { ex 0 0 with vq := true, slotLines := 64 },
   And.intro (by decide +kernel) rfl, by decide +kernel⟩,
   ⟨kl lp, _, fm, 0, 65535, 7, [(1, 0), (2, 8)], some (4095, 255), cp, _, And.intro (by decide +kernel) rfl,
   by decide +kernel, by decide +kernel, by decide +kernel, by decide +kernel, by decide +kernel,
   by decide +kernel, by decide +kernel, by decide +kernel, by decide +kernel, by decide +kernel,
   by decide +kernel, by decide +kernel, rfl⟩,
   ⟨kg gr, _, fm, 0, 65535, 1, cp, gr, And.intro (by decide +kernel) rfl, by decide +kernel⟩,
   ⟨ke { ex 0 0 with durability := .mirrored }, _, ow, 0, 1, 0, 16, 16, cp, _, And.intro (by decide +kernel) rfl,
   by decide +kernel, by decide +kernel, by decide +kernel, by decide +kernel, by decide +kernel,
   by decide +kernel, by decide +kernel, by decide +kernel, by decide +kernel, by decide +kernel, rfl⟩,
   ⟨{ k0 with work := { Work.reset with jobs := [(1, ⟨0, 1, 0, 16, 1, none, 1, 0, none⟩)] } }, _, ow, 1, ⟨0, 1, 0,
   16, 1, none, 1, 0, none⟩, by decide +kernel, And.intro (by decide +kernel) rfl, by decide +kernel⟩⟩

theorem witness_DomainCommandsComplete :
    (∃ (s t : State) (c : Ctx) (h a b d : Nat) (x : Domain), s.starts t c (Cmd.fo 0x1101 Legal.S) (Target.ofComp h)
    ∧ (t.comp h).isSome = true ∧ 1024 ≤ b ∧ t.coh.lowestFree 0 64 = some d ∧ t.cohAllotted.1 + a ≤ 2097152 ∧
    t.cohAllotted.2 + b ≤ 134217728 ∧ x =
    { comp := h, agents := [], extents := [], onchip := a, overflow := b, dir := [], snoops := [], grants := [], nextGrant := 0, cnt := [], recaller := none })
    ∧ (∃ (s t : State) (c : Ctx) (d : Nat) (x : Domain), s.starts t c (Cmd.fo 0x1102 Legal.L) (s.targetDom d) ∧
    t.coh.look d = some x ∧ x.recaller = none)
    ∧ (∃ (s t : State) (c : Ctx) (d i n p hops : Nat) (x : Domain) (a b : Agent), s.starts t c (Cmd.fo 0x1103
    Legal.L) (s.targetDom d) ∧ t.coh.look d = some x ∧ i ≤ 15 ∧ hops ≤ 15 ∧ ((t.comp x.comp).any fun y =>
    y.members.any fun m => m.lport == p && m.node == n) = true ∧ (x.agents.look i = none ∨ (x.agents.look i = some
    a ∧ a.node = n ∧ a.lport = p)) ∧ b =
    { node := n, lport := p, hops := hops, unresponsive := ((x.agents.look i).map Agent.unresponsive).getD false })
    ∧ (∃ (s t : State) (c : Ctx) (d i : Nat) (x : Domain), s.starts t c (Cmd.fo 0x1104 Legal.L) (s.targetDom d) ∧
    t.coh.look d = some x ∧ x.agents.has i = true)
    ∧ (∃ (s t : State) (c : Ctx) (d e : Nat) (x : Domain) (y : Extent), s.starts t c (Cmd.fo 0x1105 Legal.L)
    { s.targetDom d with extent := some e } ∧ t.coh.look d = some x ∧ t.extent e = some y ∧ y.comp = x.comp ∧
    (y.state = .active ∨ y.state = .sealed) ∧ y.vq = false ∧ t.domainOf e = none)
    ∧ (∃ (s t : State) (c : Ctx) (d e : Nat) (x : Domain), s.starts t c (Cmd.fo 0x1106 Legal.L)
    { s.targetDom d with extent := some e } ∧ t.coh.look d = some x ∧ e ∈ x.extents ∧ x.recaller = none)
    ∧ (∃ (s t : State) (d i q op what n : Nat) (x : Domain), s.coh.look d = some x ∧ x.recaller = some (i, q, op,
    what, n) ∧ x.recalling = false ∧ t = s.modDom d (fun x => { x with recaller := none }) ∧ op ≠ 0x1004)
    ∧ (∃ (s t : State) (c : Ctx) (d : Nat) (x : Domain), s.starts t c (Cmd.fo 0x1107 Legal.L) (s.targetDom d) ∧
    t.coh.look d = some x)
    ∧ (∃ (s t : State) (c : Ctx) (d : Nat) (x : Domain), s.starts t c (Cmd.fo 0x1108 Legal.R) (s.targetDom d) ∧
    t.coh.look d = some x) :=
  ⟨⟨k0, _, ow, 0, 2097152, 134217728, 0, _, And.intro (by decide +kernel) rfl, by decide +kernel,
   by decide +kernel, by decide +kernel, by decide +kernel, by decide +kernel, rfl⟩,
   ⟨kc dm, _, ow, 63, dm, And.intro (by decide +kernel) rfl, by decide +kernel⟩,
   ⟨kc dm, _, ow, 63, 15, 1, 0, 15, dm, ⟨1, 0, 0, false⟩, _, And.intro (by decide +kernel) rfl, by decide +kernel,
   by decide +kernel, by decide +kernel, by decide +kernel, by decide +kernel, rfl⟩,
   ⟨kc dm, _, ow, 63, 15, dm, And.intro (by decide +kernel) rfl, by decide +kernel⟩,
   ⟨kc dm, _, ow, 63, 1, dm, ex 0 0, And.intro (by decide +kernel) rfl, by decide +kernel⟩,
   ⟨kc { dm with extents := [1] }, _, ow, 63, 1, { dm with extents := [1] }, And.intro (by decide +kernel) rfl,
   by decide +kernel⟩,
   ⟨kc { dm with recaller := some (1, 1, 0x1102, 0, 0) }, _, 63, 1, 1, 0x1102, 0, 0,
   { dm with recaller := some (1, 1, 0x1102, 0, 0) }, by decide +kernel, by decide +kernel, by decide +kernel, rfl,
   by decide +kernel⟩,
   ⟨kc dm, _, ow, 63, dm, And.intro (by decide +kernel) rfl, by decide +kernel⟩,
   ⟨kc dm, _, ow, 63, dm, And.intro (by decide +kernel) rfl, by decide +kernel⟩⟩

theorem witness_TopologyCompletes :
    (∃ (s t : State) (c : Ctx) (n : Nat), s.starts t c (Cmd.f 0x4001 Legal.BR) Target.none ∧ n ≤ 0xFFF ∧ bit (t.reg
    Reg.TP_CFG) 16 = false)
    ∧ (∃ (s t : State) (c : Ctx) (i : Nat) (r : RouteReq) (x : Route), s.starts t c (Cmd.f 0x4002 Legal.C)
    Target.none ∧ i < 4096 ∧ t.routeOk i r = true ∧ x =
    { valid := r.valid, isLocal := r.isLocal, esc := r.esc, members := r.members.take r.count, withdrawn := 0, last := 0, announced := false })
    ∧ (∃ (s t : State) (c : Ctx) (i n : Nat), s.starts t c (Cmd.f 0x4003 Legal.R) Target.none ∧ 1 ≤ n ∧ n ≤ 128 ∧ i
    + n ≤ 4096)
    ∧ (∃ (s t : State) (c : Ctx), s.starts t c (Cmd.f 0x4004 Legal.R) Target.none)
    ∧ (∃ (s t : State) (c : Ctx) (p : Nat) (n : Nbr), s.starts t c (Cmd.f 0x4005 Legal.C) Target.none ∧
    t.topo.nbrs.look p = some n ∧ n.state = .new ∧ n.assigned = true)
    ∧ (∃ (s : State) (p : Nat) (r : ProbeRec) (l : LPort), s.links.look p = some l ∧ s.portRuns p = true ∧ l.role =
    .peer ∧ r.resvZero = true ∧ s.conflicts r = false)
    ∧ (∃ (s : State) (p : Nat) (r : ProbeRec) (l : LPort) (n : Nbr), s.links.look p = some l ∧ s.portRuns p = true
    ∧ l.role = .peer ∧ r.resvZero = true ∧ s.conflicts r = false ∧ s.topo.nbrs.look p = some n ∧ n.liveId = some
    (r.linkId, r.node))
    ∧ (∃ (s : State), bit (s.reg Reg.TP_CFG) 16 = true ∧ s.comps = [] ∧ s.topo.assigned = false ∧ s.topo.candidate
    = none)
    ∧ (∃ (s : State) (h : Hdr) (n : Nat) (l : List Nat), s.mgmtIngress 0x61 h = none ∧ 1 ≤ n ∧ n ≤ 2044 ∧ h.length
    = 8 + 2 * n ∧ l.length = n ∧ h.resv = 0 ∧ h.status = 0)
    ∧ (∃ (s : State) (h : Hdr), s.mgmtIngress 0xE1 h = none)
    ∧ (∃ (s t : State) (k : Nat) (x : Held), s.tx.held.look k = some x ∧ vcOf x.pkt.opcode = 0 ∧ t = ((s.advanceTo
    x.untilNs).modTx fun t => { t with held := t.held.del k }).bump Reg.TP_CNT_NO_ROUTE)
    ∧ (∃ (s : State) (k p : Nat) (x : Held), s.tx.held.look k = some x ∧ s.chooseMember x.pkt none = some p) :=
  ⟨⟨{ k0 with dev := { k0.dev with state := .ready } }, _, fm, 4095, And.intro (by decide +kernel) rfl,
   by decide +kernel⟩,
   ⟨kl lp, _, fm, 4095, ⟨4095, true, false, 1, 0xFF, [8], true⟩, _, And.intro (by decide +kernel) rfl,
   by decide +kernel, by decide +kernel, rfl⟩,
   ⟨k0, _, fm, 3968, 128, And.intro (by decide +kernel) rfl, by decide +kernel⟩,
   ⟨k0, _, fm, And.intro (by decide +kernel) rfl⟩,
   ⟨{ kl lp with topo := { Topo.reset with nbrs := [(8, nb)] } }, _, fm, 8, nb, And.intro (by decide +kernel) rfl,
   by decide +kernel⟩,
   ⟨kl lp, 8, pr, lp, by decide +kernel⟩,
   ⟨{ kl lp with topo := { Topo.reset with nbrs := [(8, { nb with liveId := some (5, 3) })] } }, 8, pr, lp,
   { nb with liveId := some (5, 3) }, by decide +kernel⟩,
   ⟨{ k0 with comps := [], csr := [(Reg.TP_CFG, 0x10000)] }, by decide +kernel⟩,
   ⟨kl lp, ({ h0 0 0 with lport := 8, length := 10 }).sealed 0x61, 1, [0], by decide +kernel⟩,
   ⟨kl lp, ({ h0 0 0 with lport := 8 }).sealed 0xE1, by decide +kernel⟩,
   ⟨{ kl lp with tx := { Tx.reset with held := [(1, ⟨q0 1, 5⟩)] } }, _, 1, ⟨q0 1, 5⟩, by decide +kernel,
   by decide +kernel, rfl⟩,
   ⟨{ kl { lp with role := .accel } with topo := { Topo.reset with routes := [(0, ⟨true, false, 0xFF, [8], 0, 0, false⟩)] }, tx := { Tx.reset with held := [(1, ⟨q0 1, 5⟩)] } },
   1, 8, ⟨q0 1, 5⟩, by decide +kernel⟩⟩

theorem witness_LinkTrainingCompletes :
    (∃ (s : State) (p : Nat), s.portIs p .detect = true)
    ∧ (∃ (s : State) (p : Nat) (l : LPort), s.links.look p = some l ∧ l.st = .detect ∧ l.signal = true)
    ∧ (∃ (s : State) (p : Nat), s.portIs p .laneLock = true)
    ∧ (∃ (s t : State) (p f : Nat) (id : Word64) (rev : Bool), s.portIs p .align = true ∧ t = s.modPort p (fun l =>
    { l with farId := id, farPort := f, reversed := rev }) ∧ (t.ft.expelled.any fun e => e.linkId == id &&
    !e.quarantine) = false ∧ t.presetFor id f p = none)
    ∧ (∃ (s t : State) (p f : Nat) (id : Word64) (rev : Bool) (q : Preset), s.portIs p .align = true ∧ t =
    s.modPort p (fun l => { l with farId := id, farPort := f, reversed := rev }) ∧ (t.ft.expelled.any fun e =>
    e.linkId == id && !e.quarantine) = false ∧ t.presetFor id f p = some q)
    ∧ (∃ (s : State) (p : Nat), s.portIs p .align = true)
    ∧ (∃ (s : State) (p : Nat) (l : LPort), s.links.look p = some l ∧ l.st = .equalize)
    ∧ (∃ (s : State) (p : Nat) (l : LPort), s.links.look p = some l ∧ l.st = .equalize ∧ l.fast = true)
    ∧ (∃ (s t : State) (p : Nat) (l : LPort) (far : FarEnd), s.links.look p = some l ∧ l.st = .linkInit ∧ far.role
    = l.role.code ∧ (l.crypt && !far.crypt) = false ∧ ((List.range 8).all fun v => decide (1 ≤
    (far.credits[v]?).getD 0)) = true ∧ t = (s.modPort p fun l =>
    { l with farRole := far.role % 4, farFallow := far.fallow }).modPort p (fun l =>
    { l with st := .up, fecOn := l.fecLow && far.fecLow, cryptOn := false, txSeq := 0, txAcked := 0, rxSeq := 0, credits := (List.range 8).map fun v => (v, ((far.credits[v]?).getD 0 : Int)), lastTotal := [], owed := [], retTotal := [] }))
    ∧ (∃ (s : State) (p : Nat) (l : LPort), s.links.look p = some l ∧ (l.st = .laneLock ∨ l.st = .align ∨ l.st =
    .equalize ∨ l.st = .linkInit ∨ (l.st = .detect ∧ l.signal = true)))
    ∧ (∃ (s : State) (p : Nat) (l : LPort), s.links.look p = some l ∧ l.st = .up) :=
  ⟨⟨kl { lp with st := .detect }, 8, by decide +kernel⟩,
   ⟨kl { lp with st := .detect }, 8, { lp with st := .detect }, by decide +kernel⟩,
   ⟨kl { lp with st := .laneLock }, 8, by decide +kernel⟩,
   ⟨kl { lp with st := .align }, _, 8, 255, 5, true, by decide +kernel, rfl, by decide +kernel⟩,
   ⟨{ kl { lp with st := .align } with sw := { Switch.reset with presets := [⟨5, 255, 8, 1⟩] } }, _, 8, 255, 5,
   true, ⟨5, 255, 8, 1⟩, by decide +kernel, rfl, by decide +kernel⟩,
   ⟨kl { lp with st := .align }, 8, by decide +kernel⟩,
   ⟨kl { lp with st := .equalize }, 8, { lp with st := .equalize }, by decide +kernel⟩,
   ⟨kl { lp with st := .equalize, fast := true }, 8, { lp with st := .equalize, fast := true }, by decide +kernel⟩,
   ⟨kl { lp with st := .linkInit }, _, 8, { lp with st := .linkInit }, ⟨1, true, true, true, List.replicate 8 1⟩,
   by decide +kernel, by decide +kernel, by decide +kernel, by decide +kernel, by decide +kernel, rfl⟩,
   ⟨kl { lp with st := .linkInit }, 8, { lp with st := .linkInit }, by decide +kernel⟩,
   ⟨kl lp, 8, lp, by decide +kernel⟩⟩

theorem witness_FlitsComplete :
    (∃ (s t u : State) (p : Nat) (f : Trailer) (l : LPort), s.flitGood p f = (true, t) ∧ u = (t.takeFields p
    f).modPort p (fun l => { l with fallowReq := false }) ∧ u.links.look p = some l ∧ l.st = .up ∧ f.seq = l.rxSeq
    ∧ l.role ≠ .analysis)
    ∧ (∃ (s t u : State) (p : Nat) (f : Trailer) (l : LPort), s.flitGood p f = (true, t) ∧ u = (t.takeFields p
    f).modPort p (fun l => { l with fallowReq := false }) ∧ u.links.look p = some l ∧ l.st = .up ∧ f.seq ≠ l.rxSeq
    ∧ l.nakSent = false)
    ∧ (∃ (s t : State) (p : Nat) (f : Trailer), s.flitGood p f = (true, t))
    ∧ (∃ (s t : State) (p k : Nat) (l m : LPort), s.links.look p = some l ∧ l.st = .up ∧ l.replaying = false ∧ t =
    s.modPort p (LPort.takeAck k) ∧ t.links.look p = some m ∧ m.flitsOut ≠ 0 ∧ m.replays < t.field
    Reg.LK_REPLAY_CFG 15 8)
    ∧ (∃ (s : State) (p : Nat) (l : LPort), s.links.look p = some l ∧ l.st = .up ∧ l.flitsOut ≠ 0 ∧ l.replays <
    s.field Reg.LK_REPLAY_CFG 15 8)
    ∧ (∃ (s : State) (p : Nat) (l : LPort), s.links.look p = some l ∧ l.st = .up ∧ l.nakSent = true)
    ∧ (∃ (l : LPort) (a : Nat), l.txSeq < 4096 ∧ l.txAcked < 4096 ∧ a < 4096 ∧ (a + 4096 - l.txAcked) % 4096 <
    l.flitsOut) :=
  ⟨⟨kl { lp with rxSeq := 4095 }, _, _, 8, tr 4095, _, Prod.ext (by decide +kernel) rfl, rfl, rfl,
   by decide +kernel⟩,
   ⟨kl lp, _, _, 8, tr 4095, _, Prod.ext (by decide +kernel) rfl, rfl, rfl, by decide +kernel⟩,
   ⟨kl lp, _, 8, tr 0, Prod.ext (by decide +kernel) rfl⟩,
   ⟨kl { lp with txSeq := 2 }, _, 8, 0, { lp with txSeq := 2 }, _, by decide +kernel, by decide +kernel,
   by decide +kernel, rfl, rfl, by decide +kernel⟩,
   ⟨kl { lp with txSeq := 2 }, 8, { lp with txSeq := 2 }, by decide +kernel⟩,
   ⟨kl { lp with nakSent := true }, 8, { lp with nakSent := true }, by decide +kernel⟩,
   ⟨{ lp with txSeq := 0, txAcked := 4095 }, 4095, by decide +kernel⟩⟩

theorem witness_LinkKeysAndFallowComplete :
    (∃ (s : State) (p : Nat) (l : LPort), s.links.look p = some l ∧ s.portRuns p = true ∧ l.crypt = true ∧
    l.cryptOn = false)
    ∧ (∃ (s : State) (p : Nat) (l : LPort), s.links.look p = some l ∧ s.portRuns p = true ∧ l.crypt = true ∧
    l.cryptOn = true ∧ l.rekeying = true)
    ∧ (∃ (s : State) (p : Nat) (l : LPort), s.links.look p = some l ∧ l.cryptOn = true)
    ∧ (∃ (s : State) (p k : Nat) (l : LPort), s.links.look p = some l ∧ l.st = .up ∧ l.cryptOn = true ∧ (k = 1 ∨ k
    = 2))
    ∧ (∃ (s : State) (p : Nat) (l : LPort), s.links.look p = some l ∧ l.mayFallow = true ∧ l.idle = true ∧
    l.fallowReq = false)
    ∧ (∃ (s : State) (p : Nat) (l : LPort), s.links.look p = some l ∧ l.mayFallow = true ∧ l.fallowReq = true)
    ∧ (∃ (s : State) (p : Nat) (l : LPort), s.links.look p = some l ∧ l.mayFallow = true ∧ l.fallowReq = false ∧
    l.idle = true)
    ∧ (∃ (s : State) (p : Nat) (l : LPort), s.links.look p = some l ∧ l.st = .up ∧ l.fallowReq = true)
    ∧ (∃ (s : State) (p : Nat), s.portIs p .fallow = true)
    ∧ (∃ (s : State) (p : Nat) (l : LPort), s.links.look p = some l ∧ l.st = .fallow ∧ l.waking = true) :=
  ⟨⟨kl { lp with crypt := true }, 8, { lp with crypt := true }, by decide +kernel⟩,
   ⟨kl { lp with crypt := true, cryptOn := true, rekeying := true }, 8,
   { lp with crypt := true, cryptOn := true, rekeying := true }, by decide +kernel⟩,
   ⟨kl { lp with cryptOn := true }, 8, { lp with cryptOn := true }, by decide +kernel⟩,
   ⟨kl { lp with cryptOn := true }, 8, 2, { lp with cryptOn := true }, by decide +kernel⟩,
   ⟨kl { lp with farFallow := true }, 8, { lp with farFallow := true }, by decide +kernel⟩,
   ⟨kl { lp with farFallow := true, fallowReq := true }, 8, { lp with farFallow := true, fallowReq := true },
   by decide +kernel⟩,
   ⟨kl { lp with farFallow := true }, 8, { lp with farFallow := true }, by decide +kernel⟩,
   ⟨kl { lp with fallowReq := true }, 8, { lp with fallowReq := true }, by decide +kernel⟩,
   ⟨kl { lp with st := .fallow }, 8, by decide +kernel⟩,
   ⟨kl { lp with st := .fallow, waking := true }, 8, { lp with st := .fallow, waking := true }, by decide +kernel⟩⟩

theorem witness_PortWritesComplete :
    (∃ (s t u : State) (c : Ctx) (v : Word) (p : Nat) (l : LPort), s.starts t c (Cmd.f 0x0011 Legal.C) Target.none
    ∧ p = t.reg Reg.LK_PORT_SEL % 256 ∧ t.links.look p = some l ∧ bits v.toNat 22 18 < 24 ∧ bits v.toNat 28 27 =
    (if p % 8 = 0 then splitOfWidth l.width else 0) ∧ Role.ofCode (bits v.toNat 30 29) ≠ .tray ∧ l.st = .disabled ∧
    u = (t.modPort p (fun l =>
    { l with role := Role.ofCode (bits v.toNat 30 29), trayIndex := bits v.toNat 22 18, fecLow := bit v.toNat 26, crypt := bit v.toNat 25, fallowEn := bit v.toNat 24, reduced := bit v.toNat 23 })).setEnable
    p (bit v.toNat 31))
    ∧ (∃ (s t u : State) (c : Ctx) (v : Word) (p : Nat) (l : LPort), s.starts t c (Cmd.f 0x0011 Legal.C)
    Target.none ∧ p = t.reg Reg.LK_PORT_SEL % 256 ∧ t.links.look p = some l ∧ bits v.toNat 22 18 = l.trayIndex ∧
    l.trayIndex < 24 ∧ bits v.toNat 28 27 = (if p % 8 = 0 then splitOfWidth l.width else 0) ∧ Role.ofCode (bits
    v.toNat 30 29) = l.role ∧ l.role ≠ .tray ∧ bit v.toNat 26 = l.fecLow ∧ bit v.toNat 25 = l.crypt ∧ bit v.toNat
    23 = l.reduced ∧ bit v.toNat 31 = false ∧ u = (t.modPort p (fun l =>
    { l with role := Role.ofCode (bits v.toNat 30 29), trayIndex := bits v.toNat 22 18, fecLow := bit v.toNat 26, crypt := bit v.toNat 25, fallowEn := bit v.toNat 24, reduced := bit v.toNat 23 })).setEnable
    p false)
    ∧ (∃ (s t u : State) (c : Ctx) (v : Word) (p : Nat) (l : LPort), s.starts t c (Cmd.f 0x0011 Legal.C)
    Target.none ∧ p = t.reg Reg.LK_PORT_SEL % 256 ∧ p % 8 = 0 ∧ t.links.look p = some l ∧ bits v.toNat 22 18 < 24 ∧
    bits v.toNat 28 27 ≠ splitOfWidth l.width ∧ ((t.links.filter fun q => q.1 / 8 == p / 8).all fun q => decide
    (q.2.st = .disabled)) = true ∧ Role.ofCode (bits v.toNat 30 29) ≠ .tray ∧ u = ((t.setSplit (p / 8) (bits
    v.toNat 28 27)).modPort p (fun l =>
    { l with role := Role.ofCode (bits v.toNat 30 29), trayIndex := bits v.toNat 22 18, fecLow := bit v.toNat 26, crypt := bit v.toNat 25, fallowEn := bit v.toNat 24, reduced := bit v.toNat 23 })).setEnable
    p (bit v.toNat 31)) :=
  ⟨⟨{ k0 with csr := [(Reg.LK_PORT_SEL, 248)] }, _, _, fm, 0xE05C0000, 248, LPort.reset 8, And.intro
   (by decide +kernel) rfl, by decide +kernel, by decide +kernel, by decide +kernel, by decide +kernel,
   by decide +kernel, by decide +kernel, rfl⟩,
   ⟨{ k0 with csr := [(Reg.LK_PORT_SEL, 248)] }, _, _, fm, 0, 248, LPort.reset 8, And.intro (by decide +kernel)
   rfl, by decide +kernel, by decide +kernel, by decide +kernel, by decide +kernel, by decide +kernel,
   by decide +kernel, by decide +kernel, by decide +kernel, by decide +kernel, by decide +kernel,
   by decide +kernel, rfl⟩,
   ⟨{ k0 with csr := [(Reg.LK_PORT_SEL, 248)] }, _, _, fm, 0x38000000, 248, LPort.reset 8, And.intro
   (by decide +kernel) rfl, by decide +kernel, by decide +kernel, by decide +kernel, by decide +kernel,
   by decide +kernel, by decide +kernel, by decide +kernel, rfl⟩⟩

theorem witness_SwitchingCompletes :
    (∃ (s : State) (p t0 : Nat) (l : LPort) (k : Packet) (esc : Bool) (rest : List (Packet × Nat × Bool)),
    s.links.look p = some l ∧ l.st = .up ∧ l.holdOff = false ∧ l.fallowReq = false ∧ l.prio = (k, t0, esc) :: rest
    ∧ s.maySend l (vcOf k.opcode + (if esc then 4 else 0)) k = true ∧ l.prioRun = 0 ∧ l.flitsOut < 256 * l.width)
    ∧ (∃ (s : State) (p t0 q : Nat) (l m : LPort) (k : Packet) (rest : List (Packet × Nat)), s.links.look p = some
    l ∧ l.st = .up ∧ l.holdOff = false ∧ l.fallowReq = false ∧ l.prio = [] ∧ ((List.range 16).any fun q =>
    s.queueEligible l q) = true ∧ l.flitsOut < 256 * l.width ∧ s.drr 400 l = (some q, m) ∧ (m.queue q).packets =
    (k, t0) :: rest)
    ∧ (∃ (s : State) (p v q : Nat) (l x : LPort) (k : Packet) (r : Route), s.links.look p = some l ∧ l.credit v < 1
    ∧ v < 2 ∧ ((List.range 8).findSome? fun i => ((l.queue (2 * i + v)).packets.head?).map fun y => (2 * i + v,
    y.1)) = some (q, k) ∧ s.routeFor k.hdr.dst = some r ∧ r.esc ≠ 0xFF ∧ s.links.look r.esc = some x ∧ x.st = .up)
    ∧ (∃ (s t : State) (p q : Nat) (l : LPort) (tail : List (Packet × Nat)), s.links.look p = some l ∧ q < 16 ∧
    (l.queue q).spilled ≠ 0 ∧ tail = (l.queue q).packets.drop ((l.queue q).packets.length - (l.queue q).spilled) ∧
    t = s.modPort p (fun l => l.modQueue q fun x => { x with spilled := x.spilled - blockPackets 0 tail }))
    ∧ (∃ (s : State) (p q : Nat) (l : LPort) (x : Queue), s.links.look p = some l ∧ l.queues.look q = some x)
    ∧ (∃ (s : State) (p q : Nat) (l : LPort), s.links.look p = some l ∧ q < 16) :=
  ⟨⟨kl { lp with role := .accel, credits := [(5, 1)], prio := [(q0 0xFF, 0, true)] }, 8, 0,
   { lp with role := .accel, credits := [(5, 1)], prio := [(q0 0xFF, 0, true)] }, q0 0xFF, true, [],
   by decide +kernel⟩,
   ⟨kl lq, 8, 0, 0, lq,
   { lq with inVisit := true, queues := [(0, { Queue.reset with packets := [(q0 1, 0)], deficit := 4128 })] }, q0
   1, [], by decide +kernel, by decide +kernel, by decide +kernel, by decide +kernel, by decide +kernel,
   by decide +kernel, by decide +kernel, Prod.ext (by decide +kernel) rfl, by decide +kernel⟩,
   ⟨{ kl { lp with queues := [(1, { Queue.reset with packets := [(q0 1, 0)] })] } with topo := { Topo.reset with routes := [(0, ⟨true, false, 8, [8], 0, 0, false⟩)] } },
   8, 1, 1, { lp with queues := [(1, { Queue.reset with packets := [(q0 1, 0)] })] },
   { lp with queues := [(1, { Queue.reset with packets := [(q0 1, 0)] })] }, q0 1, ⟨true, false, 8, [8], 0, 0,
   false⟩, by decide +kernel⟩,
   ⟨kl { lp with queues := [(15, { Queue.reset with packets := [(q0 1, 0)], spilled := 1 })] }, _, 8, 15,
   { lp with queues := [(15, { Queue.reset with packets := [(q0 1, 0)], spilled := 1 })] }, _, by decide +kernel,
   by decide +kernel, by decide +kernel, rfl, rfl⟩,
   ⟨kl lq, 8, 0, lq, { Queue.reset with packets := [(q0 1, 0)] }, by decide +kernel⟩,
   ⟨kl lq, 8, 15, lq, by decide +kernel⟩⟩

theorem witness_PoolRequestsComplete :
    (∃ (s u : State) (h : Hdr) (c e ep : Nat), s.ingress { opcode := 0x01, hdr := h, data := [] } = (u, some c) ∧
    u.epochFor c h.epoch = some ep ∧ u.mapExtent c ep h.addr ((h.lines + 1) * 128) = some e ∧ u.extentRefuses 0x01
    c e h = none)
    ∧ (∃ (s u v : State) (h : Hdr) (d : List Byte) (c e ep op : Nat) (i : Instr), (op, i) ∈ [(0x02, .store h d),
    (0x10, .atAdd32 h d), (0x11, .atAdd64 h d), (0x12, .atSwap32 h d), (0x13, .atSwap64 h d), (0x14, .atCas32 h d),
    (0x15, .atCas64 h d), (0x16, .atMin32 h d), (0x17, .atMin64 h d), (0x18, .atMax32 h d), (0x19, .atMax64 h d)] ∧
    s.ingress { opcode := op, hdr := h, data := d } = (u, some c) ∧ u.dedup { opcode := op, hdr := h, data := d } c
    = none ∧ v = u.openPair h.src c ∧ v.epochFor c h.epoch = some ep ∧ v.mapExtent c ep h.addr (requestBytes op h)
    = some e ∧ v.extentRefuses op c e h = none)
    ∧ (∃ (s u : State) (h : Hdr) (d : List Byte) (c : Nat) (q : Pair), s.ingress
    { opcode := 0x02, hdr := h, data := d } = (u, some c) ∧ u.pair h.src c = some q ∧ (2 ^ 31 ≤ seqDist h.seq q.low
    ∨ (q.applied.contains h.seq = true ∧ seqDist h.seq q.low < 4096))) :=
  ⟨⟨kr (ex 0 0), _, hq 1 0, 0, 1, 0, pair_eq _ _ (by decide +kernel), by decide +kernel⟩,
   ⟨kr (ex 0 0), _, _, hq 0x19 16, List.replicate 16 0, 0, 1, 0, 0x19, .atMax64 (hq 0x19 16) (List.replicate 16 0),
   by decide +kernel, pair_eq _ _ (by decide +kernel), by decide +kernel, rfl, by decide +kernel⟩,
   ⟨{ kr (ex 0 0) with tx := { Tx.reset with pairs := [⟨1, 0, 2147483648, [], []⟩] } }, _, hq 2 128, List.replicate
   128 0, 0, ⟨1, 0, 2147483648, [], []⟩, pair_eq _ _ (by decide +kernel), by decide +kernel⟩⟩

theorem witness_RequestsReadAndWriteThePool :
    (∃ (u : State) (p : Packet) (c e ep off n : Nat) (x : Extent), p.opcode = 0x01 ∧ u.tx.steps = [] ∧ u.extent e =
    some x ∧ off = p.hdr.addr - x.base ∧ n = (p.hdr.lines + 1) * 128 ∧ ((leavesOf off n).flatMap fun l =>
    u.itemsFor x l false) = [] ∧ u.orderOpen (newStep p c e ep none) = true ∧ x.rekeying = false ∧ u.asleep x
    (leavesOf off n) = [] ∧ u.domainOf e = none ∧ x.poisoned off n = false)
    ∧ (∃ (u : State) (p : Packet) (c e ep off : Nat) (x : Extent), p.opcode = 0x02 ∧ u.tx.steps = [] ∧ u.extent e =
    some x ∧ off = p.hdr.addr - x.base ∧ ((leavesOf off ((p.hdr.lines + 1) * 128)).flatMap fun l => u.itemsFor x l
    true) = [] ∧ u.orderOpen (newStep p c e ep none) = true ∧ x.rekeying = false ∧ u.asleep x (leavesOf off
    ((p.hdr.lines + 1) * 128)) = [] ∧ u.domainOf e = none)
    ∧ (∃ (u : State) (p : Packet) (c e ep off w old : Nat) (x : Extent), 0x10 ≤ p.opcode ∧ p.opcode ≤ 0x19 ∧
    u.tx.steps = [] ∧ u.extent e = some x ∧ off = p.hdr.addr - x.base ∧ w = (if p.opcode % 2 = 0 then 4 else 8) ∧
    ((leavesOf off w).flatMap fun l => u.itemsFor x l true) = [] ∧ u.orderOpen (newStep p c e ep none) = true ∧
    x.rekeying = false ∧ u.asleep x (leavesOf off (128 * (p.hdr.lines + 1))) = [] ∧ u.domainOf e = none ∧
    x.poisoned off w = false ∧ old = leNat (u.readPool e off w)) :=
  ⟨⟨kr (ex 0 0), ⟨1, hq 1 0, []⟩, 0, 1, 0, _, _, ex 0 0, by decide +kernel, by decide +kernel, by decide +kernel,
   rfl, rfl, by decide +kernel⟩,
   ⟨kr et, ⟨2, hq 2 128, List.replicate 128 1⟩, 0, 1, 0, _, et, by decide +kernel, by decide +kernel,
   by decide +kernel, rfl, by decide +kernel⟩,
   ⟨kr et, ⟨0x19, hq 0x19 16, List.replicate 16 0⟩, 0, 1, 0, _, _, _, et, by decide +kernel, by decide +kernel,
   by decide +kernel, by decide +kernel, rfl, rfl, by decide +kernel, by decide +kernel, by decide +kernel,
   by decide +kernel, by decide +kernel, by decide +kernel, rfl⟩⟩

theorem witness_FencesAndResponsesComplete :
    (∃ (s u : State) (h : Hdr) (d : List Byte) (c : Nat) (l : LPort), s.ingress
    { opcode := 0x20, hdr := h, data := d } = (u, some c) ∧ u.links.look h.lport = some l ∧ l.role = .accel)
    ∧ (∃ (s : State) (p c us : Nat) (k : Packet) (m : Member), (s.tx.fenceQ.find? fun q => q.hdr.lport == p) = some
    k ∧ (countIf s.tx.fences fun f => f.pkt.hdr.lport == p) < 16 ∧ s.boundTo p = some (c, m) ∧ us = (if leAt k.data
    0 3 = 0 then s.field Reg.TX_FENCE_DEADLINE_US 23 0 else leAt k.data 0 3))
    ∧ (∃ (s : State) (p tag : Nat) (f : Fence), s.fenceOf p tag = some f ∧ s.fenceOpen f = [])
    ∧ (∃ (s t : State) (p tag : Nat) (f : Fence) (left : NMap Nat), s.fenceOf p tag = some f ∧ t = s.advanceTo
    f.deadline ∧ left = (t.fenceOpen f).foldl (fun (m : NMap Nat) q => m.put q.1 q.2) [] ∧ left ≠ [])
    ∧ (∃ (s u : State) (p : Packet) (l : LPort), s.links.look p.hdr.lport = some l ∧ s.portRuns p.hdr.lport = true
    ∧ u = (s.mirror p.hdr.lport false p).takeIngress p ∧ (l.role = .accel ∨ l.role = .peer) ∧ p.hdr.crc =
    p.hdr.goodCrc p.opcode ∧ u.topo.assigned = true ∧ responseDefined p.opcode = true ∧ p.hdr.resv = 0 ∧
    p.hdr.release = false ∧ (u.bindingOf l p.hdr).isSome = true)
    ∧ (∃ (s u : State) (p : Packet) (l : LPort) (c : Nat), s.links.look p.hdr.lport = some l ∧ s.portRuns
    p.hdr.lport = true ∧ u = (s.mirror p.hdr.lport false p).takeIngress p ∧ l.role = .peer ∧ p.hdr.crc =
    p.hdr.goodCrc p.opcode ∧ u.topo.assigned = true ∧ u.formatOk l p.opcode p.hdr p.data = true ∧ u.bindingOf l
    p.hdr = some c ∧ p.hdr.retry = false ∧ p.hdr.dst ≠ s.topo.node ∧ p.hdr.dst ≠ u.topo.node ∧ p.opcode < 0x80)
    ∧ (∃ (s : State) (tag : Nat) (o : Own) (k : Packet), s.tx.own.look tag = some o ∧ o.purpose ≠ 3 ∧ o.tries <
    s.field Reg.TX_RETRY_LIMIT 3 0 ∧ k =
    { o.pkt with hdr := ({ o.pkt.hdr with retry := true }).sealed o.pkt.opcode })
    ∧ (∃ (s : State) (src c q : Nat) (k : Pair) (v : Saved), s.pair src c = some k ∧ (k.saved.find? fun w => w.seq
    == q) = some v) :=
  ⟨⟨kr (ex 0 0), _, hq 0x20 8, List.replicate 8 0, 0, { lp with role := .accel }, pair_eq _ _ (by decide +kernel),
   by decide +kernel⟩,
   ⟨{ kr (ex 0 0) with tx := { Tx.reset with fenceQ := [q0 0x20], fences := List.replicate 15 ⟨q0 0x20, 0, [], 0⟩ } },
   0, 0, _, q0 0x20, ⟨0, 1, 1000000000, false⟩, by decide +kernel, by decide +kernel, by decide +kernel, rfl⟩,
   ⟨{ kr (ex 0 0) with tx := { Tx.reset with fences := [⟨q0 0x20, 0, [], 0⟩] } }, 0, 5, ⟨q0 0x20, 0, [], 0⟩,
   by decide +kernel⟩,
   ⟨{ kr (ex 0 0) with tx := { Tx.reset with fences := [⟨q0 0x20, 0, [(3, 2)], 9⟩], tracks := [⟨0, 3, 0, 2, 0, []⟩] } },
   _, 0, 5, ⟨q0 0x20, 0, [(3, 2)], 9⟩, _, by decide +kernel, rfl, rfl, by decide +kernel⟩,
   ⟨kr (ex 0 0), _, ⟨0x81, hq 0x81 0, []⟩, { lp with role := .accel }, by decide +kernel, by decide +kernel, rfl,
   by decide +kernel⟩,
   ⟨kr (ex 0 0), _, ⟨1, ({ h0 0 0 with lport := 8, dst := 3 }).sealed 1, []⟩, lp, 0, by decide +kernel,
   by decide +kernel, rfl, by decide +kernel⟩,
   ⟨{ kr (ex 0 0) with tx := { Tx.reset with own := [(0, ⟨q0 1, 8, 2, 0, 0⟩)] } }, 0, ⟨q0 1, 8, 2, 0, 0⟩, _,
   by decide +kernel, by decide +kernel, by decide +kernel, rfl⟩,
   ⟨{ kr (ex 0 0) with tx := { Tx.reset with pairs := [⟨1, 0, 0, [], [⟨4, 0x90, 0, [], 8⟩]⟩] } }, 1, 0, 4, ⟨1, 0,
   0, [], [⟨4, 0x90, 0, [], 8⟩]⟩, ⟨4, 0x90, 0, [], 8⟩, by decide +kernel⟩⟩

theorem witness_CoherenceCompletes :
    (∃ (s u : State) (h : Hdr) (w : List Byte) (c e ep op d : Nat) (x : Domain) (i : Instr) (data : List Byte),
    (op, data, i) ∈ [(0x40, [], .chReadShared h), (0x41, [], .chReadOwn h), (0x42, [], .chUpgrade h), (0x43, w,
    .chWriteback h w), (0x44, [], .chEvictClean h)] ∧ s.ingress { opcode := op, hdr := h, data := data } = (u, some
    c) ∧ u.epochFor c h.epoch = some ep ∧ u.mapExtent c ep h.addr 128 = some e ∧ u.extentRefuses 0x01 c e h = none
    ∧ u.domainOf e = some d ∧ u.coh.look d = some x ∧ (x.agents.vals.any fun a => a.node == h.src) = true ∧
    u.extentRefuses op c e h = none ∧ u.lineOpen { opcode := op, hdr := h, data := data } c = false)
    ∧ (∃ (u : State) (p : Packet) (e d r : Nat) (x : Extent) (dm : Domain) (y : DirEntry), u.tx.steps = [] ∧
    u.extent e = some x ∧ x.rekeying = false ∧ u.asleep x (leavesOf (p.hdr.addr - x.base) (128 * (p.hdr.lines +
    1))) = [] ∧ u.domainOf e = some d ∧ u.coh.look d = some dm ∧ (dm.agents.findKey fun _ a => a.node == p.hdr.src)
    = some r ∧ dm.lineBusy (p.hdr.addr / 128) = false ∧ dm.dir.look (p.hdr.addr / 128) = some y ∧ y.state = .excl ∧
    y.owner = r)
    ∧ (∃ (s : State) (d a line k : Nat) (x : Domain) (q : Snoop) (i : Instr), (k, i) ∈ [(0, .snpInvalidateResp d a
    line []), (1, .snpShareResp d a line []), (2, .snpOwnResp d a line [])] ∧ s.coh.look d = some x ∧
    (x.snoops.find? fun q => q.line == line && q.agent == a && q.kind == k) = some q ∧ s.tx.steps = [] ∧ s.tx.own =
    [] ∧ (x.grants.all fun g => g.id != q.grant || decide (2 ≤ g.waiting)) = true)
    ∧ (∃ (s : State) (d a line k e : Nat) (x : Domain) (q : Snoop) (y : Extent) (b : List Byte) (i : Instr), (k, i)
    ∈ [(0, .snpInvalidateResp d a line b), (1, .snpShareResp d a line b), (2, .snpOwnResp d a line b)] ∧ s.coh.look
    d = some x ∧ (x.snoops.find? fun q => q.line == line && q.agent == a && q.kind == k) = some q ∧
    (x.extents.find? fun e => (s.extent e).any fun y => decide (y.base ≤ 128 * line ∧ 128 * line < y.base +
    y.size)) = some e ∧ s.extent e = some y ∧ b ≠ [] ∧ s.tx.steps = [] ∧ (x.grants.all fun g => g.id != q.grant ||
    decide (2 ≤ g.waiting)) = true)
    ∧ (∃ (s t : State) (d a line tag : Nat) (x : Domain) (q : Snoop) (o : Own) (n : Agent) (k : Packet), s.coh.look
    d = some x ∧ (x.snoops.find? fun q => q.line == line && q.agent == a) = some q ∧ x.agents.look a = some n ∧
    q.tries < s.field Reg.TX_RETRY_LIMIT 3 0 ∧ (s.tx.own.find? fun o => o.2.purpose == 3 && o.2.object == line &&
    o.2.pkt.hdr.dst == n.node && o.2.pkt.opcode == 0x50 + q.kind) = some (tag, o) ∧ k =
    { o.pkt with hdr := ({ o.pkt.hdr with retry := true }).sealed o.pkt.opcode } ∧ t = (s.bumpDom d
    Reg.CHCNT_SNOOP_TIMEOUT).modDom d (fun x =>
    { x with snoops := x.snoops.map fun y => if y = q then { y with tries := y.tries + 1 } else y }))
    ∧ (∃ (s : State) (d a line : Nat) (x : Domain) (q : Snoop) (n : Agent), s.coh.look d = some x ∧ (x.snoops.find?
    fun q => q.line == line && q.agent == a) = some q ∧ x.agents.look a = some n ∧ n.unresponsive = false ∧ s.field
    Reg.TX_RETRY_LIMIT 3 0 ≤ q.tries) :=
  ⟨⟨{ kr (ex 0 0) with coh := [(63, { dm with extents := [1] })] }, _, hq 0x40 0, [], 0, 1, 0, 0x40, 63,
   { dm with extents := [1] }, .chReadShared (hq 0x40 0), [], by decide +kernel, pair_eq _ _ (by decide +kernel),
   by decide +kernel⟩,
   ⟨{ kr (ex 0 0) with coh := [(63, { dm with extents := [1], dir := [(0, ⟨0, 15, .excl, 0, 0⟩)] })] }, ⟨0x42, hq
   0x42 0, []⟩, 1, 63, 15, ex 0 0, { dm with extents := [1], dir := [(0, ⟨0, 15, .excl, 0, 0⟩)] }, ⟨0, 15, .excl,
   0, 0⟩, by decide +kernel⟩,
   ⟨kc { dm with snoops := [⟨0, 15, 2, 0, 1⟩], grants := [⟨1, 0, 15, .recall, none, [], 2, false, false⟩] }, 63,
   15, 0, 2, { dm with snoops := [⟨0, 15, 2, 0, 1⟩], grants := [⟨1, 0, 15, .recall, none, [], 2, false, false⟩] },
   ⟨0, 15, 2, 0, 1⟩, .snpOwnResp 63 15 0 [], by decide +kernel⟩,
   ⟨kc { dm with extents := [1], snoops := [⟨0, 15, 2, 0, 1⟩] }, 63, 15, 0, 2, 1,
   { dm with extents := [1], snoops := [⟨0, 15, 2, 0, 1⟩] }, ⟨0, 15, 2, 0, 1⟩, ex 0 0, List.replicate 128 1,
   .snpOwnResp 63 15 0 (List.replicate 128 1), by decide +kernel⟩,
   ⟨{ kc { dm with snoops := [⟨0, 15, 0, 0, 1⟩] } with tx := { Tx.reset with own := [(7, ⟨⟨0x50, { h0 0 0 with dst := 1 }, []⟩, 0, 0, 3, 0⟩)] } },
   _, 63, 15, 0, 7, { dm with snoops := [⟨0, 15, 0, 0, 1⟩] }, ⟨0, 15, 0, 0, 1⟩, ⟨⟨0x50, { h0 0 0 with dst := 1 },
   []⟩, 0, 0, 3, 0⟩, ⟨1, 0, 0, false⟩, _, by decide +kernel, by decide +kernel, by decide +kernel,
   by decide +kernel, by decide +kernel, rfl, rfl⟩,
   ⟨kc { dm with snoops := [⟨0, 15, 0, 15, 1⟩] }, 63, 15, 0, { dm with snoops := [⟨0, 15, 0, 15, 1⟩] }, ⟨0, 15, 0,
   15, 1⟩, ⟨1, 0, 0, false⟩, by decide +kernel⟩⟩

theorem witness_OperationsAreAccepted :
    (∃ (s u v : State) (h : Hdr) (d : List Byte) (c o : Nat) (k : OpKind) (i : Instr), (k, i) ∈ [(OpKind.fill,
    Instr.fill h d), (.copy, .copy h d), (.compare, .compare h d), (.nmReduce, .nmReduce h d), (.allReduce,
    .allReduce h d), (.reduceScatter, .reduceScatter h d), (.reduceToMem, .reduceToMem h d), (.gather, .gather h
    d), (.scatter, .scatter h d), (.filterPredicate, .filterPredicate h d), (.filterThreshold, .filterThreshold h
    d), (.filterTopk, .filterTopk h d), (.filterBlockSelect, .filterBlockSelect h d), (.attend, .attend h d),
    (.encode, .encode h d)] ∧ s.ingress { opcode := 0x30, hdr := h, data := d } = (u, some c) ∧ u.opOpen h.src
    (opId d) = false ∧ (u.epochFor c h.epoch).isSome = true ∧ descCrcOk d 256 = true ∧ commonOk k.code d = true ∧
    u.opBodyBad k d = none ∧ u.opRangesBad c k h d = none ∧ u.opWaitsFor c k h d = none ∧ o = u.work.nextOp ∧ v =
    u.modWork (fun w => { w with ops := w.ops.put o (newOp k c h d), nextOp := o + 1 }))
    ∧ (∃ (s u : State) (h : Hdr) (d : List Byte) (c : Nat), s.ingress { opcode := 0x30, hdr := h, data := d } = (u,
    some c) ∧ u.opOpen h.src (opId d) = false ∧ (u.epochFor c h.epoch).isSome = true ∧ descCrcOk d 256 = false) :=
  ⟨⟨kr (ex 0 0), _, _, hq 0x30 256, fd, 0, 1, .fill, .fill (hq 0x30 256) fd, by decide +kernel, pair_eq _ _
   (by decide +kernel), by decide +kernel, by decide +kernel, fd_crc, by decide +kernel, by decide +kernel,
   by decide +kernel, by decide +kernel, by decide +kernel, rfl⟩,
   ⟨kr (ex 0 0), _, hq 0x30 256, fd.set 31 0, 0, pair_eq _ _ (by decide +kernel), by decide +kernel,
   by decide +kernel, fd_bad⟩⟩

theorem witness_NearMemoryLeavesComplete :
    (∃ (s : State) (o l : Nat) (x : Op) (p : Nat × Nat), s.work.ops.look o = some x ∧ x.phase = .running ∧
    x.todo.contains l = true ∧ s.nmReady x l = true ∧ p = s.nmPiece x.comp x.desc l)
    ∧ (∃ (n i : Nat), i < n) :=
  ⟨⟨ko et (og .fill), 1, 0, og .fill, _, by decide +kernel, by decide +kernel, by decide +kernel,
   by decide +kernel, rfl⟩,
   ⟨1, 0, by decide +kernel⟩⟩

theorem witness_ReductionsComplete :
    (∃ (s u : State) (h : Hdr) (seg data : List Byte) (c o i : Nat) (x : Op) (g : Group) (p : Press), s.ingress
    { opcode := 0x30, hdr := h, data := seg ++ data } = (u, some c) ∧ (u.epochFor c h.epoch).isSome = true ∧
    descCrcOk seg 64 = true ∧ u.work.ops.look o = some x ∧ u.work.groups.look x.group = some g ∧ u.presses.look
    g.press = some p ∧ u.reduceSlotsUsed g.press < p.reduceSlots ∧ (u.work.ops.findSome? fun q => if q.2.comp = c ∧
    q.2.phase = .running then (q.2.contribs.find? fun z => z.opId == opId seg && z.hdr.any fun g => g.src ==
    h.src).map fun z => (q.1, z.index) else none) = some (o, i))
    ∧ (∃ (s u : State) (h : Hdr) (seg data : List Byte) (c : Nat), s.ingress
    { opcode := 0x30, hdr := h, data := seg ++ data } = (u, some c) ∧ (u.epochFor c h.epoch).isSome = true ∧
    descCrcOk seg 64 = true ∧ u.work.ops = [] ∧ (u.work.groups.vals.all fun g => g.comp != c || (g.done.isEmpty &&
    g.aborted.isEmpty)) = true)
    ∧ (∃ (s : State) (o b : Nat) (x : Op) (q : Nat × Seed), s.work.ops.look o = some x ∧ x.phase = .running ∧
    x.todo.contains b = true ∧ redReady x b = true ∧ s.redSeed x b = some q ∧ q.2.state = .active ∧ x.todo.all (·
    == b) = false)
    ∧ (∃ (s : State) (o : Nat) (x : Op), s.work.ops.look o = some x ∧ x.kind = .reduceToMem ∧ (s.work.groups.look
    x.group).bind Group.parent = none)
    ∧ (∃ (s : State) (o n low : Nat) (rest : List Nat) (x : Op), s.work.ops.look o = some x ∧ x.phase = .running ∧
    x.contribs ≠ [] ∧ x.timeoutAt = some n ∧ redMissing x = low :: rest) :=
  ⟨⟨{ kr (ex 0 0) with work := { Work.reset with groups := [(1, gr)], ops := [(1, { og .reduceToMem with group := 1, contribs := [cb0] })] } },
   _, hq 0x30 128, sg, List.replicate 64 0, 0, 1, 0, { og .reduceToMem with group := 1, contribs := [cb0] }, gr,
   Press.reset, pair_eq _ _ (by decide +kernel), by decide +kernel, sg_crc, by decide +kernel⟩,
   ⟨kr (ex 0 0), _, hq 0x30 128, sg, List.replicate 64 0, 0, pair_eq _ _ (by decide +kernel), by decide +kernel,
   sg_crc, by decide +kernel⟩,
   ⟨ks (ex 0 0) { og .allReduce with todo := [0, 1] } { sd with kind := .block 0 } pl, 1, 0,
   { og .allReduce with todo := [0, 1] }, (1, { sd with kind := .block 0 }), by decide +kernel⟩,
   ⟨ko (ex 0 0) (og .reduceToMem), 1, og .reduceToMem, by decide +kernel⟩,
   ⟨ko (ex 0 0) { og .allReduce with contribs := [{ cb0 with hdr := none }], timeoutAt := some 5 }, 1, 5, 0, [],
   { og .allReduce with contribs := [{ cb0 with hdr := none }], timeoutAt := some 5 }, by decide +kernel⟩⟩

theorem witness_OperationEventsComplete :
    (∃ (s : State) (o : Nat) (x : Op), s.work.ops.look o = some x ∧ x.phase = .waiting ∧ s.opRangesBad x.comp
    x.kind x.hdr x.desc = none ∧ s.opWaitsFor x.comp x.kind x.hdr x.desc = none)
    ∧ (∃ (s : State) (o n : Nat) (x : Op), s.work.ops.look o = some x ∧ x.phase = .running ∧ x.timeoutAt = some n)
    ∧ (∃ (s t : State) (i f : Nat) (q : Step), i < 2 ^ 32 ∧ s.tx.steps.look i = some q ∧ q.firstStall = some f ∧
    q.items ≠ [] ∧ q.decided = none ∧ t = (s.advanceTo (f + 1000 * ((s.comp q.comp).map Comp.deadlineUs).getD
    0)).loseStep i)
    ∧ (∃ (s t : State) (o f : Nat) (x : Op), s.work.ops.look o = some x ∧ x.firstStall = some f ∧ x.phase =
    .running ∧ s.opStalled o x ≠ [] ∧ (x.kind = .gather ∨ x.kind = .scatter) ∧ t = s.advanceTo (f + 1000 * ((s.comp
    x.comp).map Comp.deadlineUs).getD 0))
    ∧ (∃ (s : State) (o j : Nat) (x : Op) (y : Job), s.work.ops.look o = some x ∧ x.phase = .ledger ∧
    (s.tx.own.vals.any fun q => q.purpose == 4 && q.object == o) = false ∧ x.job = some j ∧ s.work.jobs.look j =
    some y ∧ y.copy = none) :=
  ⟨⟨ko (ex 0 0) { og .fill with phase := .waiting }, 1, { og .fill with phase := .waiting }, by decide +kernel⟩,
   ⟨ko (ex 0 0) { og .fill with timeoutAt := some 5 }, 1, 5, { og .fill with timeoutAt := some 5 },
   by decide +kernel⟩,
   ⟨{ kr (ex 0 0) with tx := { Tx.reset with steps := [(4294967295, { st0 with items := [0], firstStall := some 0 })] } },
   _, 4294967295, 0, { st0 with items := [0], firstStall := some 0 }, by decide +kernel, by decide +kernel,
   by decide +kernel, by decide +kernel, by decide +kernel, rfl⟩,
   ⟨ks { ex 0 0 with written := [0] } { og .gather with firstStall := some 0 } sd pl, _, 1, 0,
   { og .gather with firstStall := some 0 }, by decide +kernel, by decide +kernel, by decide +kernel,
   by decide +kernel, by decide +kernel, rfl⟩,
   ⟨{ kr (ex 0 0) with work := { Work.reset with ops := [(1, { og .fill with phase := .ledger, job := some 1 })], jobs := [(1, ⟨0, 1, 0, 16, 1, none, 1, 0, none⟩)] } },
   1, 1, { og .fill with phase := .ledger, job := some 1 }, ⟨0, 1, 0, 16, 1, none, 1, 0, none⟩, by decide +kernel⟩⟩

theorem witness_FiltersKeepTheFirst :
    ∃ (f : Nat × Nat → Nat × Nat → Bool) (l : List (Nat × Nat)), l.Nodup ∧ ((∀ a ∈ l, ∀ b ∈ l, ∀ c ∈ l, f a b =
    true → f b c = true → f a c = true)) ∧ (∀ a ∈ l, f a a = false) ∧ ((∀ a ∈ l, ∀ b ∈ l, a ≠ b → f a b = true ∨ f
    b a = true)) :=
  ⟨fun a b => decide (a.1 < b.1), [(1, 0), (0, 5), (2, 2)], by decide +kernel⟩

theorem witness_SeedsComplete :
    (∃ (s : State) (n c i : Nat) (p : Press) (z : Seed), s.presses.look n = some p ∧ p.state = .lit ∧ p.ctx = some
    c ∧ (s.pressSeeds n fun z => z.comp == c && !z.state.ended) ≠ [] ∧ s.activeOn n < 4096 ∧ s.oldest
    ((s.pressSeeds n fun z => z.comp == c && !z.state.ended).filter fun q => s.seedEligible q.2) = some (i, z))
    ∧ (∃ (s : State) (o k : Nat), (s.work.seeds.vals.any fun z => z.op == o && z.index == k && decide (z.state =
    .done)) = true)
    ∧ (∃ (s t : State) (i : Nat) (z : Seed) (r : LeafRef) (o : Op) (x : Extent) (p : Press), s.work.seeds.look i =
    some z ∧ z.leaves[z.fetched]? = some r ∧ s.opOf z = some o ∧ s.extent r.extent = some x ∧ s.presses.look
    z.press = some p ∧ p.state = .lit ∧ z.state = .active ∧ z.refetch = none ∧ s.hasLane i z = true ∧ x.vq = false
    ∧ x.leafPoisoned r.leaf = false ∧ s.leafReady o.alt r.extent r.leaf false = true ∧ s.ft.forcedUe = [] ∧ t =
    s.touch r.extent r.leaf)
    ∧ (∃ (s : State) (i : Nat) (z : Seed) (r : LeafRef) (o : Op) (x : Extent) (p : Press), s.work.seeds.look i =
    some z ∧ z.leaves[z.fetched]? = some r ∧ s.opOf z = some o ∧ s.extent r.extent = some x ∧ s.presses.look
    z.press = some p ∧ p.state = .lit ∧ z.state = .active ∧ z.refetch = none ∧ s.hasLane i z = true ∧ x.vq = false
    ∧ x.leafPoisoned r.leaf = true)
    ∧ (∃ (s : State) (i k : Nat) (z : Seed) (r : LeafRef) (x : Extent) (copy b : List Byte), s.work.seeds.look i =
    some z ∧ z.refetch = some k ∧ z.leaves[z.fetched]? = some r ∧ s.extent r.extent = some x ∧ b = copy.take
    (fetchSize x.slotLines) ++ List.replicate (fetchSize x.slotLines - copy.length) 0)
    ∧ (∃ (s : State) (i : Nat) (z : Seed) (p : Press) (x : Op), s.work.seeds.look i = some z ∧ s.presses.look
    z.press = some p ∧ p.state = .lit ∧ s.opOf z = some x ∧ x.kind.reduces = false ∧ z.state = .active ∧ z.poisoned
    = false ∧ z.worked = true)
    ∧ (∃ (s : State) (i h j : Nat) (z : Seed), s.work.seeds.look i = some z ∧ z.state = .active ∧ z.poisoned = true
    ∧ z.kind = .span h j) :=
  ⟨⟨ks (ex 0 0) (og .gather) { sd with state := .waiting } pl, 7, 0, 1, pl, { sd with state := .waiting },
   by decide +kernel⟩,
   ⟨ks (ex 0 0) (og .gather) { sd with state := .done } pl, 1, 0, by decide +kernel⟩,
   ⟨ks (ex 0 0) (og .gather) sd pl, _, 1, sd, ⟨1, 0⟩, og .gather, ex 0 0, pl, by decide +kernel, by decide +kernel,
   by decide +kernel, by decide +kernel, by decide +kernel, by decide +kernel, by decide +kernel,
   by decide +kernel, by decide +kernel, by decide +kernel, by decide +kernel, by decide +kernel,
   by decide +kernel, rfl⟩,
   ⟨ks { ex 0 0 with poison := [(0, [0])] } (og .gather) sd pl, 1, sd, ⟨1, 0⟩, og .gather,
   { ex 0 0 with poison := [(0, [0])] }, pl, by decide +kernel⟩,
   ⟨ks { ex 0 0 with vq := true, slotLines := 64 } (og .gather) { sd with refetch := some 0 } pl, 1, 0,
   { sd with refetch := some 0 }, ⟨1, 0⟩, { ex 0 0 with vq := true, slotLines := 64 }, [], _, by decide +kernel,
   by decide +kernel, by decide +kernel, by decide +kernel, rfl⟩,
   ⟨ks (ex 0 0) (og .gather) { sd with leaves := [], chainsDone := 1, chainsStarted := 1 } pl, 1,
   { sd with leaves := [], chainsDone := 1, chainsStarted := 1 }, pl, og .gather, by decide +kernel⟩,
   ⟨ks (ex 0 0) (og .attend) { sd with poisoned := true, kind := .span 0 0 } pl, 1, 0, 0,
   { sd with poisoned := true, kind := .span 0 0 }, by decide +kernel⟩⟩

theorem witness_ChainsComplete :
    (∃ (s : State) (n cb : Nat) (p : Press), s.presses.look n = some p ∧ p.state = .lit ∧ p.store.contains cb =
    false ∧ (s.work.seeds.vals.any fun z => z.press == n && decide (z.state = .active) && (s.seedCodebooks
    z).contains cb) = true ∧ (s.codebook (s.ctxOf n) cb).isSome = true)
    ∧ (∃ (s : State) (n i e m : Nat) (p : Press) (z : Seed) (mine : List (Nat × Seed)), s.presses.look n = some p ∧
    p.state = .lit ∧ p.expired = false ∧ mine = (s.pressSeeds n fun z => some z.comp == p.ctx && !z.state.ended &&
    decide (z.chainsStarted < z.chains)) ∧ (mine.filter fun q => q.2.resumeFirst) = [] ∧ s.oldest (mine.filter fun
    q => decide (q.2.state = .active) && !q.2.poisoned && (decide (0 < q.2.fetched) || q.2.leaves.isEmpty)) = some
    (i, z) ∧ s.engineFor p z = some e ∧ m = s.samples p (s.chainTiles z))
    ∧ (∃ (s t : State) (n e : Nat) (p : Press) (c : Chain), s.presses.look n = some p ∧ (p.chains.find? fun c =>
    c.engine == e && !c.stopped && decide (c.verdicts < c.sampled)) = some c ∧ t = (s.bump
    Reg.FT_CNT_SAMPLED_LO).modPress n (fun p => { p with lastShadow := e, forceMismatch := false }))
    ∧ (∃ (s : State) (n e : Nat) (p : Press) (c : Chain), s.presses.look n = some p ∧ (p.chains.find? fun c =>
    c.engine == e && c.stopped) = some c ∧ c.injected = false)
    ∧ (∃ (s : State) (n h j m : Nat) (p : Press) (c : Chain) (rest : List Chain) (z : Seed), s.presses.look n =
    some p ∧ p.chains = c :: rest ∧ c.stopped = false ∧ c.verdicts = c.sampled ∧ s.work.seeds.look c.seed = some z
    ∧ z.fetched = z.leaves.length ∧ z.poisoned = false ∧ z.refetch = none ∧ (s.seedCodebooks z).all
    p.store.contains = true ∧ z.kind = .span h j ∧ m = s.chainTiles z) :=
  ⟨⟨{ ks (ex 0 0) og2 { sd with kind := .encode 0 } pl with comps := [(0, { cp with codebooks := [(63, ⟨1, true, []⟩)] })] },
   7, 63, pl, by decide +kernel⟩,
   ⟨ks (ex 0 0) (og .gather) { sd with leaves := [] } pl, 7, 1, 0, _, pl, { sd with leaves := [] }, _,
   by decide +kernel, by decide +kernel, by decide +kernel, rfl, by decide +kernel, by decide +kernel,
   by decide +kernel, rfl⟩,
   ⟨ks (ex 0 0) (og .gather) sd { pl with chains := [ch] }, _, 7, 3, { pl with chains := [ch] }, ch,
   by decide +kernel, by decide +kernel, rfl⟩,
   ⟨ks (ex 0 0) (og .gather) sd { pl with chains := [{ ch with stopped := true }] }, 7, 3,
   { pl with chains := [{ ch with stopped := true }] }, { ch with stopped := true }, by decide +kernel⟩,
   ⟨ks (ex 0 0) (og .attend) { sd with leaves := [], kind := .span 0 0 }
   { pl with chains := [{ ch with sampled := 0 }] }, 7, 0, 0, _, { pl with chains := [{ ch with sampled := 0 }] },
   { ch with sampled := 0 }, [], { sd with leaves := [], kind := .span 0 0 }, by decide +kernel, by decide +kernel,
   by decide +kernel, by decide +kernel, by decide +kernel, by decide +kernel, by decide +kernel,
   by decide +kernel, by decide +kernel, by decide +kernel, rfl⟩⟩

theorem witness_ChainsStartOnOpenEngines :
    ∃ (s : State) (p : Press) (z : Seed) (e : Nat), s.engineFor p z = some e :=
  ⟨ks (ex 0 0) (og .gather) sd { pl with fenced := 7 }, { pl with fenced := 7 }, sd, 3, by decide +kernel⟩

theorem witness_ContextsAndFallowComplete :
    (∃ (s : State) (n c d : Nat) (p : Press), s.presses.look n = some p ∧ p.state = .lit ∧ p.ctx = some c ∧
    p.expired = false ∧ s.nextCtx n = some d)
    ∧ (∃ (s : State) (n : Nat) (p : Press), s.presses.look n = some p ∧ p.state = .lit ∧ p.expired = true)
    ∧ (∃ (s : State) (n c : Nat) (p : Press), s.presses.look n = some p ∧ p.state = .switching ∧ (s.sizePools
    n).nextCtx n = some c)
    ∧ (∃ (s : State) (n : Nat) (p : Press), s.presses.look n = some p ∧ (s.pressSeeds n fun z => !z.state.ended) =
    [])
    ∧ (∃ (s : State) (n : Nat) (p : Press), s.presses.look n = some p ∧ p.state = .waking) :=
  ⟨⟨ks (ex 0 0) (og .gather) { sd with comp := 1, state := .waiting } pl, 7, 0, 1, pl, by decide +kernel⟩,
   ⟨ks (ex 0 0) (og .gather) sd { pl with expired := true }, 7, { pl with expired := true }, by decide +kernel⟩,
   ⟨ks (ex 0 0) (og .gather) { sd with state := .waiting } { pl with state := .switching, ctx := none }, 7, 0,
   { pl with state := .switching, ctx := none }, by decide +kernel⟩,
   ⟨ks (ex 0 0) (og .gather) { sd with state := .done } pl, 7, pl, by decide +kernel⟩,
   ⟨ks (ex 0 0) (og .gather) sd { pl with state := .waking }, 7, { pl with state := .waking }, by decide +kernel⟩⟩

theorem witness_SweepsAndResetsComplete :
    (∃ (s : State) (n port slot : Nat) (p : Press), s.presses.look n = some p ∧ p.state = .lit ∧ p.retired.contains
    slot = false ∧ slot < 1536 ∧ 1 ≤ port ∧ port ≤ 11)
    ∧ (∃ (s t : State) (n port slot : Nat) (p : Press) (c : Chain), s.presses.look n = some p ∧ p.state = .lit ∧
    p.retired.contains slot = false ∧ slot < 1536 ∧ 2 ≤ port ∧ port ≤ 11 ∧ (p.chains.find? fun c => decide (2 ≤
    port) && c.engine == port - 2 && !c.stopped) = some c ∧ p.retired.length < 64 ∧ t = (((s.bumpComp (s.ctxOf n)
    Reg.PCNT_SP_PARITY).bumpPress n Reg.PRESS_SP_PARITY).bump Reg.FT_CNT_PARITY_REPLAY).bump
    Reg.FT_CNT_PARITY_HARD)
    ∧ (∃ (s : State) (n e : Nat) (p : Press), s.presses.look n = some p ∧ p.state = .lit ∧ p.fenced.getLsbD e =
    false ∧ p.mustSweep.getLsbD e = false ∧ p.sweepDue.getLsbD e = true ∧ (p.chains.any fun c => c.engine == e &&
    !c.stopped) = false)
    ∧ (∃ (s t : State) (c : Ctx) (n : Nat) (p : Press), s.starts t c (Cmd.f 0xF003 Legal.LM) Target.none ∧
    t.presses.look n = some p ∧ p.state ≠ .resetting)
    ∧ (∃ (s t u : State) (n : Nat) (p : Press), s.presses.look n = some p ∧ p.state = .resetting ∧ t = (List.range
    5).foldl (fun s e => s.sweepPass n e) s ∧ u = t.modPress n (fun q =>
    { q with retired := [], resetter := [], quantumNs := t.clk.timeNs }) ∧ (u.presses.look n).any Press.canRun =
    true)
    ∧ (∃ (s t : State) (c : Ctx) (n e : Nat) (p : Press), s.starts t c (Cmd.f 0xF001 Legal.LM) Target.none ∧
    t.presses.look n = some p ∧ e < 5) :=
  ⟨⟨ks (ex 0 0) (og .gather) sd pl, 7, 11, 1535, pl, by decide +kernel⟩,
   ⟨ks (ex 0 0) (og .gather) sd { pl with chains := [ch] }, _, 7, 5, 1535, { pl with chains := [ch] }, ch,
   by decide +kernel, by decide +kernel, by decide +kernel, by decide +kernel, by decide +kernel,
   by decide +kernel, by decide +kernel, by decide +kernel, rfl⟩,
   ⟨ks (ex 0 0) (og .gather) sd { pl with sweepDue := 31 }, 7, 4, { pl with sweepDue := 31 }, by decide +kernel⟩,
   ⟨{ ks (ex 0 0) (og .gather) sd pl with dev := { k0.dev with state := .ready } }, _, fm, 7, pl, And.intro
   (by decide +kernel) rfl, by decide +kernel⟩,
   ⟨ks (ex 0 0) (og .gather) sd { pl with state := .resetting, fenced := 7 }, _, _, 7,
   { pl with state := .resetting, fenced := 7 }, by decide +kernel, by decide +kernel, rfl, rfl, by decide +kernel⟩,
   ⟨{ ks (ex 0 0) (og .gather) sd pl with dev := { k0.dev with state := .ready } }, _, fm, 7, 4, pl, And.intro
   (by decide +kernel) rfl, by decide +kernel⟩⟩

theorem witness_TierEventsComplete :
    (∃ (s : State) (e l i : Nat) (m : Bool) (x : Extent), s.extent e = some x ∧ i = 2 * l + b2n m ∧ x.leafPoisoned
    l = false ∧ s.ft.forcedUe = [])
    ∧ (∃ (s t u : State) (e l : Nat) (x : Extent), s.extent e = some x ∧ s.stepsOnLeaf e l ≠ [] ∧ s.opsOnLeaf e l =
    [] ∧ t = s.advanceTo (s.firstStallOf (s.stepsOnLeaf e l) [] + 1000 * s.field Reg.POOL_T1_LATE_US 15 0) ∧
    x.otherCopy (2 * l) = none ∧ (x.tier.isT2 && !x.inT1 l) = false ∧ t.itemDown e (2 * l) = false ∧ t.stepsOnItem
    e (2 * l) ≠ [] ∧ u = t.causeSteps Reg.POOL_CNT_TIER_LATE_T1 (t.stepsOnItem e (2 * l)) ∧ u.stepsOnItem e (2 * l
    + 1) = [])
    ∧ (∃ (s : State) (e l : Nat) (x : Extent), s.extent e = some x ∧ x.tier.isT2 = true ∧ x.inT1 l = false ∧
    s.stepsOnLeaf e l ≠ [])
    ∧ (∃ (s : State) (e l : Nat) (x : Extent) (m : Move), s.moveOf e l = some m ∧ m.kind = .promote ∧ s.extent e =
    some x ∧ x.inT1 l = true ∧ x.leafPoisoned l = false ∧ m.marked = [])
    ∧ (∃ (s : State) (e l : Nat) (m : Move), s.moveOf e l = some m ∧ m.kind ≠ .promote ∧ s.itemDown e (2 * l) =
    false)
    ∧ (∃ (s : State) (n : Nat) (b : Background), s.trayUp n = true ∧ (s.pool.background.find? fun b => b.tray == n)
    = some b)
    ∧ (∃ (s : State) (e c t m o n : Nat) (x : Extent) (k : Chunk), s.extent e = some x ∧ x.chunk c = some k ∧
    k.stale = some t ∧ k.mirror = some m ∧ o = (if t = k.tray then m else k.tray) ∧ n = s.rebuildTray x t o ∧
    s.trayUp n = true ∧ s.trayUp o = true)
    ∧ (∃ (s t : State) (e l : Nat) (x : Extent), s.extent e = some x ∧ x.replicaFetch.look l = some true ∧
    x.tier.isT2 = false ∧ t = (s.closeReplica e l).modExtent e (fun x =>
    { x with replicaFetch := x.replicaFetch.del l }))
    ∧ (∃ (s : State) (e l : Nat) (x : Extent), s.extent e = some x ∧ x.replicaFetch.look l = some false)
    ∧ (∃ (s : State) (m : Move) (x : Extent) (c : Chunk), s.extent m.extent = some x ∧ x.chunkOf m.leaf = some c ∧
    m.kind = .promote) :=
  ⟨⟨kt (ex 0 0), 1, 0, 1, true, ex 0 0, by decide +kernel⟩,
   ⟨{ kt (ex 0 0) with tx := { Tx.reset with steps := [(1, { st0 with items := [0] })] } }, _, _, 1, 0, ex 0 0,
   by decide +kernel, by decide +kernel, by decide +kernel, rfl, by decide +kernel, by decide +kernel,
   by decide +kernel, by decide +kernel, rfl, by decide +kernel⟩,
   ⟨{ kt ef with tx := { Tx.reset with steps := [(1, { st0 with items := [0] })] } }, 1, 0, ef, by decide +kernel⟩,
   ⟨{ kt (ex 0 0) with pool := { (kt (ex 0 0)).pool with moves := [⟨1, 0, .promote, 0, [], 0⟩] } }, 1, 0, ex 0 0,
   ⟨1, 0, .promote, 0, [], 0⟩, by decide +kernel⟩,
   ⟨{ kt (ex 0 0) with pool := { (kt (ex 0 0)).pool with moves := [⟨1, 0, .writeBack, 0, [], 0⟩] } }, 1, 0, ⟨1, 0,
   .writeBack, 0, [], 0⟩, by decide +kernel⟩,
   ⟨{ kt (ex 0 0) with pool := { (kt (ex 0 0)).pool with background := [⟨1, 0, .evict, 0⟩] } }, 0, ⟨1, 0, .evict,
   0⟩, by decide +kernel⟩,
   ⟨{ kt { ex 0 0 with durability := .mirrored, chunks := [(0, ⟨0, some 1, some 1, .warm, 0, [], false, false, [], false⟩)] } with trays := [(0, ty), (1, ty), (2, ty)] },
   1, 0, 1, 1, 0, 2,
   { ex 0 0 with durability := .mirrored, chunks := [(0, ⟨0, some 1, some 1, .warm, 0, [], false, false, [], false⟩)] },
   ⟨0, some 1, some 1, .warm, 0, [], false, false, [], false⟩, by decide +kernel⟩,
   ⟨kt { ex 0 0 with replicaFetch := [(0, true)] }, _, 1, 0, { ex 0 0 with replicaFetch := [(0, true)] },
   by decide +kernel, by decide +kernel, by decide +kernel, rfl⟩,
   ⟨kt { ex 0 0 with replicaFetch := [(0, false)] }, 1, 0, { ex 0 0 with replicaFetch := [(0, false)] },
   by decide +kernel⟩,
   ⟨kt (ex 0 0), ⟨1, 0, .promote, 0, [], 0⟩, ex 0 0, ⟨0, none, none, .warm, 0, [], false, false, [], false⟩,
   by decide +kernel⟩⟩

theorem witness_FlashEventsComplete :
    (∃ (s t : State) (n lp : Nat) (g : Geometry), (s.links.findKey fun _ l => decide (l.role = .tray) &&
    l.trayIndex == n && (decide (l.st = .up) || decide (l.st = .fallow))) = some lp ∧ n < 24 ∧ (s.tray n).state =
    .absent ∧ geometryOk g = true ∧ g.factoryBad = 0 ∧ (s.tray n).sbs = [] ∧ t = (s.emit (.bridge n 6 [])).modTray
    n (fun r =>
    { r with state := .normal, lport := some lp, geom := g, goodSb := g.goodSb, reserve := g.goodSb - 119212, freeSb := g.goodSb - 2, ratedCycles := g.ratedCycles, spares := (List.range 64).map fun d => (d, g.sparePerDie), ckptNs := s.clk.timeNs, sinceCkpt := 0, cnt := [] }))
    ∧ (∃ (s : State) (n sh e c h : Nat) (x : Extent) (k : Chunk), s.ofSheaf sh = some (e, c, h, false) ∧ s.extent e
    = some x ∧ x.chunk c = some k ∧ k.tray = n)
    ∧ (∃ (s : State) (n sh p : Nat) (q : Ladder), s.ladderOf n sh p = some q ∧ q.step < 9)
    ∧ (∃ (s : State) (n sh p : Nat) (q : Ladder), s.ladderOf n sh p = some q ∧ q.step = 9)
    ∧ (∃ (s t : State) (n sh k slot : Nat), ((s.tray n).programming.any fun q => q.1 == sh) = true ∧ s.nextSlot n
    false = (some (k, slot), t))
    ∧ (∃ (s t : State) (n sh sb slot why k place : Nat), ((s.tray n).relocating.find? fun q => q.1 == sh) = some
    (sh, sb, slot, why) ∧ (s.modTray n fun r =>
    { r with relocating := r.relocating.erase (sh, sb, slot, why) }).nextSlot n true = (some (k, place), t) ∧
    (t.mapEntry sh).valid = true ∧ (t.mapEntry sh).tray = n ∧ (t.mapEntry sh).sb = sb ∧ (t.mapEntry sh).slot =
    slot)
    ∧ (∃ (s t : State) (n k : Nat), ((s.tray n).sb k).moving ≠ 0 ∧ ((s.tray n).sb k).moving < 5 ∧ ((s.tray n).sb
    k).valid = [] ∧ t = s.modSb n k (fun b =>
    { b with closed := false, next := 0, erases := b.erases + 1, reads := 0, ageNs := 0, moving := 0 }))
    ∧ (∃ (s t : State) (n : Nat), s.trayUp n = true ∧ (s.tray n).state ≠ .rejected ∧ t = (if 65536 ≤ (s.tray
    n).sinceCkpt then s else s.advanceTo ((s.tray n).ckptNs + 300000000000)))
    ∧ (∃ (s t : State) (n d : Nat), (s.tray n).state ≠ .absent ∧ t = (s.modTray n fun r =>
    { r with tempDeciC := d, sbs := r.sbs.each fun _ b => if b.valid.isEmpty then b else { b with ageNs := b.ageNs + 60000000000 * ageFactor d } }).emit
    (.bridge n 9 []))
    ∧ (∃ (s : State) (n k sh : Nat) (rest : List Nat), ((s.tray n).sb k).valid = sh :: rest ∧ s.trayUp n = true) :=
  ⟨⟨{ kt (ex 0 0) with trays := [] }, _, 0, 16, ⟨64, 16, 1024, 3000, 200000, 10, 0⟩, by decide +kernel,
   by decide +kernel, by decide +kernel, by decide +kernel, by decide +kernel, by decide +kernel, rfl⟩,
   ⟨kh ty, 0, 0, 1, 0, 0, ef, ⟨0, none, none, .warm, 0, [], false, false, [], false⟩, by decide +kernel⟩,
   ⟨kh { ty with ladder := [⟨0, 0, 3, 8⟩] }, 0, 0, 3, ⟨0, 0, 3, 8⟩, by decide +kernel⟩,
   ⟨kh { ty with ladder := [⟨0, 0, 3, 9⟩] }, 0, 0, 3, ⟨0, 0, 3, 9⟩, by decide +kernel⟩,
   ⟨kh { ty with programming := [(0, 0, 0)], openWrite := some 2 }, _, 0, 0, 2, 0, by decide +kernel, Prod.ext
   (by decide +kernel) rfl⟩,
   ⟨{ kh { ty with relocating := [(0, 2, 0, 1)], openMove := some 3, sbs := [(2, { Superblock.fresh with valid := [0] })] } with fmap := [(0, ⟨true, false, false, 0, 0, 2, 0⟩)] },
   _, 0, 0, 2, 0, 1, 3, 0, by decide +kernel, Prod.ext (by decide +kernel) rfl, by decide +kernel⟩,
   ⟨kh { ty with sbs := [(2, { Superblock.fresh with moving := 4 })] }, _, 0, 2, by decide +kernel,
   by decide +kernel, by decide +kernel, rfl⟩,
   ⟨kh ty, _, 0, by decide +kernel, by decide +kernel, rfl⟩,
   ⟨kh ty, _, 0, 700, by decide +kernel, rfl⟩,
   ⟨kh { ty with sbs := [(2, { Superblock.fresh with valid := [0] })] }, 0, 2, 0, [], by decide +kernel⟩⟩

theorem witness_FlashKeepsItsRules :
    (∃ (s : State) (t n : Nat) (m : MapEntry), t < 24 ∧ s.fmap.look n = some m ∧ m.tray < 24)
    ∧ (∃ (t : Tray) (n : Nat), t.pickSb = some n ∧ (∀ p ∈ t.sbs, t.sbs.look p.1 = some p.2)) :=
  ⟨⟨{ kh ty with fmap := [(0, ⟨true, false, false, 23, 0, 2, 0⟩)] }, 23, 0, ⟨true, false, false, 23, 0, 2, 0⟩,
   by decide +kernel⟩,
   ⟨{ ty with sbs := [(2, Superblock.fresh)] }, 0, by decide +kernel⟩⟩

theorem witness_UpdatesComplete :
    (∃ (s t : State) (c : Ctx) (m : Manifest), s.starts t c (Cmd.f 0x7001 Legal.C) Target.none ∧
    Manifest.wellFormed m = true ∧ t.fw.upd = .idle ∧ Manifest.valid m = true ∧ t.fw.rollback ≤ m.svn)
    ∧ (∃ (s t : State) (c : Ctx) (h k off : Nat) (d : List Byte) (b : Bank) (m : Manifest) (x : Component),
    s.starts t c (Cmd.f 0x7002 Legal.C) Target.none ∧ (t.fw.upd = .receiving ∨ t.fw.upd = .verified) ∧ t.fw.handle
    = h ∧ b = t.bankOf t.otherBank ∧ b.manifest = some m ∧ (m.comps.find? fun y => y.ctype == k) = some x ∧ off %
    64 = 0 ∧ d ≠ [] ∧ d.length ≤ 65536 ∧ off + d.length ≤ x.size)
    ∧ (∃ (s t : State) (c : Ctx) (h : Nat) (m : Manifest), s.starts t c (Cmd.f 0x7003 Legal.C) Target.none ∧
    (t.fw.upd = .receiving ∨ t.fw.upd = .verified) ∧ t.fw.handle = h ∧ (t.bankOf t.otherBank).manifest = some m ∧
    (∀ x ∈ m.comps, (t.bankOf t.otherBank).complete x = true ∧ (t.bankOf t.otherBank).matchesDigest x = true))
    ∧ (∃ (s t : State) (c : Ctx) (h : Nat), s.starts t c (Cmd.f 0x7006 Legal.C) Target.none ∧ (t.fw.upd =
    .receiving ∨ t.fw.upd = .verified) ∧ t.fw.handle = h)
    ∧ (∃ (s t : State) (c : Ctx) (h : Nat), s.starts t c (Cmd.f 0x7006 Legal.C) Target.none ∧ t.fw.upd =
    .pendingConfirm ∧ t.fw.handle = h)
    ∧ (∃ (s t : State) (c : Ctx), s.starts t c (Cmd.f 0x7007 Legal.R) Target.none)
    ∧ (∃ (s t : State) (c : Ctx) (h : Nat), s.starts t c (Cmd.f 0x7004 Legal.CB) Target.none ∧ t.fw.upd = .verified
    ∧ t.fw.handle = h)
    ∧ (∃ (s : State), s.fw.loading = true ∧ s.fw.upd = .activating)
    ∧ (∃ (s : State), s.fw.loading = true ∧ s.fw.upd = .activating)
    ∧ (∃ (s : State), s.fw.loading = true ∧ s.fw.upd = .reverting ∧ s.dev.resume ≠ .faulted)
    ∧ (∃ (s : State) (u v : SwUnit) (l : List SwUnit), s.fw.switching = u :: v :: l ∧ (s.fw.upd = .activating ∨
    s.fw.upd = .reverting))
    ∧ (∃ (s : State) (u : SwUnit), s.fw.upd = .activating ∧ s.fw.loading = false ∧ u ∈ s.fw.switching)
    ∧ (∃ (s : State) (u : SwUnit), s.fw.upd = .reverting ∧ s.fw.switching = [u])
    ∧ (∃ (s t : State) (c : Ctx) (n : Nat), s.starts t c (Cmd.f 0x7005 Legal.LM) Target.none ∧ t.fw.upd =
    .pendingConfirm ∧ n = ((t.bankOf t.activeBank).manifest.map Manifest.svn).getD 0)
    ∧ (∃ (s : State) (n : Nat), s.fw.confirmBy = some n ∧ s.fw.upd = .pendingConfirm)
    ∧ (∃ (s t : State) (c : Ctx) (m : Manifest), s.starts t c (Cmd.f 0x7001 Legal.C) Target.none ∧
    Manifest.wellFormed m = false)
    ∧ (∃ (s t : State) (c : Ctx) (m : Manifest), s.starts t c (Cmd.f 0x7001 Legal.C) Target.none ∧
    Manifest.wellFormed m = true ∧ t.fw.upd ≠ .idle)
    ∧ (∃ (s t : State) (c : Ctx) (m : Manifest), s.starts t c (Cmd.f 0x7001 Legal.C) Target.none ∧
    Manifest.wellFormed m = true ∧ t.fw.upd = .idle ∧ Manifest.valid m = false)
    ∧ (∃ (s t : State) (c : Ctx) (m : Manifest), s.starts t c (Cmd.f 0x7001 Legal.C) Target.none ∧
    Manifest.wellFormed m = true ∧ t.fw.upd = .idle ∧ Manifest.valid m = true ∧ m.svn < t.fw.rollback)
    ∧ (∃ (s t : State) (c : Ctx), s.starts t c (Cmd.f 0x7006 Legal.C) Target.none ∧ t.fw.upd = .idle) :=
  ⟨⟨k0, _, fm, m0, And.intro (by decide +kernel) rfl, by decide +kernel, by decide +kernel, m0_valid,
   by decide +kernel⟩,
   ⟨kf fun f => { f with upd := .receiving, handle := 1, bank1 := b0 }, _, fm, 1, 5, 0, [9], _, m0, ⟨5, true, 1,
   Config.sha3 [0]⟩, And.intro (by decide +kernel) rfl, by decide +kernel, by decide +kernel, rfl, rfl, rfl,
   by decide +kernel⟩,
   ⟨kf fun f => { f with upd := .verified, handle := 1, bank1 := b0 }, _, fm, 1, m0, And.intro (by decide +kernel)
   rfl, by decide +kernel, by decide +kernel, rfl, b0_whole⟩,
   ⟨kf fun f => { f with upd := .verified, handle := 1, bank1 := b0 }, _, fm, 1, And.intro (by decide +kernel) rfl,
   by decide +kernel⟩,
   ⟨kf fun f => { f with upd := .pendingConfirm, handle := 1, bank1 := b0 }, _, fm, 1, And.intro
   (by decide +kernel) rfl, by decide +kernel⟩,
   ⟨k0, _, fm, And.intro (by decide +kernel) rfl⟩,
   ⟨kf fun f => { f with upd := .verified, handle := 1, bank1 := b0 }, _, fm, 1, And.intro (by decide +kernel) rfl,
   by decide +kernel⟩,
   ⟨kf fun f => { f with upd := .activating, loading := true }, by decide +kernel⟩,
   ⟨kf fun f => { f with upd := .activating, loading := true }, by decide +kernel⟩,
   ⟨kf fun f => { f with upd := .reverting, loading := true }, by decide +kernel⟩,
   ⟨kf fun f => { f with upd := .activating, switching := [.core 0, .core 1] }, .core 0, .core 1, [],
   by decide +kernel⟩,
   ⟨kf fun f => { f with upd := .activating, switching := [.core 0, .core 1] }, .core 1, by decide +kernel⟩,
   ⟨kf fun f => { f with upd := .reverting, switching := [.core 0] }, .core 0, by decide +kernel⟩,
   ⟨kf fun f => { f with upd := .pendingConfirm, bank0 := b0 }, _, fm, 255, And.intro (by decide +kernel) rfl,
   by decide +kernel⟩,
   ⟨kf fun f => { f with upd := .pendingConfirm, confirmBy := some 10000 }, 10000, by decide +kernel⟩,
   ⟨k0, _, fm, { m0 with svn := 256 }, And.intro (by decide +kernel) rfl, by decide +kernel⟩,
   ⟨kf fun f => { f with upd := .receiving }, _, fm, m0, And.intro (by decide +kernel) rfl, by decide +kernel⟩,
   ⟨k0, _, fm, { m0 with sigOk := false }, And.intro (by decide +kernel) rfl, by decide +kernel, by decide +kernel,
   by simp [Manifest.valid]⟩,
   ⟨kf fun f => { f with rollback := 256 }, _, fm, m0, And.intro (by decide +kernel) rfl, by decide +kernel,
   by decide +kernel, m0_valid, by decide⟩,
   ⟨k0, _, fm, And.intro (by decide +kernel) rfl, by decide +kernel⟩⟩

theorem witness_SecurityCommandsComplete :
    (∃ (s t : State) (c : Ctx), s.starts t c (Cmd.any 0x5002 Legal.A) Target.none)
    ∧ (∃ (s t : State) (c : Ctx) (n : Nat), s.starts t c (Cmd.any 0x5003 Legal.R) Target.none ∧ t.sec.identityValid
    = true ∧ n ≤ t.sec.svn ∧ t.sec.chainKey = true)
    ∧ (∃ (s t : State) (c : Ctx) (n : Nat), c.session ≠ 0 ∧ s.starts t c (Cmd.f 0x500B Legal.BR) Target.none ∧ n ≤
    3)
    ∧ (∃ (s t : State) (c : Ctx) (n : Nat), c.session = 0 ∧ (∀ q ∈ s.nirod.fmKeys, q.2 = 0) ∧ s.starts t c
    { Cmd.f 0x500B Legal.BR with open_ := true } Target.none ∧ n ≤ 3)
    ∧ (∃ (s t : State) (c : Ctx) (h a e off n k : Nat) (y : Comp) (x : Extent) (b : List Byte) (sl : BindSlot),
    s.starts t c (Cmd.fo 0x5004 Legal.S) (Target.ofComp h) ∧ t.comp h = some y ∧ t.findExtent h a 128 = some (e,
    off) ∧ t.extent e = some x ∧ x.state ≠ .revoking ∧ x.state ≠ .revoked ∧ x.isProtected = false ∧ n = brCount
    (t.readPool e off 128) ∧ 1 ≤ n ∧ n ≤ 64 ∧ off + brSize n ≤ x.size ∧ x.poisoned off (brSize n) = false ∧ b =
    t.readPool e off (brSize n) ∧ bindRefused t y b true true = none ∧ y.bindSlots.lowestFree 0 16 = some k ∧ sl =
    { weightDigest := digestOf ((b.drop 8).take 32), imported := [], nextSeq := 0 })
    ∧ (∃ (s t : State) (c : Ctx) (h k : Nat) (y : Comp), s.starts t c (Cmd.fo 0x5005 Legal.L) (Target.ofComp h) ∧
    t.comp h = some y ∧ k ≤ 15 ∧ y.bindSlots.has k = true)
    ∧ (∃ (s t : State) (c : Ctx) (h b len d be bo : Nat) (sl : Option Nat) (y : Comp) (x : Extent), s.starts t c
    ⟨0x5006, false, true, false, false, Legal.L, 1, 1⟩ { Target.ofComp h with extent := some d } ∧ t.comp h = some
    y ∧ len ≠ 0 ∧ t.bounce h b len false = .inr (be, bo) ∧ t.extent d = some x ∧ x.comp = h ∧ x.isProtected = true
    ∧ x.state = .active ∧ ((∀ k, sl = some k → y.bindSlots.has k = true)))
    ∧ (∃ (s t : State) (c : Ctx) (h a len b se so be bo k n0 : Nat) (y : Comp) (x : Extent) (m : Exporting),
    s.starts t c ⟨0x5007, false, true, false, false, Legal.L, 1, 1⟩ (Target.ofComp h) ∧ t.comp h = some y ∧ len ≠ 0
    ∧ len % 128 = 0 ∧ t.findExtent h a len = some (se, so) ∧ t.extent se = some x ∧ x.state ≠ .revoking ∧ x.state ≠
    .revoked ∧ x.isProtected = true ∧ so % 128 = 0 ∧ k = (len + 1048575) / 1048576 ∧ t.bounce h b (len + 64 * k)
    true = .inr (be, bo) ∧ x.poisoned so len = false ∧ n0 = ((t.nirod.sessions.look c.session).map
    Session.exportSeq).getD 0 ∧ n0 + k < 2 ^ 32 ∧ m = (List.range k).foldl (fun m _ => exportChunk se so len be bo
    (sessionKey c.session exportLabel) m) { state := t, taken := 0, written := 0, seq := n0 })
    ∧ (∃ (s : State) (i q st : Nat) (items : List Item) (l : List (Nat × Nat × Nat × List Item)) (x : Session) (r :
    Running), s.pool.ioRunning = (i, q, st, items) :: l ∧ s.nirod.sessions.look i = some x ∧ (x.running.find? fun r
    => r.seq == q) = some r)
    ∧ (∃ (s : State) (e : Nat) (x : Extent), s.extent e = some x ∧ x.rekeying = true)
    ∧ (∃ (s : State) (c : Ctx) (q : Nat × Digest), c.session = 0 ∧ c.seq = 0 ∧ q ∈ s.nirod.fmKeys ∧ q.2 ≠ 0 ∧
    s.controlUp = true ∧ s.fw.romOnly = false)
    ∧ (∃ (s t : State) (c : Ctx), c.session ≠ 0 ∧ s.controlUp = true ∧ s.fw.romOnly = false ∧ (s.waits c = true ∨
    (s.stepSix c.session c.seq 0x500B Target.none).1 = true) ∧ t = s.taken c 0x500B Target.none ∧
    t.dev.restarting.getLsbD (t.coreFor c.session) = false ∧ t.classOf c ≠ some .fabricManager) :=
  ⟨⟨State.reset, _, s0, And.intro (by decide +kernel) rfl⟩,
   ⟨k0, _, fm, 0, And.intro (by decide +kernel) rfl, by decide +kernel⟩,
   ⟨{ k0 with dev := { k0.dev with state := .ready }, comps := [] }, _, fm, 3, by decide +kernel, And.intro
   (by decide +kernel) rfl, by decide +kernel⟩,
   ⟨State.reset, _, s0, 0, by decide +kernel, by decide +kernel, And.intro (by decide +kernel) rfl,
   by decide +kernel⟩,
   ⟨kw, _, ow, 0, 0, 1, 0, 1, 0, { cp with ownerId := Config.sha3 (List.replicate 1312 0) }, ex 0 0, rec0, _,
   And.intro (by decide +kernel) rfl, rfl, by decide +kernel, by decide +kernel, by decide +kernel,
   by decide +kernel, by decide +kernel, (by decide +kernel : brCount (rec0.take 128) = 1).symm.trans (congrArg
   brCount (rec0_read 128 (by decide))), by decide +kernel, by decide +kernel, by decide +kernel,
   by decide +kernel, (List.take_of_length_le (by decide +kernel)).symm.trans (rec0_read 5028 (by decide)),
   rec0_ok, by decide +kernel, rfl⟩,
   ⟨{ k0 with comps := [(0, { cp with bindSlots := [(15, ⟨0, [], 0⟩)] })] }, _, ow, 0, 15,
   { cp with bindSlots := [(15, ⟨0, [], 0⟩)] }, And.intro (by decide +kernel) rfl, by decide +kernel⟩,
   ⟨kp, _, ow, 0, 0, 128, 2, 1, 0, none, cp, xp, And.intro (by decide +kernel) rfl, by decide +kernel,
   by decide +kernel, by decide +kernel, by decide +kernel, by decide +kernel, by decide +kernel,
   by decide +kernel, nofun⟩,
   ⟨kp, _, ow, 0, 0x200000, 128, 0, 2, 0, 1, 0, 1, 0, cp, xp, _, And.intro (by decide +kernel) rfl,
   by decide +kernel, by decide +kernel, by decide +kernel, by decide +kernel, by decide +kernel,
   by decide +kernel, by decide +kernel, by decide +kernel, by decide +kernel, by decide +kernel,
   by decide +kernel, by decide +kernel, by decide +kernel, by decide +kernel, rfl⟩,
   ⟨{ k0 with pool := { Pool.reset with ioRunning := [(1, 1, 0, [])] }, nirod := { k0.nirod with sessions := [(1, { sess none 0 with running := [⟨1, 0x5006, 0, true⟩] })] } },
   1, 1, 0, [], [], { sess none 0 with running := [⟨1, 0x5006, 0, true⟩] }, ⟨1, 0x5006, 0, true⟩,
   by decide +kernel⟩,
   ⟨{ k0 with pool := { Pool.reset with extents := [(2, { xp with rekeying := true })] } }, 2,
   { xp with rekeying := true }, by decide +kernel⟩,
   ⟨{ State.reset with nirod := { Nirod.reset with fmKeys := [(3, 1)] } }, s0, (3, 1), by decide +kernel⟩,
   ⟨k0, _, ow, by decide +kernel, by decide +kernel, by decide +kernel, by decide +kernel, rfl, by decide +kernel⟩⟩

theorem witness_FaultManagementCompletes :
    (∃ (s t : State) (c : Ctx) (l : List Digest) (q : Nat) (g : List Signed), s.starts t c (Cmd.f 0x4101 Legal.C)
    Target.none ∧ 1 ≤ l.length ∧ l.length ≤ 7 ∧ l.length / 2 + 1 ≤ q ∧ q ≤ l.length ∧ (t.ft.managers = [] ∨
    t.ft.quorum ≤ t.validSigners g))
    ∧ (∃ (s t : State) (c : Ctx) (r : ExpelReq), s.starts t c (Cmd.f 0x4102 Legal.C) Target.none ∧ expelCheck 0 r t
    = none ∧ (t.dropEntry r).ft.expelled.length < 64 ∧ t.budgetUsed r < t.field Reg.FT_EXPEL_CFG 7 0)
    ∧ (∃ (s t : State) (c : Ctx) (r : ExpelReq), s.starts t c (Cmd.f 0x4102 Legal.C) Target.none ∧ expelCheck 0 r t
    = none ∧ (t.dropEntry r).ft.expelled.length < 64 ∧ t.field Reg.FT_EXPEL_CFG 7 0 ≤ t.budgetUsed r)
    ∧ (∃ (s t : State) (c : Ctx) (r : ExpelReq) (e : ExpelEntry), s.starts t c (Cmd.f 0x4103 Legal.C) Target.none ∧
    expelCheck 1 r t = none ∧ t.expelFor r = some e)
    ∧ (∃ (s t : State) (c : Ctx), s.starts t c (Cmd.f 0x4104 Legal.R) Target.none)
    ∧ (∃ (s t : State) (c : Ctx), s.starts t c (Cmd.f 0x4105 Legal.R) Target.none)
    ∧ (∃ (s t : State) (c : Ctx) (cls unit leaf start count gap : Nat) (i : Inject), s.starts t c (Cmd.f 0xF002
    Legal.RS) Target.none ∧ 1 ≤ count ∧ count ≤ 1000 ∧ 1 ≤ gap ∧ gap ≤ 16777215 ∧ t.rehearsable cls unit leaf =
    true ∧ i = { cls := cls, unit := unit, leaf := leaf, nextNs := start, left := count, intervalUs := gap })
    ∧ (∃ (s t u : State) (h : Nat) (i : Inject), s.ft.injects.look h = some i ∧ t = s.advanceTo i.nextNs ∧ u =
    t.modFt (fun f =>
    { f with injects := if i.left ≤ 1 then t.ft.injects.del h else t.ft.injects.put h { i with left := i.left - 1, nextNs := i.nextNs + 1000 * i.intervalUs } })
    ∧ u.rehearsable i.cls i.unit i.leaf = true)
    ∧ (∃ (s t : State), t = s.links.foldl (fun s q => s.scorePort q.1) s)
    ∧ (∃ (w : Nat), 0 < w)
    ∧ (∃ (l : LPort) (w x : Nat), x ∈ (l.scoreSecond w).scores)
    ∧ (∃ (w : Nat), 0 < w)
    ∧ (∃ (s t : State) (c : Ctx) (l : List Digest) (q : Nat), s.starts t c (Cmd.f 0x4101 Legal.C) Target.none ∧ 1 ≤
    l.length ∧ l.length ≤ 7 ∧ (q < l.length / 2 + 1 ∨ l.length < q))
    ∧ (∃ (s t : State) (c : Ctx) (l : List Digest) (q : Nat) (g : List Signed), s.starts t c (Cmd.f 0x4101 Legal.C)
    Target.none ∧ 1 ≤ l.length ∧ l.length ≤ 7 ∧ l.length / 2 + 1 ≤ q ∧ q ≤ l.length ∧ t.ft.managers ≠ [] ∧
    t.validSigners g < t.ft.quorum)
    ∧ (∃ (s t : State) (c : Ctx) (l : List Digest), s.starts t c (Cmd.f 0x4101 Legal.C) Target.none ∧ (l = [] ∨ 7 <
    l.length)) :=
  ⟨⟨k0, _, fm, [1, 2, 3, 4, 5, 6, 7], 4, [], And.intro (by decide +kernel) rfl, by decide +kernel⟩,
   ⟨kx [] [], _, fm, xr, And.intro (by decide +kernel) rfl, expel_ok _ _ _ (by decide +kernel) rfl (next_ne _)
   (by decide +kernel) (by decide +kernel) rfl (by decide +kernel) rfl, by decide +kernel⟩,
   ⟨kx [] [(1, 0, 0), (2, 0, 0), (3, 0, 0), (4, 0, 0)], _, fm, xr, And.intro (by decide +kernel) rfl, expel_ok _ _
   _ (by decide +kernel) rfl (next_ne _) (by decide +kernel) (by decide +kernel) rfl (by decide +kernel) rfl,
   by decide +kernel⟩,
   ⟨kx [⟨0xFFF, k0.linkId + 1, false, 0⟩] [], _, fm, xr, ⟨0xFFF, k0.linkId + 1, false, 0⟩, And.intro
   (by decide +kernel) rfl, expel_ok _ _ _ (by decide +kernel) rfl (next_ne _) (by decide +kernel)
   (by decide +kernel) rfl (by decide +kernel) rfl, (by simp [xr] : List.find? (fun e => e.node == xr.node &&
   e.linkId == xr.linkId) [(⟨0xFFF, k0.linkId + 1, false, 0⟩ : ExpelEntry)] = some _)⟩,
   ⟨k0, _, fm, And.intro (by decide +kernel) rfl⟩,
   ⟨k0, _, fm, And.intro (by decide +kernel) rfl⟩,
   ⟨{ k0 with presses := [(0, { Press.reset with state := .lit })] }, _, fm, 0, 0, 0, 0, 1000, 16777215, _,
   And.intro (by decide +kernel) rfl, by decide +kernel, by decide +kernel, by decide +kernel, by decide +kernel,
   by decide +kernel, rfl⟩,
   ⟨{ k0 with presses := [(0, { Press.reset with state := .lit })], ft := { Ft.reset with injects := [(1, ⟨0, 0, 0, 5, 1, 1⟩)] } },
   _, _, 1, ⟨0, 0, 0, 5, 1, 1⟩, by decide +kernel, rfl, rfl, by decide +kernel⟩,
   ⟨k0, _, rfl⟩,
   ⟨1, by decide +kernel⟩,
   ⟨LPort.reset 8, 1, 0, by decide +kernel⟩,
   ⟨1, by decide +kernel⟩,
   ⟨k0, _, fm, [1, 2, 3, 4, 5, 6, 7], 3, And.intro (by decide +kernel) rfl, by decide +kernel⟩,
   ⟨{ k0 with ft := { Ft.reset with managers := [7], quorum := 1 } }, _, fm, [1, 2], 2, [], And.intro
   (by decide +kernel) rfl, by decide +kernel⟩,
   ⟨k0, _, fm, [1, 2, 3, 4, 5, 6, 7, 8], And.intro (by decide +kernel) rfl, by decide +kernel⟩⟩

end Sys2Proof.Tests
end

section
/-! Fault management (R352 to R356): the health scores, the fault managers, EXPEL and READMIT, and rehearsals. -/

namespace Sys2Proof.Machine

/-! ### Health scores (R352) -/

/-- The score of a port's second is the first of the scores kept. -/
theorem scoreSecond_scores (w : Nat) (l : LPort) : (l.scoreSecond w).scores =
    ((if l.st = .up then 1000 - l.newPenalties.sum else 0) :: l.scores).take w := rfl

theorem scoreSecond_scores_head (l : LPort) (w : Nat) (hw : 0 < w) : (l.scoreSecond w).scores.head? =
    some (if l.st = .up then 1000 - l.newPenalties.sum else 0) := by
  rw [scoreSecond_scores, List.head?_take, if_neg (Nat.ne_of_gt hw), List.head?_cons]

theorem portScore_eq_min? (l : LPort) : l.portScore = l.scores.min?.getD 0 := by
  unfold LPort.portScore
  split <;> simp_all [List.min?]

/-- PORT_SCORE is one of the scores kept, and none of them is below it. -/
theorem portScore_least (l : LPort) (h : l.scores ≠ []) :
    l.portScore ∈ l.scores ∧ ∀ x ∈ l.scores, l.portScore ≤ x := by
  obtain ⟨m, hm⟩ := Option.ne_none_iff_exists'.1 (mt List.min?_eq_none_iff.1 h)
  rw [portScore_eq_min?, hm]
  exact List.min?_eq_some_iff.1 hm

theorem portScore_le_of_mem (l : LPort) (x : Nat) (h : x ∈ l.scores) : l.portScore ≤ x :=
  (portScore_least l (List.ne_nil_of_mem h)).2 x h

theorem scoreSecond_portScore_mem (l : LPort) (w : Nat) (hw : 0 < w) :
    (l.scoreSecond w).portScore ∈ (l.scoreSecond w).scores := by
  refine (portScore_least _ fun h => ?_).1
  simpa [h] using scoreSecond_scores_head l w hw

/-- HEALTH_SCORE_TICK scores the ports, then every neighbour by the ports' new scores. -/
theorem exec_healthScoreTick (s t : State) (ht : t = s.links.foldl (fun s q => s.scorePort q.1) s) :
    exec .healthScoreTick s = .next ((t.topo.nbrs.map fun (q : Nat × Nbr) => (q.1, q.2, t.neighbourScore q.2)).foldl
      (fun s q => s.scoreNbr q.1 q.2.1 q.2.2) t) := by
  subst ht
  rfl

section Commands
variable {s t : State} {c : Ctx}

/-- FT_HEALTH_GET lists every port with its PORT_SCORE. -/
theorem exec_ftHealthGet (h : s.starts t c (Cmd.f 0x4105 Legal.R) Target.none) :
    ∃ l : List Nat, exec (.ftHealthGet c) s = .next (t.reply c 0x4105 St.OK (l.map .num))
      ∧ ∀ q ∈ t.links, q.1 ∈ l ∧ q.2.portScore ∈ l := by
  have run : exec (.ftHealthGet c) s = .next _ := congrArg Host.Outcome.next (nirod_starts _ c _ _ _ s t h)
  refine ⟨_, run, fun q hq => ?_⟩
  have listed : ∀ x ∈ [q.1, q.2.portScore], x ∈ t.links.flatMap fun (q : Nat × LPort) =>
      [q.1, q.2.portScore] ++ q.2.penalties :=
    fun x hx => List.mem_flatMap.2 ⟨q, hq, List.mem_append_left _ hx⟩
  exact ⟨List.mem_append_left _ (listed _ (by simp)), List.mem_append_left _ (listed _ (by simp))⟩

/-! ### Fault managers (R353) -/

section ManagerSet
variable {l : List Digest} {q : Nat} (g : List Signed)

/-- An admitted FT_MANAGER_SET checks the number of managers, then the quorum, then the signatures. -/
theorem exec_ftManagerSet (h : s.starts t c (Cmd.f 0x4101 Legal.C) Target.none) :
    exec (.ftManagerSet c l q g) s = .next (State.finish c 0x4101
      (if l.length < 1 ∨ 7 < l.length then invalid 0 t
      else if q < l.length / 2 + 1 ∨ l.length < q then invalid 1 t
      else if !t.ft.managers.isEmpty && decide (t.validSigners g < t.ft.quorum) then
        fail St.BAD_SIGNATURE (t.bump Reg.SE_CNT_AUTH_FAIL)
      else ok [] (t.modFt fun f => { f with managers := l, quorum := q }))) :=
  congrArg Host.Outcome.next (nirod_starts _ c _ _ _ s t h)

theorem exec_ftManagerSet_badCount (h : s.starts t c (Cmd.f 0x4101 Legal.C) Target.none) (hl : l = [] ∨ 7 < l.length) :
    exec (.ftManagerSet c l q g) s = .next (t.reply c 0x4101 St.INVALID_PARAM [.detail Det.FAILED_ITEM 0]) := by
  have bad : l.length < 1 ∨ 7 < l.length := hl.imp (by rintro rfl; simp) id
  rw [exec_ftManagerSet g h, if_pos bad, finish_invalid]

theorem exec_ftManagerSet_badQuorum (h : s.starts t c (Cmd.f 0x4101 Legal.C) Target.none) (h1 : 1 ≤ l.length)
    (h7 : l.length ≤ 7) (hq : q < l.length / 2 + 1 ∨ l.length < q) :
    exec (.ftManagerSet c l q g) s = .next (t.reply c 0x4101 St.INVALID_PARAM [.detail Det.FAILED_ITEM 1]) := by
  rw [exec_ftManagerSet g h, if_neg (by omega), if_pos hq, finish_invalid]

theorem exec_ftManagerSet_unsigned (h : s.starts t c (Cmd.f 0x4101 Legal.C) Target.none) (h1 : 1 ≤ l.length)
    (h7 : l.length ≤ 7) (hlo : l.length / 2 + 1 ≤ q) (hhi : q ≤ l.length) (hm : t.ft.managers ≠ [])
    (hv : t.validSigners g < t.ft.quorum) :
    exec (.ftManagerSet c l q g) s = .next ((t.bump Reg.SE_CNT_AUTH_FAIL).reply c 0x4101 St.BAD_SIGNATURE []) := by
  rw [exec_ftManagerSet g h, if_neg (by omega), if_neg (by omega), if_pos (by simp [hm, hv]), finish_fail]

theorem exec_ftManagerSet_registers (h : s.starts t c (Cmd.f 0x4101 Legal.C) Target.none) (h1 : 1 ≤ l.length)
    (h7 : l.length ≤ 7) (hlo : l.length / 2 + 1 ≤ q) (hhi : q ≤ l.length)
    (hv : t.ft.managers = [] ∨ t.ft.quorum ≤ t.validSigners g) :
    exec (.ftManagerSet c l q g) s = .next
      (({ t with ft := { t.ft with managers := l, quorum := q } } : State).reply c 0x4101 St.OK []) := by
  have signed : ¬ (!t.ft.managers.isEmpty && decide (t.validSigners g < t.ft.quorum)) = true := by
    rcases hv with hm | hv <;> simp [*]
  rw [exec_ftManagerSet g h, if_neg (by omega), if_neg (by omega), if_neg signed, finish_ok]
  rfl

end ManagerSet

/-! ### EXPEL and READMIT (R354, R355) -/

section Expulsion
variable {r : ExpelReq}

/-- Within the budget the target is expelled: its entry is new, and it counts against the budget from now. -/
theorem exec_expel_withinBudget (h : s.starts t c (Cmd.f 0x4102 Legal.C) Target.none) (hc : expelCheck 0 r t = none)
    (hroom : (t.dropEntry r).ft.expelled.length < 64) (hb : t.budgetUsed r < t.field Reg.FT_EXPEL_CFG 7 0) :
    ∃ u, u = (((t.dropEntry r).keepApplied 0 r).bump Reg.FT_CNT_EXPEL).modFt (fun f => { f with
        recent := f.recent.filter (fun q => decide (t.clk.timeNs < q.2.2 + 3600000000000)) ++ [(r.node, r.linkId, t.clk.timeNs)]
        expelled := f.expelled ++ [{ node := r.node, linkId := r.linkId, quarantine := false, timeNs := t.clk.timeNs }] })
      ∧ exec (.expel c r) s = .next (((u.cutOff r false).occur Ev.FT_EXPEL_APPLIED r.node 0).reply c 0x4102 St.OK [.num 0]) := by
  have run : exec (.expel c r) s = .next _ := congrArg Host.Outcome.next (nirod_starts _ c _ _ _ s t h)
  refine ⟨_, rfl, run.trans ?_⟩
  simp only [hc, Nat.not_le.2 hroom, Nat.not_le.2 hb, if_false, decide_false, Cmd.f_op, finish_ok]
  rfl

/-- Beyond the budget the target is quarantined: its entry is new, and the budget is not used. -/
theorem exec_expel_beyondBudget (h : s.starts t c (Cmd.f 0x4102 Legal.C) Target.none) (hc : expelCheck 0 r t = none)
    (hroom : (t.dropEntry r).ft.expelled.length < 64) (hb : t.field Reg.FT_EXPEL_CFG 7 0 ≤ t.budgetUsed r) :
    ∃ u, u = ((((t.dropEntry r).keepApplied 0 r).bump Reg.FT_CNT_EXPEL).bump Reg.FT_CNT_DEMOTED).modFt (fun f => { f with
        expelled := f.expelled ++ [{ node := r.node, linkId := r.linkId, quarantine := true, timeNs := t.clk.timeNs }] })
      ∧ exec (.expel c r) s = .next (((u.cutOff r true).occur Ev.FT_QUARANTINE_APPLIED r.node 0).reply c 0x4102 St.OK [.num 1]) := by
  have run : exec (.expel c r) s = .next _ := congrArg Host.Outcome.next (nirod_starts _ c _ _ _ s t h)
  refine ⟨_, rfl, run.trans ?_⟩
  simp only [hc, Nat.not_le.2 hroom, hb, if_false, decide_true, if_true, Cmd.f_op, finish_ok]
  rfl

/-- Where the target has an entry, ACTION is that entry's, and nothing is drawn. -/
theorem actionItem_of_entry {e : ExpelEntry} (he : t.expelFor r = some e) :
    t.actionItem r = (t, [.num (b2n e.quarantine)]) := by
  unfold State.actionItem
  rw [he]
  rfl

theorem exec_readmit_entry {e : ExpelEntry} (h : s.starts t c (Cmd.f 0x4103 Legal.C) Target.none)
    (hc : expelCheck 1 r t = none) (he : t.expelFor r = some e) :
    exec (.readmit c r) s = .next
      ((((t.dropEntry r).keepApplied 1 r).announceRoutes).reply c 0x4103 St.OK [.num (b2n e.quarantine)]) := by
  have run : exec (.readmit c r) s = .next _ := congrArg Host.Outcome.next (nirod_starts _ c _ _ _ s t h)
  simpa only [hc, actionItem_of_entry he, Cmd.f_op, finish_ok] using run

end Expulsion

theorem exec_ftExpelList (h : s.starts t c (Cmd.f 0x4104 Legal.R) Target.none) :
    exec (.ftExpelList c) s = .next (t.reply c 0x4104 St.OK
      (t.ft.expelled.flatMap fun e => [.num e.node, .num e.linkId.toNat, .num (b2n e.quarantine), .num e.timeNs])) :=
  congrArg Host.Outcome.next (nirod_starts _ c _ _ _ s t h)

/-! ### Rehearsal (R356) -/

theorem exec_ftInject_plans {cls unit leaf start count gap : Nat} {i : Inject}
    (h : s.starts t c (Cmd.f 0xF002 Legal.RS) Target.none) (hc : 1 ≤ count ∧ count ≤ 1000)
    (hg : 1 ≤ gap ∧ gap ≤ 16777215) (hr : t.rehearsable cls unit leaf = true)
    (hi : i = { cls := cls, unit := unit, leaf := leaf, nextNs := start, left := count, intervalUs := gap }) :
    exec (.ftInject c cls unit leaf start count gap) s = .next
      ((t.modFt fun f => { f with
          injects := f.injects.put t.ft.nextInject i
          nextInject := t.ft.nextInject + 1 }).reply c 0xF002 St.OK [.num t.ft.nextInject]) := by
  subst hi
  have run : exec (.ftInject c cls unit leaf start count gap) s = .next _ := congrArg Host.Outcome.next (nirod_starts _ c _ _ _ s t h)
  have count_ok : ¬ (count < 1 ∨ 1000 < count) := by omega
  have gap_ok : ¬ (gap < 1 ∨ 16777215 < gap) := by omega
  rw [run, if_neg count_ok, if_neg gap_ok, if_neg (by simp [hr])]
  rfl

end Commands

theorem exec_rehearsalInjection_eligible (s t u : State) (h : Nat) (i : Inject) (hi : s.ft.injects.look h = some i)
    (ht : t = s.advanceTo i.nextNs)
    (hu : u = t.modFt (fun f => { f with
      injects := if i.left ≤ 1 then t.ft.injects.del h
        else t.ft.injects.put h { i with left := i.left - 1, nextNs := i.nextNs + 1000 * i.intervalUs } }))
    (he : u.rehearsable i.cls i.unit i.leaf = true) :
    exec (.rehearsalInjection h) s = .next ((u.inject i).bump Reg.FT_CNT_REHEARSAL) := by
  subst ht hu
  change execRehearsalInjection h s = _
  simp only [execRehearsalInjection, hi]
  exact congrArg _ (if_pos he)

/-- Settles O60: each command's answer, then the scores kept and the three refusals of FT_MANAGER_SET. -/
theorem faultManagementCompletes : Obligations.FaultManagementCompletes := by
  unfold Obligations.FaultManagementCompletes
  exact ⟨fun _ _ _ _ _ g h h1 h7 hlo hhi hv => exec_ftManagerSet_registers g h h1 h7 hlo hhi hv,
    fun _ _ _ _ h hc hroom hb => exec_expel_withinBudget h hc hroom hb,
    fun _ _ _ _ h hc hroom hb => exec_expel_beyondBudget h hc hroom hb,
    fun _ _ _ _ _ h hc he => exec_readmit_entry h hc he,
    fun _ _ _ h => exec_ftExpelList h,
    fun _ _ _ h => exec_ftHealthGet h,
    fun _ _ _ _ _ _ _ _ _ _ h c1 c2 g1 g2 hr hi => exec_ftInject_plans h ⟨c1, c2⟩ ⟨g1, g2⟩ hr hi,
    exec_rehearsalInjection_eligible,
    exec_healthScoreTick,
    scoreSecond_scores_head,
    fun l w => portScore_le_of_mem (l.scoreSecond w),
    scoreSecond_portScore_mem,
    fun _ _ _ _ _ g h h1 h7 hq => exec_ftManagerSet_badQuorum g h h1 h7 hq,
    fun _ _ _ _ _ g h h1 h7 hlo hhi hm hv => exec_ftManagerSet_unsigned g h h1 h7 hlo hhi hm hv,
    fun _ _ _ _ _ g h hl => exec_ftManagerSet_badCount g h hl⟩

end Sys2Proof.Machine
end

section
/-! Security commands (R306, R312, R313, R319, R322, R323, R327) and the claiming of manager key slots (R365). -/

namespace Sys2Proof.Machine

/-! ### Commands that do not pass the class check (R300, R365) -/

section ClassCheck
variable {s : State} {i : Instr} {c : Ctx} {k : Cmd} {tg : Target} {body : State → Res}

/-- Session 0 keeps no sequence state: past steps 3 and 6, its command runs where it stands. -/
theorem nirod_sessionZero (h0 : c.session = 0) (hseq : c.seq = 0) (hup : s.controlUp = true) (hrom : s.fw.romOnly = false) :
    nirod i c k tg body s = State.finish c k.op (admitted c k tg (fun _ => k.legal) body s) := by
  unfold nirod nirodFull
  simp [hup, hrom, h0, hseq]

/-- A command of another session that passes steps 3 and 6, and whose core runs, comes to steps 7 to 11. -/
theorem nirod_taken (h0 : c.session ≠ 0) (hup : s.controlUp = true) (hrom : s.fw.romOnly = false)
    (h6 : s.waits c = true ∨ (s.stepSix c.session c.seq k.op tg).1 = true)
    (hcore : (s.taken c k.op tg).dev.restarting.getLsbD ((s.taken c k.op tg).coreFor c.session) = false) :
    nirod i c k tg body s = State.finish c k.op (admitted c k tg (fun _ => k.legal) body (s.taken c k.op tg)) := by
  have past : (if s.waits c then (true, s) else s.stepSix c.session c.seq k.op tg)
      = (true, if s.waits c then s else (s.stepSix c.session c.seq k.op tg).2) := by
    by_cases hw : s.waits c = true
    · rw [if_pos hw, if_pos hw]
    · rw [if_neg hw, if_neg hw]
      exact Prod.ext (h6.resolve_left hw) rfl
  rw [State.taken, if_neg h0] at hcore ⊢
  unfold nirod nirodFull
  rw [past]
  simp [hup, hrom, h0]
  exact fun hc => absurd (hc.symm.trans hcore) (by decide)

/-- A command that session 0 may not send, of a row that names no composition, is not authorised there. -/
theorem admitted_sessionZero_closed {legalNow : State → Nat} (h0 : c.session = 0) (hk : k.open_ = false)
    (htg : tg.comp = none) : admitted c k tg legalNow body s = fail St.NOT_AUTHORISED s := by
  unfold admitted
  simp [h0, hk, htg]

/-- A command outside the class of its session is not authorised (R300). -/
theorem admitted_otherClass {legalNow : State → Nat} (h0 : c.session ≠ 0) (hk : k.open_ = false)
    (hcls : k.permits (s.classOf c) = false) : admitted c k tg legalNow body s = fail St.NOT_AUTHORISED s := by
  unfold State.classOf at hcls
  unfold admitted
  simp [h0, hk, hcls]

/-- A row of the fabric manager permits no other class, and no session without one. -/
theorem Cmd.f_permits_eq_false (op legal : Nat) {x : Option Cls} (hx : x ≠ some .fabricManager) :
    (Cmd.f op legal).permits x = false := by
  match x with
  | none => rfl
  | some .fabricManager => exact absurd rfl hx
  | some .owner => rfl
  | some .observer => rfl

end ClassCheck

theorem withComp_of_comp {s : State} {h : Nat} {y : Comp} (f : Comp → State → Res) (hy : s.comp h = some y) :
    withComp h f s = f y s := by
  rw [withComp, hy]

theorem withExtent_of_extent {s : State} {e : Nat} {x : Extent} (f : Extent → State → Res) (hx : s.extent e = some x) :
    withExtent e f s = f x s := by
  rw [withExtent, hx]

theorem attest_of_identity {s : State} (f : State → Res) (hv : s.sec.identityValid = true) : attest f s = f s :=
  if_pos hv

section Commands
variable {s t : State} {c : Ctx}

/-! ### Status and binding keys (R306, R327) -/

theorem exec_secStatus (h : s.starts t c (Cmd.any 0x5002 Legal.A) Target.none) :
    exec (.secStatus c) s = .next
      (({ t with draws := t.draws + 1, nirod := { t.nirod with nonce := some (BitVec.ofNat 256 t.random) } } : State).reply c
        0x5002 St.OK [.num t.sec.debugSt.code, .num t.sec.svn, .num t.sec.identityGen, .digest (BitVec.ofNat 256 t.random)]) :=
  congrArg Host.Outcome.next (nirod_starts _ c _ _ _ s t h)

theorem exec_secBindkeyGet {n : Nat} (h : s.starts t c (Cmd.any 0x5003 Legal.R) Target.none)
    (hid : t.sec.identityValid = true) (hn : n ≤ t.sec.svn) (hkey : t.sec.chainKey = true) :
    exec (.secBindkeyGet c n) s = .next (t.reply c 0x5003 St.OK
      [.bytes (Config.bindingKey n), .bytes (Config.dikSign t.sec.identityGen (Config.bindingKey n))]) := by
  have run : exec (.secBindkeyGet c n) s = .next _ := congrArg Host.Outcome.next (nirod_starts _ c _ _ _ s t h)
  rw [run, attest_of_identity _ hid, if_neg (Nat.not_lt.2 hn), if_neg (by simp [hkey])]
  rfl

/-! ### Manager keys (R365) -/

section ManagerKeys
variable {n : Nat} {d : Digest}

/-- The row of FM_KEY_SET: the fabric manager's, and session 0's while no slot is in use. -/
def fmKeyRow (s : State) (c : Ctx) : Cmd :=
  { Cmd.f 0x500B Legal.BR with
    open_ := (List.all s.nirod.fmKeys fun (q : Nat × Digest) => decide (q.2 = 0)) && c.session == 0 }

@[simp] theorem fmKeyRow_op : (fmKeyRow s c).op = 0x500B := rfl

/-- What FM_KEY_SET does once it is admitted. -/
def fmKeyBody (n : Nat) (d : Digest) (s : State) : Res :=
  if 3 < n then invalid 0 s else ok [] (s.modNirod fun x => { x with fmKeys := x.fmKeys.put n d })

theorem exec_fmKeySet : exec (.fmKeySet c n d) s =
    .next (nirod (.fmKeySet c n d) c (fmKeyRow s c) Target.none (fmKeyBody n d) s) := rfl

theorem fmKeyRow_session (h0 : c.session ≠ 0) : fmKeyRow s c = Cmd.f 0x500B Legal.BR := by
  simp [fmKeyRow, h0, Cmd.f]

theorem fmKeyRow_unclaimed (h0 : c.session = 0) (hfree : ∀ q ∈ s.nirod.fmKeys, q.2 = 0) :
    fmKeyRow s c = { Cmd.f 0x500B Legal.BR with open_ := true } := by
  have free : (List.all s.nirod.fmKeys fun (q : Nat × Digest) => decide (q.2 = 0)) = true :=
    List.all_eq_true.2 fun q hq => decide_eq_true (hfree q hq)
  rw [fmKeyRow, free, h0]
  rfl

theorem fmKeyRow_claimed_closed {q : Nat × Digest} (hq : q ∈ s.nirod.fmKeys) (hne : q.2 ≠ 0) :
    (fmKeyRow s c).open_ = false := by
  have used : (List.all s.nirod.fmKeys fun (q : Nat × Digest) => decide (q.2 = 0)) = false :=
    List.all_eq_false.2 ⟨q, hq, by simpa using hne⟩
  simp only [fmKeyRow, used, Bool.false_and]

/-- FM_KEY_SET that starts, in whichever session its row let it, writes the slot. -/
theorem exec_fmKeySet_writes (h : s.starts t c (fmKeyRow s c) Target.none) (hn : n ≤ 3) :
    exec (.fmKeySet c n d) s =
      .next ((t.modNirod fun x => { x with fmKeys := x.fmKeys.put n d }).reply c 0x500B St.OK []) := by
  rw [exec_fmKeySet, nirod_starts _ _ _ _ _ _ _ h, fmKeyBody, if_neg (Nat.not_lt.2 hn), finish_ok, fmKeyRow_op]

theorem exec_fmKeySet_claimed {q : Nat × Digest} (h0 : c.session = 0) (hseq : c.seq = 0) (hq : q ∈ s.nirod.fmKeys)
    (hne : q.2 ≠ 0) (hup : s.controlUp = true) (hrom : s.fw.romOnly = false) :
    exec (.fmKeySet c n d) s = .next (s.reply c 0x500B St.NOT_AUTHORISED []) := by
  rw [exec_fmKeySet, nirod_sessionZero h0 hseq hup hrom,
    admitted_sessionZero_closed h0 (fmKeyRow_claimed_closed hq hne) rfl, finish_fail, fmKeyRow_op]

theorem exec_fmKeySet_otherClass (h0 : c.session ≠ 0) (hup : s.controlUp = true) (hrom : s.fw.romOnly = false)
    (h6 : s.waits c = true ∨ (s.stepSix c.session c.seq 0x500B Target.none).1 = true)
    (ht : t = s.taken c 0x500B Target.none) (hcore : t.dev.restarting.getLsbD (t.coreFor c.session) = false)
    (hcls : t.classOf c ≠ some .fabricManager) :
    exec (.fmKeySet c n d) s = .next (t.reply c 0x500B St.NOT_AUTHORISED []) := by
  subst ht
  rw [exec_fmKeySet, fmKeyRow_session h0, nirod_taken (k := Cmd.f 0x500B Legal.BR) h0 hup hrom h6 hcore, Cmd.f_op,
    admitted_otherClass h0 rfl (Cmd.f_permits_eq_false _ _ hcls), finish_fail]

end ManagerKeys

/-! ### Weight binding (R322, R323) -/

section WeightBinding
variable {h : Nat} {y : Comp}

/-- A record that passes every check takes the lowest free slot. -/
theorem bindRecord_takes {b : List Byte} {sigOk unwrapOk : Bool} {k : Nat}
    (hb : bindRefused t y b sigOk unwrapOk = none) (hk : y.bindSlots.lowestFree 0 16 = some k) :
    bindRecord h y b sigOk unwrapOk t = ok [.num k] (t.modComp h fun y => { y with
      bindSlots := y.bindSlots.put k { weightDigest := digestOf ((b.drop 8).take 32), imported := [], nextSeq := 0 } }) := by
  simp only [bindRecord, hb, hk]

theorem exec_weightBind_takes {a e off n k : Nat} {x : Extent} {b : List Byte} {sl : BindSlot}
    (hs : s.starts t c (Cmd.fo 0x5004 Legal.S) (Target.ofComp h)) (hy : t.comp h = some y)
    (hfind : t.findExtent h a 128 = some (e, off)) (hx : t.extent e = some x)
    (hstate : ¬ (x.state = .revoking ∨ x.state = .revoked)) (hopen : x.isProtected = false) (hn : n = brCount (t.readPool e off 128)) (hn1 : 1 ≤ n) (hn64 : n ≤ 64)
    (hfits : off + brSize n ≤ x.size) (hwhole : x.poisoned off (brSize n) = false)
    (hb : b = t.readPool e off (brSize n)) (hpass : bindRefused t y b true true = none)
    (hk : y.bindSlots.lowestFree 0 16 = some k)
    (hsl : sl = { weightDigest := digestOf ((b.drop 8).take 32), imported := [], nextSeq := 0 }) :
    exec (.weightBind c h a true true) s = .next
      ((t.modComp h fun y => { y with bindSlots := y.bindSlots.put k sl }).reply c 0x5004 St.OK [.num k]) := by
  subst hn hb hsl
  have run : exec (.weightBind c h a true true) s = .next _ := congrArg Host.Outcome.next (nirod_starts _ c _ _ _ s t hs)
  have count_ok : ¬ (brCount (t.readPool e off 128) < 1 ∨ 64 < brCount (t.readPool e off 128)) := by omega
  rw [run, withComp_of_comp _ hy]
  simp only [hfind, hx, if_neg hstate, hopen, if_neg count_ok, if_neg (Nat.not_lt.2 hfits), hwhole, Bool.false_eq_true,
    if_false, bindRecord_takes hpass hk, Cmd.fo_op, finish_ok]

theorem exec_weightUnbind_frees {k : Nat} (hs : s.starts t c (Cmd.fo 0x5005 Legal.L) (Target.ofComp h))
    (hy : t.comp h = some y) (hk : k ≤ 15) (hslot : y.bindSlots.has k = true) :
    exec (.weightUnbind c h k) s = .next
      ((t.modComp h fun y => { y with bindSlots := y.bindSlots.del k }).reply c 0x5005 St.OK []) := by
  have run : exec (.weightUnbind c h k) s = .next _ := congrArg Host.Outcome.next (nirod_starts _ c _ _ _ s t hs)
  rw [run, withComp_of_comp _ hy, if_neg (Nat.not_lt.2 hk), if_neg (by simp [hslot])]
  rfl

end WeightBinding

/-! ### SEC_IMPORT and SEC_EXPORT (R312, R313) -/

section ImportExport
variable {h b len be bo : Nat} {y : Comp} {x : Extent}

theorem exec_secImport_runs {d : Nat} {sl : Option Nat} {tags : List Bool}
    (hs : s.starts t c ⟨0x5006, false, true, false, false, Legal.L, 1, 1⟩ { Target.ofComp h with extent := some d })
    (hy : t.comp h = some y) (hlen : len ≠ 0) (hbounce : t.bounce h b len false = .inr (be, bo))
    (hx : t.extent d = some x) (hcomp : x.comp = h) (hprot : x.isProtected = true) (hstate : x.state = .active)
    (hslot : ∀ k, sl = some k → y.bindSlots.has k = true) :
    exec (.secImport c h b len d sl tags) s = .next (runImport c h be bo len d sl tags t) := by
  have run : exec (.secImport c h b len d sl tags) s = .next _ :=
    congrArg Host.Outcome.next (nirod_starts _ c _ _ _ s t hs)
  have slot_ok : (sl.any fun k => !y.bindSlots.has k) = false := by
    cases sl with
    | none => rfl
    | some k => simp [hslot k rfl]
  rw [run, withComp_of_comp _ hy, if_neg hlen]
  simp only [hbounce, withExtent_of_extent _ hx, hcomp, hprot, hstate, slot_ok, ne_eq, not_true_eq_false, Bool.not_true,
    Bool.false_eq_true, reduceCtorEq, or_self, if_false, finish_wait]

/-- SEC_EXPORT takes a chunk for each MiB begun (R312). -/
theorem chunkCount_eq (len : Nat) : ceilDiv len 1048576 = (len + 1048575) / 1048576 := by
  unfold ceilDiv
  omega

theorem exec_secExport_runs {a se so k n0 : Nat} {m : Exporting}
    (hs : s.starts t c ⟨0x5007, false, true, false, false, Legal.L, 1, 1⟩ (Target.ofComp h)) (hy : t.comp h = some y)
    (hlen : ¬ (len = 0 ∨ len % 128 ≠ 0)) (hfind : t.findExtent h a len = some (se, so)) (hx : t.extent se = some x)
    (hstate : ¬ (x.state = .revoking ∨ x.state = .revoked)) (hprot : x.isProtected = true) (hso : so % 128 = 0)
    (hk : k = (len + 1048575) / 1048576) (hbounce : t.bounce h b (len + 64 * k) true = .inr (be, bo))
    (hwhole : x.poisoned so len = false) (hn0 : n0 = ((t.nirod.sessions.look c.session).map Session.exportSeq).getD 0)
    (hseq : n0 + k < 2 ^ 32)
    (hm : m = (List.range k).foldl (fun m _ => exportChunk se so len be bo (sessionKey c.session exportLabel) m)
      { state := t, taken := 0, written := 0, seq := n0 }) :
    exec (.secExport c h a len b) s = .next
      ((m.state.modSession c.session fun x => { x with exportSeq := m.seq }).keepIo c St.OK [.num m.written, .num m.seq]) := by
  subst hn0 hm
  have run : exec (.secExport c h a len b) s = .next _ := congrArg Host.Outcome.next (nirod_starts _ c _ _ _ s t hs)
  have chunks : ceilDiv len 1048576 = k := hk ▸ chunkCount_eq len
  have source_ok : ¬ ((!x.isProtected) = true ∨ so % 128 ≠ 0) := by simp [hprot, hso]
  rw [run, withComp_of_comp _ hy]
  simp only [chunks, if_neg hlen, hfind, withExtent_of_extent _ hx, if_neg hstate, if_neg source_ok, hbounce, hwhole,
    if_neg (Nat.not_le.2 hseq), Bool.false_eq_true, if_false, finish_wait]

end ImportExport

end Commands

theorem exec_secImportExportDone_replies {s : State} {i q st : Nat} {items : List Item}
    {l : List (Nat × Nat × Nat × List Item)} {x : Session} {r : Running}
    (hio : s.pool.ioRunning = (i, q, st, items) :: l) (hx : s.nirod.sessions.look i = some x)
    (hr : (x.running.find? fun r => r.seq == q) = some r) :
    exec .secImportExportDone s = .next
      ((s.modPool fun p => { p with ioRunning := l }).reply { session := i, seq := q, badItem := none } r.opcode st items) := by
  change execSecImportExportDone s = _
  simp only [execSecImportExportDone, hio, hx, Option.bind_some, hr, Option.map_some, Option.getD_some]

/-! ### The re-key of an extent (R319) -/

theorem exec_macRekeyDone {s : State} {e : Nat} {x : Extent} (hx : s.extent e = some x) (hrekey : x.rekeying = true) :
    exec (.macRekeyDone e) s = .next
      (((s.modExtent e fun x => { x with macGen := x.macGen + 1, counters := [], rekeying := false }).modTx fun t => { t with
          steps := t.steps.each fun _ q => if q.extent = e ∧ q.wait = .rekey then { q with wait := .order } else q }).settle) := by
  change execMacRekeyDone e s = _
  simp only [execMacRekeyDone, hx, hrekey, Bool.not_true, Bool.false_eq_true, if_false]

/-- Settles O59: each command's answer, the answers and re-keys that come later, then the two refusals of R365. -/
theorem securityCommandsComplete : Obligations.SecurityCommandsComplete := by
  unfold Obligations.SecurityCommandsComplete
  refine ⟨fun _ _ _ h => exec_secStatus h,
    fun _ _ _ _ h hid hn hkey => exec_secBindkeyGet h hid hn hkey,
    fun _ _ _ _ _ h0 h hn => exec_fmKeySet_writes (by rwa [fmKeyRow_session h0]) hn,
    fun _ _ _ _ _ h0 hfree h hn => exec_fmKeySet_writes (by rwa [fmKeyRow_unclaimed h0 hfree]) hn,
    fun _ _ _ _ _ _ _ _ _ _ _ _ _ hs hy hfind hx hr hr' hopen hn h1 h64 hfits hwhole hb hpass hk hsl =>
      exec_weightBind_takes hs hy hfind hx (not_or.2 ⟨hr, hr'⟩) hopen hn h1 h64 hfits hwhole hb hpass hk hsl,
    fun _ _ _ _ _ _ hs hy hk hslot => exec_weightUnbind_frees hs hy hk hslot,
    fun _ _ _ _ _ _ _ _ _ _ _ _ _ hs hy hlen hbounce hx hcomp hprot hstate hslot =>
      exec_secImport_runs hs hy hlen hbounce hx hcomp hprot hstate hslot,
    fun _ _ _ _ _ _ _ _ _ _ _ _ _ _ _ _ hs hy hlen hlen' hfind hx hr hr' hprot hso hk hbounce hwhole hn0 hseq hm =>
      exec_secExport_runs hs hy (not_or.2 ⟨hlen, fun hne => hne hlen'⟩) hfind hx (not_or.2 ⟨hr, hr'⟩) hprot hso hk hbounce
        hwhole hn0 hseq hm,
    fun _ _ _ _ _ _ _ _ hio hx hr => exec_secImportExportDone_replies hio hx hr,
    fun _ _ _ hx hrekey => exec_macRekeyDone hx hrekey,
    fun _ _ _ _ _ h0 hseq hq hne hup hrom => exec_fmKeySet_claimed h0 hseq hq hne hup hrom,
    fun _ _ _ _ _ h0 hup hrom h6 ht hcore hcls => exec_fmKeySet_otherClass h0 hup hrom h6 ht hcore hcls⟩

end Sys2Proof.Machine
end

section
/-! Firmware updates: the commands of an update session (R407 to R411), activation, confirmation and revert (R412 to R415). -/

namespace Sys2Proof.Machine

section UpdateCommands
variable {s t : State} {c : Ctx} {h : Nat}

/-! ### The update a handle names (R407) -/

theorem withUpdate_idle (f : State → Res) (hu : t.fw.upd = .idle) : withUpdate h f t = fail St.NOT_FOUND t :=
  if_pos (Or.inl hu)

theorem withUpdate_named (f : State → Res) (hu : t.fw.upd ≠ .idle) (hh : t.fw.handle = h) : withUpdate h f t = f t :=
  if_neg (not_or.2 ⟨hu, fun hne => hne hh⟩)

/-- An update that takes blocks is one in RECEIVING or VERIFIED (Table FW-5). -/
theorem ne_idle_of_staging {u : UpdState} (hu : u = .receiving ∨ u = .verified) : u ≠ .idle := by
  rcases hu with rfl | rfl <;> decide

theorem not_busy_of_staging {u : UpdState} (hu : u = .receiving ∨ u = .verified) :
    ¬ (u ≠ .receiving ∧ u ≠ .verified) :=
  fun ⟨hr, hv⟩ => hu.elim hr hv

/-! ### FW_UPDATE_BEGIN (R408) -/

section Begin
variable {m : Manifest}

/-- An admitted FW_UPDATE_BEGIN checks the format, the update's state, the signature, then the SVN. -/
theorem exec_fwUpdateBegin (hs : s.starts t c (Cmd.f 0x7001 Legal.C) Target.none) :
    exec (.fwUpdateBegin c m) s = .next (State.finish c 0x7001
      (if !Manifest.wellFormed m then invalid 0 t
      else if t.fw.upd ≠ .idle then fail St.EXTENT_BUSY t
      else if !Manifest.valid m then fail St.BAD_SIGNATURE (t.bump Reg.SE_CNT_AUTH_FAIL)
      else if m.svn < t.fw.rollback then fail St.ROLLBACK t
      else ok [.num (t.random % 2 ^ 32)]
        (((t.setBank t.otherBank { manifest := some m, images := [] }).drawn).modFw fun f => { f with
          upd := .receiving, handle := t.random % 2 ^ 32, staged := none }))) :=
  congrArg Host.Outcome.next (nirod_starts _ c _ _ _ s t hs)

theorem exec_fwUpdateBegin_badFormat (hs : s.starts t c (Cmd.f 0x7001 Legal.C) Target.none)
    (hm : Manifest.wellFormed m = false) :
    exec (.fwUpdateBegin c m) s = .next (t.reply c 0x7001 St.INVALID_PARAM [.detail Det.FAILED_ITEM 0]) := by
  rw [exec_fwUpdateBegin hs, if_pos (by simp [hm]), finish_invalid]

theorem exec_fwUpdateBegin_busy (hs : s.starts t c (Cmd.f 0x7001 Legal.C) Target.none)
    (hm : Manifest.wellFormed m = true) (hu : t.fw.upd ≠ .idle) :
    exec (.fwUpdateBegin c m) s = .next (t.reply c 0x7001 St.EXTENT_BUSY []) := by
  rw [exec_fwUpdateBegin hs, if_neg (by simp [hm]), if_pos hu, finish_fail]

theorem exec_fwUpdateBegin_unsigned (hs : s.starts t c (Cmd.f 0x7001 Legal.C) Target.none)
    (hm : Manifest.wellFormed m = true) (hu : t.fw.upd = .idle) (hv : Manifest.valid m = false) :
    exec (.fwUpdateBegin c m) s = .next ((t.bump Reg.SE_CNT_AUTH_FAIL).reply c 0x7001 St.BAD_SIGNATURE []) := by
  rw [exec_fwUpdateBegin hs, if_neg (by simp [hm]), if_neg (fun hne => hne hu), if_pos (by simp [hv]), finish_fail]

theorem exec_fwUpdateBegin_rollback (hs : s.starts t c (Cmd.f 0x7001 Legal.C) Target.none)
    (hm : Manifest.wellFormed m = true) (hu : t.fw.upd = .idle) (hv : Manifest.valid m = true) (hn : m.svn < t.fw.rollback) :
    exec (.fwUpdateBegin c m) s = .next (t.reply c 0x7001 St.ROLLBACK []) := by
  rw [exec_fwUpdateBegin hs, if_neg (by simp [hm]), if_neg (fun hne => hne hu), if_neg (by simp [hv]), if_pos hn, finish_fail]

theorem exec_fwUpdateBegin_takes (hs : s.starts t c (Cmd.f 0x7001 Legal.C) Target.none)
    (hm : Manifest.wellFormed m = true) (hu : t.fw.upd = .idle) (hv : Manifest.valid m = true) (hn : t.fw.rollback ≤ m.svn) :
    exec (.fwUpdateBegin c m) s = .next
      ((((t.setBank t.otherBank { manifest := some m, images := [] }).drawn).modFw fun f => { f with
          upd := .receiving, handle := t.random % 2 ^ 32, staged := none }).reply c 0x7001 St.OK [.num (t.random % 2 ^ 32)]) := by
  rw [exec_fwUpdateBegin hs, if_neg (by simp [hm]), if_neg (fun hne => hne hu), if_neg (by simp [hv]), if_neg (Nat.not_lt.2 hn),
    finish_ok]

end Begin

/-! ### FW_UPDATE_BLOCK, FW_UPDATE_VERIFY, FW_UPDATE_ABORT and FW_STATUS (R409 to R411) -/

theorem exec_fwUpdateBlock_stores {k off : Nat} {d : List Byte} {b : Bank} {m : Manifest} {x : Component}
    (hs : s.starts t c (Cmd.f 0x7002 Legal.C) Target.none) (hu : t.fw.upd = .receiving ∨ t.fw.upd = .verified)
    (hh : t.fw.handle = h) (hb : b = t.bankOf t.otherBank) (hm : b.manifest = some m)
    (hx : (m.comps.find? fun y => y.ctype == k) = some x) (hoff : off % 64 = 0) (hd : d ≠ []) (hlen : d.length ≤ 65536)
    (hfits : off + d.length ≤ x.size) :
    ∃ im, im = putBytes ((b.images.look k).getD []) off d
      ∧ exec (.fwUpdateBlock c h k off d) s = .next
        (((t.setBank t.otherBank { b with images := b.images.put k im }).modFw fun f => { f with
          upd := .receiving, staged := none }).reply c 0x7002 St.OK [.num im.length]) := by
  subst hb
  have run : exec (.fwUpdateBlock c h k off d) s = .next _ := congrArg Host.Outcome.next (nirod_starts _ c _ _ _ s t hs)
  have data_ok : ¬ (d.isEmpty = true ∨ 65536 < d.length ∨ x.size < off + d.length) := by
    rw [List.isEmpty_iff]
    exact not_or.2 ⟨hd, by omega⟩
  have aligned : ¬ off % 64 ≠ 0 := fun hne => hne hoff
  refine ⟨_, rfl, ?_⟩
  rw [run, withUpdate_named _ (ne_idle_of_staging hu) hh, if_neg (not_busy_of_staging hu)]
  simp only [hm, Option.map_some, Option.bind_some, hx, if_neg aligned, if_neg data_ok, Cmd.f_op, finish_ok]

theorem exec_fwUpdateVerify_whole {m : Manifest} (hs : s.starts t c (Cmd.f 0x7003 Legal.C) Target.none)
    (hu : t.fw.upd = .receiving ∨ t.fw.upd = .verified) (hh : t.fw.handle = h)
    (hm : (t.bankOf t.otherBank).manifest = some m)
    (hall : ∀ x ∈ m.comps, (t.bankOf t.otherBank).complete x = true ∧ (t.bankOf t.otherBank).matchesDigest x = true) :
    exec (.fwUpdateVerify c h) s = .next
      ((t.modFw fun f => { f with upd := .verified, staged := some m.digest }).reply c 0x7003 St.OK [.digest m.digest]) := by
  have run : exec (.fwUpdateVerify c h) s = .next _ := congrArg Host.Outcome.next (nirod_starts _ c _ _ _ s t hs)
  have none_bad : (m.comps.find? fun x =>
      !((t.bankOf t.otherBank).complete x && (t.bankOf t.otherBank).matchesDigest x)) = none :=
    List.find?_eq_none.2 fun x hx => by simp [hall x hx]
  rw [run, withUpdate_named _ (ne_idle_of_staging hu) hh, if_neg (not_busy_of_staging hu)]
  simp only [hm, none_bad, Cmd.f_op, finish_ok]

theorem exec_fwUpdateAbort_idle (hs : s.starts t c (Cmd.f 0x7006 Legal.C) Target.none) (hu : t.fw.upd = .idle) :
    exec (.fwUpdateAbort c h) s = .next (t.reply c 0x7006 St.NOT_FOUND []) := by
  have run : exec (.fwUpdateAbort c h) s = .next _ := congrArg Host.Outcome.next (nirod_starts _ c _ _ _ s t hs)
  rw [run, withUpdate_idle _ hu, finish_fail, Cmd.f_op]

theorem exec_fwUpdateAbort_staging (hs : s.starts t c (Cmd.f 0x7006 Legal.C) Target.none)
    (hu : t.fw.upd = .receiving ∨ t.fw.upd = .verified) (hh : t.fw.handle = h) :
    exec (.fwUpdateAbort c h) s = .next
      (((t.setBank t.otherBank Bank.reset).modFw fun f => { f with upd := .idle, staged := none }).reply c 0x7006 St.OK []) := by
  have run : exec (.fwUpdateAbort c h) s = .next _ := congrArg Host.Outcome.next (nirod_starts _ c _ _ _ s t hs)
  rw [run, withUpdate_named _ (ne_idle_of_staging hu) hh]
  rcases hu with hu | hu <;> simp only [hu, State.eraseBank, Cmd.f_op, finish_ok]

theorem exec_fwUpdateAbort_committed (hs : s.starts t c (Cmd.f 0x7006 Legal.C) Target.none)
    (hu : t.fw.upd = .pendingConfirm) (hh : t.fw.handle = h) :
    exec (.fwUpdateAbort c h) s = .next (t.startRevert.reply c 0x7006 St.OK []) := by
  have run : exec (.fwUpdateAbort c h) s = .next _ := congrArg Host.Outcome.next (nirod_starts _ c _ _ _ s t hs)
  rw [run, withUpdate_named _ (by simp [hu]) hh]
  simp only [hu, Cmd.f_op, finish_ok]

theorem exec_fwStatus (hs : s.starts t c (Cmd.f 0x7007 Legal.R) Target.none) :
    exec (.fwStatus c) s = .next (t.reply c 0x7007 St.OK [.num t.fw.upd.code,
      .num (if t.fw.upd = .idle then 0 else t.fw.handle), .digest (t.fw.staged.getD 0), .num (t.fw.confirmBy.getD 0)]) :=
  congrArg Host.Outcome.next (nirod_starts _ c _ _ _ s t hs)

/-! ### FW_ACTIVATE and HEALTH_CONFIRM (R412, R414) -/

theorem exec_fwActivate_verified (hs : s.starts t c (Cmd.f 0x7004 Legal.CB) Target.none) (hu : t.fw.upd = .verified)
    (hh : t.fw.handle = h) :
    exec (.fwActivate c h) s = .next (((t.modDev fun d => { d with resume := t.dev.state }).enter .activating).modFw fun f =>
      { f with upd := .activating, loading := true, switching := [], activator := some (c.session, c.seq) }) := by
  have run : exec (.fwActivate c h) s = .next _ := congrArg Host.Outcome.next (nirod_starts _ c _ _ _ s t hs)
  rw [run, withUpdate_named _ (by simp [hu]) hh]
  simp only [hu, finish_wait]

theorem exec_healthConfirm_pending (hs : s.starts t c (Cmd.f 0x7005 Legal.LM) Target.none)
    (hu : t.fw.upd = .pendingConfirm) :
    exec (.healthConfirm c) s = .next
      (((t.modFw fun f => { f with
          confirmed := true, unconfirmedBoots := 0
          rollback := max f.rollback (((t.bankOf t.activeBank).manifest.map Manifest.svn).getD 0)
          upd := .idle, staged := none, confirmBy := none }).journal 0x22 0 1 0xFF 0).reply c 0x7005 St.OK []) := by
  have run : exec (.healthConfirm c) s = .next _ := congrArg Host.Outcome.next (nirod_starts _ c _ _ _ s t hs)
  rw [run, if_neg (fun hne => hne hu)]
  rfl

end UpdateCommands

/-! ### What the start of a revert leaves of the firmware's state (R415) -/

@[simp] theorem enter_fw (d : DevState) (s : State) : (s.enter d).fw = s.fw := by
  unfold State.enter
  split <;> rfl

@[simp] theorem addBin_fw (id bin : Nat) (s : State) : (s.addBin id bin).fw = s.fw := by
  simp only [State.addBin]
  split <;> rfl

@[simp] theorem countBoot_fw (bin : Nat) (s : State) : (s.countBoot bin).fw = s.fw := addBin_fw 0x0800 bin s

/-- The bank pointer names the other bank, which is confirmed, and the load of the old images runs. -/
theorem startRevert_fw (s : State) :
    s.startRevert.fw.upd = .reverting ∧ s.startRevert.fw.bank = 1 - s.fw.bank ∧ s.startRevert.fw.loading = true
      ∧ s.startRevert.fw.switching = [] ∧ s.startRevert.fw.confirmed = true := by
  by_cases ha : s.dev.state = .activating <;> simp [State.startRevert, State.journal, ha]

/-! ### The load and the switch of units (R412, R413, R415) -/

section Switch
variable {s : State} {u : SwUnit}

theorem exec_shadowLoadDone_commits (hl : s.fw.loading = true) (hu : s.fw.upd = .activating) :
    exec (.shadowLoadDone none) s = .next s.commit := by
  refine congrArg Host.Outcome.next ((if_neg (by simp [hl])).trans ?_)
  rw [hu]

theorem exec_shadowLoadDone_bad {k : Nat} (hl : s.fw.loading = true) (hu : s.fw.upd = .activating) :
    exec (.shadowLoadDone (some k)) s = .next
      (((s.modFw fun f => { f with upd := .verified, loading := false }).returnDevice).answerActivate St.DIGEST_MISMATCH
        [.detail Det.DETAIL k]) := by
  refine congrArg Host.Outcome.next ((if_neg (by simp [hl])).trans ?_)
  rw [hu]

theorem exec_shadowLoadDone_reverts (hl : s.fw.loading = true) (hu : s.fw.upd = .reverting)
    (hr : s.dev.resume ≠ .faulted) : exec (.shadowLoadDone none) s = .next s.beginSwitch := by
  refine congrArg Host.Outcome.next ((if_neg (by simp [hl])).trans ?_)
  rw [hu]
  exact if_neg hr

theorem sameClass_self (u : SwUnit) : SwUnit.sameClass u u = true := by
  cases u <;> rfl

/-- The first unit of a list is the first of its class. -/
theorem head_mem_switchHeads (u : SwUnit) (l : List SwUnit) : u ∈ switchHeads (u :: l) := by
  have first : (u :: l).find? (fun v => SwUnit.sameClass u v) = some u := List.find?_cons_of_pos (sameClass_self u)
  simp only [switchHeads, List.mem_filter, List.mem_cons_self, first, beq_self_eq_true, and_self]

theorem exec_unitSwitchDone_next {v : SwUnit} {l : List SwUnit} (hl : s.fw.switching = u :: v :: l) :
    exec (.unitSwitchDone u) s = .next (if (s.unitLeaves u).fw.switching.isEmpty ∧ (s.unitLeaves u).fw.upd = .activating
      then (s.unitLeaves u).endActivation else s.unitLeaves u) := by
  have goes_on : ¬ ((!(switchHeads s.fw.switching).contains u) = true
      ∨ (s.fw.upd = .reverting ∧ s.fw.switching.length ≤ 1)) := by
    simp [hl, head_mem_switchHeads]
  exact congrArg Host.Outcome.next (if_neg goes_on)

theorem exec_switchPhaseTimeout_reverts (hu : s.fw.upd = .activating) (hl : s.fw.loading = false)
    (hm : u ∈ s.fw.switching) : exec (.switchPhaseTimeout u) s = .next s.startRevert :=
  congrArg Host.Outcome.next (if_neg (by simp [hu, hl, hm]))

theorem exec_revertDone_last (hu : s.fw.upd = .reverting) (hl : s.fw.switching = [u]) :
    exec (.revertDone u) s = .next (s.unitLeaves u).endRevert :=
  congrArg Host.Outcome.next (if_neg (by simp [hu, hl]))

theorem exec_confirmWindowExpiry_reverts {n : Nat} (hn : s.fw.confirmBy = some n) (hu : s.fw.upd = .pendingConfirm) :
    exec .confirmWindowExpiry s = .next (s.advanceTo (n / 10000 * 10000 + 10000)).startRevert := by
  change execConfirmWindowExpiry s = _
  simp [execConfirmWindowExpiry, hn, hu]

end Switch

/-- Settles O58: each command of an update, the rows of its activation and its revert, then the refusals of R408 and R411. -/
theorem updatesComplete : Obligations.UpdatesComplete := by
  unfold Obligations.UpdatesComplete
  refine ⟨fun _ _ _ _ hs hm hu hv hn => exec_fwUpdateBegin_takes hs hm hu hv hn,
    fun _ _ _ _ _ _ _ _ _ _ hs hu hh hb hm hx hoff hd hlen hfits =>
      exec_fwUpdateBlock_stores hs hu hh hb hm hx hoff hd hlen hfits,
    fun _ _ _ _ _ hs hu hh hm hall => exec_fwUpdateVerify_whole hs hu hh hm hall,
    fun _ _ _ _ hs hu hh => exec_fwUpdateAbort_staging hs hu hh,
    fun _ _ _ _ hs hu hh => exec_fwUpdateAbort_committed hs hu hh,
    fun _ _ _ hs => exec_fwStatus hs,
    fun _ _ _ _ hs hu hh => exec_fwActivate_verified hs hu hh,
    fun _ hl hu => exec_shadowLoadDone_commits hl hu,
    fun _ _ hl hu => exec_shadowLoadDone_bad hl hu,
    fun _ hl hu hr => exec_shadowLoadDone_reverts hl hu hr,
    fun _ _ _ _ hl _ => exec_unitSwitchDone_next hl,
    fun s _ hu hl hm => ⟨_, exec_switchPhaseTimeout_reverts hu hl hm, startRevert_fw s⟩,
    fun _ _ hu hl => exec_revertDone_last hu hl,
    ?_,
    fun _ _ hn hu => exec_confirmWindowExpiry_reverts hn hu,
    fun _ _ _ _ hs hm => exec_fwUpdateBegin_badFormat hs hm,
    fun _ _ _ _ hs hm hu => exec_fwUpdateBegin_busy hs hm hu,
    fun _ _ _ _ hs hm hu hv => exec_fwUpdateBegin_unsigned hs hm hu hv,
    fun _ _ _ _ hs hm hu hv hn => exec_fwUpdateBegin_rollback hs hm hu hv hn,
    fun _ _ _ _ hs hu => exec_fwUpdateAbort_idle hs hu⟩
  rintro _ _ _ _ hs hu rfl
  exact exec_healthConfirm_pending hs hu

end Sys2Proof.Machine
end

section
/-! The step, the state at reset and the bytes of the pool (R17, R32). -/

namespace Sys2Proof.Machine

/-- What every step of a fold leaves as it was, the fold leaves as it was. -/
theorem foldl_frame {α β σ : Type} (g : σ → β) (f : σ → α → σ) (h : ∀ s x, g (f s x) = g s) (l : List α) (s : σ) :
    g (l.foldl f s) = g s := by
  induction l generalizing s with
  | nil => rfl
  | cons x l ih => exact (ih _).trans (h s x)

/-! ### Steps (R17) -/

/-- Settles O1: with a command waiting, a step is that command's execution. -/
theorem stepRunsTheFront : Obligations.StepRunsTheFront := by
  unfold Obligations.StepRunsTheFront
  intro s c rest
  rfl

theorem step_idle {s : State} (hp : s.pending = []) (hd : s.nextDeferred = none) : step s = .next (idle s) := by
  unfold step
  simp only [hp, hd]

/-- Announcing credits changes the ports alone. -/
theorem announceAll_frame (s : State) : (s.announceAll.clk, s.announceAll.pool, s.announceAll.nirod, s.announceAll.dev,
    s.announceAll.topo) = (s.clk, s.pool, s.nirod, s.dev, s.topo) :=
  foldl_frame (fun s : State => (s.clk, s.pool, s.nirod, s.dev, s.topo)) (fun s (p : Nat × LPort) => s.announce p.1)
    (fun _ _ => rfl) (s.links.filter fun p => !p.2.owed.isEmpty) s

theorem advanceTo_timeNs (s : State) (n : Nat) : (s.advanceTo n).clk.timeNs = max s.clk.timeNs n := by
  unfold State.advanceTo
  dsimp only
  split
  · exact (Nat.max_eq_left ‹_›).symm
  · exact (Nat.max_eq_right (Nat.le_of_not_le ‹_›)).symm

/-- The passing of time moves the clock, the meters and OP_SECONDS. -/
theorem advanceTo_frame (s : State) (n : Nat) : (s.advanceTo n).pool = s.pool ∧ (s.advanceTo n).nirod = s.nirod
    ∧ (s.advanceTo n).dev = s.dev ∧ (s.advanceTo n).topo = s.topo := by
  unfold State.advanceTo
  dsimp only
  split <;> exact ⟨rfl, rfl, rfl, rfl⟩

/-- An AON cycle without a slew: 40 ns. -/
theorem tickAon_noSlew {s : State} (hp : s.pins.powered = true) (hs : s.clk.slew = 0) (hf : s.clk.slewFrac = 0) :
    s.tickAon = s.advanceTo (s.clk.timeNs + 40) := by
  have still : { s with clk := { s.clk with slew := 0, slewFrac := 0 } } = s := by
    conv => rhs; rw [show s = { s with clk := { s.clk with slew := s.clk.slew, slewFrac := s.clk.slewFrac } } from rfl, hs, hf]
  have now : ((s.clk.timeNs : Int) + 40).toNat = s.clk.timeNs + 40 := by omega
  unfold State.tickAon
  simp [hp, hs, hf, still, now]

/-- Settles O2: the cycle's 40 ns, and nothing of the pool, the sessions, the device or the topology. -/
theorem idleStepAdvancesTime : Obligations.IdleStepAdvancesTime := by
  unfold Obligations.IdleStepAdvancesTime
  intro s hp hd hpow hs hf
  obtain ⟨hpool, hnirod, hdev, htopo⟩ := advanceTo_frame s (s.clk.timeNs + 40)
  have h := announceAll_frame (s.advanceTo (s.clk.timeNs + 40))
  simp only [Prod.mk.injEq] at h
  obtain ⟨aclk, apool, anirod, adev, atopo⟩ := h
  refine ⟨_, step_idle hp hd, ?_⟩
  rw [idle, tickAon_noSlew hpow hs hf, aclk, apool, anirod, adev, atopo, advanceTo_timeNs]
  exact ⟨by omega, hpool, hnirod, hdev, htopo⟩

/-! ### Reset -/

/-- Settles O3, register by register. -/
theorem resetLeavesBoot : Obligations.ResetLeavesBoot := by
  unfold Obligations.ResetLeavesBoot
  refine ⟨by decide, by decide, rfl, by decide, by decide, by decide, by decide, by decide, rfl, rfl, rfl, ?_⟩
  intro p hp
  obtain ⟨n, -, rfl⟩ := List.mem_map.1 hp
  exact ⟨rfl, rfl⟩

/-- Settles O4: the pool is empty at reset. -/
theorem resetMemoryCanonical : Obligations.ResetMemoryCanonical := by
  unfold Obligations.ResetMemoryCanonical
  exact ⟨rfl, rfl⟩

/-! ### The bytes of the pool (R32) -/

/-- Below the first cell of a memory every byte is zero. -/
theorem cellRead_below {m : List Host.Cell} {lo x : Nat} (w : cellsFrom lo m = true) (h : x < lo) : cellRead m x = 0 := by
  cases m with
  | nil => rfl
  | cons c m =>
    obtain ⟨k, v⟩ := c
    simp only [cellsFrom, Bool.and_eq_true, decide_eq_true_eq] at w
    simp only [cellRead]
    rw [if_neg (by omega), if_pos (by omega)]

/-- Two runs of cells, one below `hi` and one from `hi` up. -/
theorem cellRead_append {m l : List Host.Cell} {lo hi : Nat} (w : cellsFrom lo m = true) (h : ∀ c ∈ m, c.1 < hi)
    (hl : cellsFrom hi l = true) (x : Nat) :
    cellRead (m ++ l) x = if x < hi then cellRead m x else cellRead l x := by
  induction m generalizing lo with
  | nil =>
    split
    · exact cellRead_below hl ‹_›
    · rfl
  | cons c m ih =>
    obtain ⟨k, v⟩ := c
    simp only [cellsFrom, Bool.and_eq_true, decide_eq_true_eq] at w
    have hk : k < hi := h (k, v) (List.mem_cons_self ..)
    simp only [List.cons_append, cellRead, ih w.2 fun c hc => h c (List.mem_cons_of_mem _ hc)]
    by_cases e : k = x
    · rw [if_pos e, if_pos (by omega), if_pos e]
    · rw [if_neg e, if_neg e]
      by_cases g : x < k
      · rw [if_pos g, if_pos g, if_pos (by omega)]
      · rw [if_neg g, if_neg g]

theorem takeWhile_lt (m : List Host.Cell) (b : Nat) : ∀ c ∈ m.takeWhile fun c => decide (c.1 < b), c.1 < b :=
  fun c hc => of_decide_eq_true (p := c.1 < b) (List.all_eq_true.1 List.all_takeWhile c hc)

/-- A memory is its cells below an address and those from it up. -/
theorem cellRead_split {m : List Host.Cell} (w : Memory.wf m = true) (b x : Nat) :
    cellRead m x = if x < b then cellRead (m.takeWhile fun c => decide (c.1 < b)) x
      else cellRead (m.dropWhile fun c => decide (c.1 < b)) x := by
  have low := cellsFrom_takeWhile m [] 0 b w (Nat.zero_le b) rfl
  rw [List.append_nil] at low
  conv => lhs; rw [← List.takeWhile_append_dropWhile (p := fun c : Host.Cell => decide (c.1 < b)) (l := m)]
  exact cellRead_append low (takeWhile_lt m b) (cellsFrom_dropWhile m 0 b w) x

theorem byteCells_lt (b : List Byte) (a : Nat) : ∀ c ∈ byteCells a b, c.1 < a + b.length := by
  induction b generalizing a with
  | nil => simp [byteCells]
  | cons v t ih =>
    intro c h
    have later (g : c ∈ byteCells (a + 1) t) : c.1 < a + (v :: t).length := by
      have := ih (a + 1) c g
      simp only [List.length_cons]
      omega
    unfold byteCells at h
    split at h
    · exact later h
    · rcases List.mem_cons.1 h with rfl | h
      · simp only [List.length_cons]; omega
      · exact later h

theorem cellRead_byteCells (b : List Byte) (a x : Nat) (h : a ≤ x) : cellRead (byteCells a b) x = b.getD (x - a) 0 := by
  induction b generalizing a with
  | nil => simp [byteCells, cellRead]
  | cons v t ih =>
    have later (g : a ≠ x) : cellRead (byteCells (a + 1) t) x = (v :: t).getD (x - a) 0 := by
      rw [ih (a + 1) (by omega), show x - a = x - (a + 1) + 1 by omega, List.getD_cons_succ]
    have canon := cellsFrom_byteCells t [] (a + 1) rfl
    rw [List.append_nil] at canon
    unfold byteCells
    by_cases g : a = x
    · subst g
      split
      · rw [cellRead_below canon (Nat.lt_succ_self a), ‹v = 0›]; simp
      · simp [cellRead]
    · split
      · exact later g
      · rw [cellRead, if_neg g, if_neg (by omega)]
        exact later g

/-- R32: a write is read back, and every other byte is as it was. -/
theorem cellRead_cellWrites {m : List Host.Cell} (w : Memory.wf m = true) (a : Nat) (b : List Byte) (x : Nat) :
    cellRead (cellWrites m a b) x = if a ≤ x ∧ x < a + b.length then b.getD (x - a) 0 else cellRead m x := by
  have high := cellsFrom_dropWhile m 0 (a + b.length) w
  have low := cellsFrom_takeWhile m [] 0 a w (Nat.zero_le a) rfl
  have mid := cellsFrom_byteCells b [] a rfl
  rw [List.append_nil] at low mid
  unfold cellWrites
  rw [List.append_assoc, cellRead_append low (takeWhile_lt m a) (cellsFrom_byteCells b _ a high),
    cellRead_append mid (byteCells_lt b a) high]
  by_cases h1 : x < a
  · rw [if_pos h1, if_neg (by omega), cellRead_split w a, if_pos h1]
  · rw [if_neg h1]
    by_cases h2 : x < a + b.length
    · rw [if_pos h2, if_pos ⟨by omega, h2⟩, cellRead_byteCells b a x (by omega)]
    · rw [if_neg h2, if_neg (by omega), cellRead_split w (a + b.length) x, if_neg h2]

/-- A run over cells that start at the run's first address or later reads each byte. -/
theorem cellsRun_eq_map {m : List Host.Cell} {a : Nat} (w : cellsFrom a m = true) (n : Nat) :
    cellsRun m a n = (List.range n).map fun i => cellRead m (a + i) := by
  induction n generalizing m a with
  | zero => rfl
  | succ n ih =>
    rw [List.range_succ_eq_map, List.map_cons, List.map_map]
    match m with
    | [] => simp [cellsRun, ih (m := []) (a := a + 1) rfl, cellRead, Function.comp_def]
    | (k, v) :: m =>
      simp only [cellsFrom, Bool.and_eq_true, decide_eq_true_eq] at w
      obtain ⟨⟨hk, hv⟩, w⟩ := w
      by_cases e : k = a
      · subst e
        simp only [cellsRun, if_true, cellRead, Nat.add_zero, ih w, List.cons.injEq, true_and]
        refine List.map_congr_left fun i _ => ?_
        simp only [Function.comp_apply]
        rw [if_neg (by omega), if_neg (by omega), Nat.succ_eq_add_one, Nat.add_comm i 1, Nat.add_assoc]
      · have w' : cellsFrom (a + 1) ((k, v) :: m) = true := by
          simp only [cellsFrom, Bool.and_eq_true, decide_eq_true_eq]
          exact ⟨⟨by omega, hv⟩, w⟩
        simp only [cellsRun, if_neg e, ih w', List.cons.injEq]
        refine ⟨(cellRead_below w' (by omega)).symm, List.map_congr_left fun i _ => ?_⟩
        simp only [Function.comp_apply, Nat.succ_eq_add_one, Nat.add_comm i 1, Nat.add_assoc]

theorem cellReads_eq_map {m : List Host.Cell} (w : Memory.wf m = true) (a n : Nat) :
    cellReads m a n = (List.range n).map fun i => cellRead m (a + i) := by
  rw [cellReads, cellsRun_eq_map (cellsFrom_dropWhile m 0 a w)]
  refine List.map_congr_left fun i _ => ?_
  rw [cellRead_split w a, if_neg (by omega)]

/-- Settles O6: a write's bytes read back, and a run is read byte by byte. -/
theorem poolReadsWhatWasWritten : Obligations.PoolReadsWhatWasWritten := by
  unfold Obligations.PoolReadsWhatWasWritten
  exact ⟨fun _ a b x w => cellRead_cellWrites w a b x, fun _ a n w => cellReads_eq_map w a n⟩

end Sys2Proof.Machine
end

section
/-! Functions of the data alone: the atomics (R186), the order of a filter (R135, R136) and the choice of an engine (R98). -/

namespace Sys2Proof.Machine

/-! ### Atomics (R186) -/

/-- The signed value of a word is that of its bit vector. -/
theorem signedOf_eq_toInt {w v : Nat} (hw : 0 < w) (hv : v < 2 ^ w) : signedOf w v = (BitVec.ofNat w v).toInt := by
  have two : 2 ^ w = 2 * 2 ^ (w - 1) := by rw [← Nat.pow_succ', Nat.succ_eq_add_one, Nat.sub_add_cancel hw]
  have cast : ((2 ^ w : Nat) : Int) = 2 ^ w := by simp
  unfold signedOf
  rw [BitVec.toInt_eq_toNat_cond, BitVec.toNat_ofNat, Nat.mod_eq_of_lt hv]
  split
  · rw [if_pos (by omega)]
  · rw [if_neg (by omega), cast]

theorem ofNat_mod_two_pow (w a : Nat) : BitVec.ofNat w (a % 2 ^ w) = BitVec.ofNat w a := by
  apply BitVec.eq_of_toNat_eq
  simp

/-- The lesser of two words as signed numbers. -/
theorem signedMin {w o : Nat} (a : Nat) (hw : 0 < w) (ho : o < 2 ^ w) :
    ∃ v, (if signedOf w (a % 2 ^ w) < signedOf w o then a % 2 ^ w else o) = v ∧ (v = o ∨ v = a % 2 ^ w)
      ∧ (BitVec.ofNat w v).toInt = min (BitVec.ofNat w o).toInt (BitVec.ofNat w a).toInt := by
  refine ⟨_, rfl, ?_⟩
  rw [signedOf_eq_toInt hw ho, signedOf_eq_toInt hw (Nat.mod_lt a (Nat.two_pow_pos w)), ofNat_mod_two_pow]
  split
  · exact ⟨.inr rfl, by rw [ofNat_mod_two_pow]; omega⟩
  · exact ⟨.inl rfl, by omega⟩

/-- The greater of two words as signed numbers. -/
theorem signedMax {w o : Nat} (a : Nat) (hw : 0 < w) (ho : o < 2 ^ w) :
    ∃ v, (if signedOf w o < signedOf w (a % 2 ^ w) then a % 2 ^ w else o) = v ∧ (v = o ∨ v = a % 2 ^ w)
      ∧ (BitVec.ofNat w v).toInt = max (BitVec.ofNat w o).toInt (BitVec.ofNat w a).toInt := by
  refine ⟨_, rfl, ?_⟩
  rw [signedOf_eq_toInt hw ho, signedOf_eq_toInt hw (Nat.mod_lt a (Nat.two_pow_pos w)), ofNat_mod_two_pow]
  split
  · exact ⟨.inr rfl, by rw [ofNat_mod_two_pow]; omega⟩
  · exact ⟨.inl rfl, by omega⟩

/-- Settles O42: the table of R186, in 32 and in 64 bits. -/
theorem atomicsComputeTheirFunction : Obligations.AtomicsComputeTheirFunction := by
  unfold Obligations.AtomicsComputeTheirFunction
  intro o a c
  refine ⟨fun ho => ⟨by simp [atomicNew], by simp [atomicNew], by simp [atomicNew], ?_, ?_⟩,
    fun ho => ⟨by simp [atomicNew], by simp [atomicNew], by simp [atomicNew], ?_, ?_⟩⟩
  · obtain ⟨v, rfl, h⟩ := signedMin (w := 32) a (by decide) ho
    exact ⟨_, rfl, h⟩
  · obtain ⟨v, rfl, h⟩ := signedMax (w := 32) a (by decide) ho
    exact ⟨_, rfl, h⟩
  · obtain ⟨v, rfl, h⟩ := signedMin (w := 64) a (by decide) ho
    exact ⟨_, rfl, h⟩
  · obtain ⟨v, rfl, h⟩ := signedMax (w := 64) a (by decide) ho
    exact ⟨_, rfl, h⟩

/-! ### The first entries of a filter (R135, R136) -/

section Filter
variable {f : Nat × Nat → Nat × Nat → Bool} {k : Nat}

theorem topInsert_perm (f : Nat × Nat → Nat × Nat → Bool) (a : Nat × Nat) (l : List (Nat × Nat)) :
    (topInsert f a l).Perm (a :: l) := by
  induction l with
  | nil => exact List.Perm.refl _
  | cons b l ih =>
    unfold topInsert
    split
    · exact List.Perm.refl _
    · exact (ih.cons b).trans (List.Perm.swap a b l)

/-- Insertion keeps a list in order. -/
theorem topInsert_pairwise {a : Nat × Nat} {l : List (Nat × Nat)} (ho : l.Pairwise fun x y => f x y = true)
    (total : ∀ b ∈ l, f a b = true ∨ f b a = true) (trans : ∀ b ∈ l, ∀ c ∈ l, f a b = true → f b c = true → f a c = true) :
    (topInsert f a l).Pairwise fun x y => f x y = true := by
  induction l with
  | nil => exact List.pairwise_singleton _ _
  | cons b l ih =>
    obtain ⟨hb, hl⟩ := List.pairwise_cons.1 ho
    unfold topInsert
    split
    · rename_i hab
      refine List.pairwise_cons.2 ⟨fun c hc => ?_, ho⟩
      rcases List.mem_cons.1 hc with rfl | hc
      · exact hab
      · exact trans b (List.mem_cons_self ..) c (List.mem_cons_of_mem _ hc) hab (hb c hc)
    · rename_i hab
      have hba : f b a = true := (total b (List.mem_cons_self ..)).resolve_left hab
      refine List.pairwise_cons.2 ⟨fun c hc => ?_, ih hl (fun c hc => total c (List.mem_cons_of_mem _ hc))
        fun c hc d hd => trans c (List.mem_cons_of_mem _ hc) d (List.mem_cons_of_mem _ hd)⟩
      rcases List.mem_cons.1 ((topInsert_perm f a l).mem_iff.1 hc) with rfl | hc
      · exact hba
      · exact hb c hc

/-- What is kept of the entries `seen`: as many as fit, in order, and before every entry left out. -/
structure KeepsFirst (f : Nat × Nat → Nat × Nat → Bool) (k : Nat) (best seen : List (Nat × Nat)) : Prop where
  length : best.length = min k seen.length
  order : best.Pairwise fun a b => f a b = true
  mem : ∀ a ∈ best, a ∈ seen
  full : ∀ a ∈ seen, a ∉ best → best.length = k
  first : ∀ a ∈ seen, a ∉ best → ∀ b ∈ best, f b a = true

/-- One more entry. -/
theorem KeepsFirst.snoc {best seen : List (Nat × Nat)} {a : Nat × Nat} (h : KeepsFirst f k best seen)
    (trans : ∀ x ∈ seen ++ [a], ∀ y ∈ seen ++ [a], ∀ z ∈ seen ++ [a], f x y = true → f y z = true → f x z = true)
    (irrefl : f a a = false) (total : ∀ b ∈ seen, f a b = true ∨ f b a = true) :
    KeepsFirst f k ((topInsert f a best).take k) (seen ++ [a]) := by
  have perm := topInsert_perm f a best
  have cut := List.take_append_drop k (topInsert f a best)
  have old {b : Nat × Nat} (hb : b ∈ best) : b ∈ seen ++ [a] := List.mem_append_left _ (h.mem b hb)
  have inserted {b : Nat × Nat} (hb : b ∈ topInsert f a best) : b = a ∨ b ∈ best := List.mem_cons.1 (perm.mem_iff.1 hb)
  have ordered : (topInsert f a best).Pairwise fun x y => f x y = true :=
    topInsert_pairwise h.order (fun b hb => total b (h.mem b hb))
      fun b hb c hc => trans a (by simp) b (old hb) c (old hc)
  have before : ∀ b ∈ (topInsert f a best).take k, ∀ c ∈ (topInsert f a best).drop k, f b c = true := by
    rw [← cut] at ordered
    exact (List.pairwise_append.1 ordered).2.2
  have size : (topInsert f a best).length = best.length + 1 := perm.length_eq
  -- an entry left out is dropped now, or was left out before
  have left {c : Nat × Nat} (hc : c ∈ seen ++ [a]) (out : c ∉ (topInsert f a best).take k) :
      c ∈ (topInsert f a best).drop k ∨ (c ∈ seen ∧ c ∉ best) := by
    by_cases hins : c ∈ topInsert f a best
    · rw [← cut] at hins
      exact .inl ((List.mem_append.1 hins).resolve_left out)
    · have hne : c ≠ a := fun e => hins (perm.mem_iff.2 (e ▸ List.mem_cons_self ..))
      exact .inr ⟨by simpa [hne] using hc, fun g => hins (perm.mem_iff.2 (List.mem_cons_of_mem _ g))⟩
  refine ⟨?_, ordered.sublist (List.take_sublist k _), fun b hb => ?_, fun c hc out => ?_, fun c hc out b hb => ?_⟩
  · rw [List.length_take, size, List.length_append, List.length_singleton, h.length]
    omega
  · rcases inserted (List.mem_of_mem_take hb) with rfl | hb
    · simp
    · exact old hb
  · rw [List.length_take, size]
    rcases left hc out with hd | ⟨hs, hb⟩
    · have := List.length_pos_of_mem hd
      rw [List.length_drop, size] at this
      omega
    · rw [h.full c hs hb]
      omega
  · rcases left hc out with hd | ⟨hs, hnb⟩
    · exact before b hb c hd
    rcases inserted (List.mem_of_mem_take hb) with rfl | hbb
    · -- the list was full: the entry it drops for `b` comes after `b` and before `c`
      obtain ⟨d, hd⟩ : ∃ d, d ∈ (topInsert f b best).drop k := by
        refine List.exists_mem_of_length_pos ?_
        rw [List.length_drop, size, h.full c hs hnb]
        omega
      have hbd := before b hb d hd
      rcases inserted (List.mem_of_mem_drop hd) with rfl | hdb
      · rw [irrefl] at hbd; contradiction
      · exact trans b (by simp) d (old hdb) c hc hbd (h.first c hs hnb d hdb)
    · exact h.first c hs hnb b hbb

/-- The entries kept of a list without duplicates, under an order that is strict and total on it. -/
theorem keepsFirst_topK (l : List (Nat × Nat)) (distinct : l.Nodup)
    (trans : ∀ a ∈ l, ∀ b ∈ l, ∀ c ∈ l, f a b = true → f b c = true → f a c = true) (irrefl : ∀ a ∈ l, f a a = false)
    (total : ∀ a ∈ l, ∀ b ∈ l, a ≠ b → f a b = true ∨ f b a = true) : KeepsFirst f k (topK f k l) l := by
  suffices fold : ∀ rest seen best, seen ++ rest = l → KeepsFirst f k best seen →
      KeepsFirst f k (rest.foldl (fun best a => (topInsert f a best).take k) best) l from
    fold l [] [] rfl ⟨by simp, List.Pairwise.nil, by simp, by simp, by simp⟩
  intro rest
  induction rest with
  | nil =>
    intro seen best e h
    rw [List.append_nil] at e
    exact e ▸ h
  | cons a rest ih =>
    intro seen best e h
    have e' : (seen ++ [a]) ++ rest = l := by rw [List.append_assoc]; exact e
    have sub {b : Nat × Nat} (hb : b ∈ seen ++ [a]) : b ∈ l := e' ▸ List.mem_append_left _ hb
    have fresh : a ∉ seen := fun g => (List.nodup_append.1 (e ▸ distinct)).2.2 a g a (List.mem_cons_self ..) rfl
    exact ih _ _ e' (h.snoc (fun x hx y hy z hz => trans x (sub hx) y (sub hy) z (sub hz)) (irrefl a (sub (by simp)))
      fun b hb => total a (sub (by simp)) b (sub (List.mem_append_left _ hb)) fun g => fresh (g ▸ hb))

end Filter

/-- Settles O49: the fold of `topK` keeps the first entries of what it has seen. -/
theorem filtersKeepTheFirst : Obligations.FiltersKeepTheFirst := by
  unfold Obligations.FiltersKeepTheFirst
  intro f k l distinct trans irrefl total
  obtain ⟨length, order, mem, -, first⟩ := keepsFirst_topK (k := k) l distinct trans irrefl total
  exact ⟨length, order, mem, first⟩

/-! ### The engine of a new chain (R98, R149, R341, R344) -/

theorem engineOpen_iff (p : Press) (e : Nat) : p.engineOpen e = true ↔
    p.fenced.getLsbD e = false ∧ p.mustSweep.getLsbD e = false ∧ (p.chains.any fun c => c.engine == e && c.stopped) = false := by
  simp only [Press.engineOpen, Bool.and_eq_true, Bool.not_eq_true', and_assoc]

/-- The engine chosen is the first of the four that is open and has the bands. -/
theorem engineFor_eq_find {s : State} {p : Press} {z : Seed} {e : Nat} (h : s.engineFor p z = some e) :
    ((List.range 4).find? fun e => p.engineOpen e && decide (s.bandsUsed p e + s.chainBands z ≤ 16)) = some e :=
  (Option.ite_none_left_eq_some.1 h).2

/-- Settles O52: what the first engine found has, and what those below it lack. -/
theorem chainsStartOnOpenEngines : Obligations.ChainsStartOnOpenEngines := by
  unfold Obligations.ChainsStartOnOpenEngines
  intro s p z e h
  obtain ⟨he, hin, hbelow⟩ := List.find?_range_eq_some.1 (engineFor_eq_find h)
  simp only [Bool.and_eq_true, decide_eq_true_eq] at he
  obtain ⟨hfence, hsweep, -⟩ := (engineOpen_iff p e).1 he.1
  refine ⟨List.mem_range.1 hin, hfence, hsweep, he.2, fun k hk => ?_⟩
  have := hbelow k hk
  simpa [Nat.not_le] using this

end Sys2Proof.Machine
end

section
/-! Rules kept by registers, events, keys, managers and the flash map (R9, R374, R381 to R385, R326, R354, R70, R74). -/

namespace Sys2Proof.Machine

/-! ### Registers that refuse a write, and those that take one (R9, R374) -/

section Registers
variable {s t : State} {c : Ctx} {a : Nat}

/-- A write of one register that changes nothing and answers `code`. -/
theorem exec_csrWrite_refused {v : Word} {code : Nat} (h : s.starts t c (Cmd.f 0x0011 Legal.C) Target.none)
    (hw : t.csrWrite a v.toNat = (t, code)) (hc : code ≠ 0) :
    exec (.csrWrite c [(a, v)]) s = .next (t.reply c 0x0011 St.CSR_REFUSED [.num code]) := by
  have run : exec (.csrWrite c [(a, v)]) s = .next _ := congrArg Host.Outcome.next (nirod_starts _ c _ _ _ s t h)
  rw [run, csrWriteBody_one, hw, dropTrays_of_same t t rfl rfl, if_neg hc]
  rfl

/-- LOCK is bit 0 of its register. -/
theorem locked_of_odd (h : t.reg (lockOf a) % 2 = 1) : t.locked a = true := by
  simp [State.locked, bit, h]

theorem reg_setReg_same {v : Nat} (hv : v < 2 ^ 32) : (s.setReg a v).reg a = v := by
  simp only [State.reg, setReg_fields, NMap.look_put, BitVec.toNat_ofNat, Nat.mod_eq_of_lt hv]

theorem reg_setReg_ne {b v : Nat} (hb : b ≠ a) : (s.setReg a v).reg b = s.reg b := by
  simp only [State.reg, setReg_fields, NMap.look_put_ne _ _ _ _ hb]

end Registers

/-- Settles O10: the three refusals of a write, and what a stored register reads. -/
theorem registersKeepTheirRules : Obligations.RegistersKeepTheirRules := by
  unfold Obligations.RegistersKeepTheirRules
  refine ⟨fun s t c a v mask r h hk hlock => ?_, fun s t c a v h hk => ?_, fun s t c a v sc h hk => ?_,
    fun s a b v hv => ⟨reg_setReg_same hv, reg_setReg_ne⟩⟩
  · exact exec_csrWrite_refused h (by simp [State.csrWrite, hk, locked_of_odd hlock]) (by decide)
  · exact exec_csrWrite_refused h (by simp [State.csrWrite, hk]) (by decide)
  · exact exec_csrWrite_refused h (by simp [State.csrWrite, hk]) (by decide)

/-! ### Priorities and raises (R381 to R385) -/

theorem foldl_min_le {α : Type} (f : α → Nat) (l : List α) (m : Nat) :
    l.foldl (fun m x => min m (f x)) m ≤ m ∧ ∀ x ∈ l, l.foldl (fun m x => min m (f x)) m ≤ f x := by
  induction l generalizing m with
  | nil => simp
  | cons y l ih =>
    obtain ⟨hm, hl⟩ := ih (min m (f y))
    rw [List.foldl_cons]
    refine ⟨by omega, fun x hx => ?_⟩
    rcases List.mem_cons.1 hx with rfl | hx
    · omega
    · exact hl x hx

/-- A target's current priority is no more than any GROUP it holds. -/
theorem currentOf_le {s : State} {k e g : Nat} (h : (e, g) ∈ s.heldBy k) : s.currentOf k ≤ g :=
  (foldl_min_le Prod.snd (s.heldBy k) 256).2 (e, g) h

theorem eligible_spec {s : State} {ev k : Nat} (h : s.eligible ev k = true) :
    s.targetPresent k = true ∧ (s.source ev).targets.getLsbD k = true ∧ s.groupOf ev < s.currentOf k
      ∧ s.groupOf ev < s.threshold k / 2 ^ s.prigroup := by
  simp only [State.eligible, Bool.and_eq_true, decide_eq_true_eq] at h
  exact ⟨h.1.1.1.1, h.1.1.1.2, h.1.1.2, h.1.2⟩

/-- What logging and waking leave of the event controller, the pins, the clock and the pool's bytes. -/
structure EventsKept (s t : State) : Prop where
  sources : t.ev.sources = s.ev.sources
  offers : t.ev.offers = s.ev.offers
  subs : t.ev.subs = s.ev.subs
  pins : t.pins = s.pins
  clk : t.clk = s.clk
  mem : t.pool.mem = s.pool.mem

theorem EventsKept.refl (s : State) : EventsKept s s := ⟨rfl, rfl, rfl, rfl, rfl, rfl⟩

theorem EventsKept.trans {s t u : State} (a : EventsKept s t) (b : EventsKept t u) : EventsKept s u :=
  ⟨b.sources.trans a.sources, b.offers.trans a.offers, b.subs.trans a.subs, b.pins.trans a.pins, b.clk.trans a.clk,
    b.mem.trans a.mem⟩

theorem EventsKept.source {s t : State} (h : EventsKept s t) (k : Nat) : t.source k = s.source k := by
  simp only [State.source, h.sources, h.pins]

theorem eventsKept_logEvent (ev u d : Nat) (s : State) : EventsKept s (s.logEvent ev u d) := by
  unfold State.logEvent
  dsimp only
  split <;> exact ⟨rfl, rfl, rfl, rfl, rfl, rfl⟩

/-- Of a full log the oldest record goes; the new one is the last. -/
theorem logEvent_getLast (ev u d : Nat) (s : State) :
    (s.logEvent ev u d).ev.log.getLast? = some { ev := ev, unit := u, timeNs := s.clk.timeNs, detail := d } := by
  unfold State.logEvent
  dsimp only
  split <;> simp

theorem resumeLeases_kept (s : State) : EventsKept s s.resumeLeases ∧ s.resumeLeases.ev = s.ev := by
  unfold State.resumeLeases
  split <;> exact ⟨⟨rfl, rfl, rfl, rfl, rfl, rfl⟩, rfl⟩

theorem enter_kept (d : DevState) (s : State) : EventsKept s (s.enter d) ∧ (s.enter d).ev = s.ev := by
  unfold State.enter
  split <;> exact ⟨⟨rfl, rfl, rfl, rfl, rfl, rfl⟩, rfl⟩

theorem standbyExit_kept (cause : Bool × Bool × Bool × Nat) (s : State) :
    EventsKept s (s.standbyExit cause) ∧ (s.standbyExit cause).ev.log = s.ev.log := by
  obtain ⟨r, re⟩ := resumeLeases_kept s
  obtain ⟨e, ee⟩ := enter_kept s.resumeLeases.dev.resume s.resumeLeases
  refine ⟨(r.trans e).trans ⟨rfl, rfl, rfl, rfl, rfl, rfl⟩, ?_⟩
  exact (congrArg Evc.log ee).trans (congrArg Evc.log re)

theorem wakeOn_kept (ev : Nat) (s : State) : EventsKept s (s.wakeOn ev) ∧ (s.wakeOn ev).ev.log = s.ev.log := by
  unfold State.wakeOn
  dsimp only
  split
  · split
    · exact standbyExit_kept _ s
    · exact ⟨⟨rfl, rfl, rfl, rfl, rfl, rfl⟩, rfl⟩
  · exact ⟨EventsKept.refl s, rfl⟩

theorem source_modSource (ev k : Nat) (f : Source → Source) (s : State) :
    (s.modSource ev f).source k = if k = ev then f (s.source ev) else s.source k := by
  by_cases h : k = ev
  · subst h
    simp [State.source, State.modSource]
  · simp [State.source, State.modSource, NMap.look_put_ne _ _ _ _ h, h]

/-- A raise is the PENDING bit, the record from event 24 up, and the wake. -/
theorem raise_kept (ev u d : Nat) (s : State) :
    EventsKept (s.modSource ev fun x => { x with pending := true }) (s.raise ev u d) := by
  unfold State.raise
  dsimp only
  refine EventsKept.trans ?_ (wakeOn_kept ev _).1
  split
  · exact eventsKept_logEvent _ _ _ _
  · exact EventsKept.refl _

theorem raise_getLast {ev : Nat} (u d : Nat) (s : State) (h : 24 ≤ ev) :
    (s.raise ev u d).ev.log.getLast? = some { ev := ev, unit := u, timeNs := s.clk.timeNs, detail := d } := by
  unfold State.raise
  dsimp only
  rw [if_pos h, (wakeOn_kept ev _).2, logEvent_getLast]
  rfl

/-- Settles O16: the conjuncts of `eligible`, and what a raise changes. -/
theorem eventsFollowPriority : Obligations.EventsFollowPriority := by
  unfold Obligations.EventsFollowPriority
  refine ⟨fun s ev k h => ?_, fun s ev u d => ?_⟩
  · obtain ⟨present, target, current, threshold⟩ := eligible_spec h
    exact ⟨present, target, fun e g hg => Nat.lt_of_lt_of_le current (currentOf_le hg), threshold⟩
  · have h := raise_kept ev u d s
    refine ⟨?_, fun k hk => ?_, h.offers, h.subs, h.mem, raise_getLast u d s⟩
    · rw [h.source, source_modSource, if_pos rfl]
    · rw [h.source, source_modSource, if_neg hk]

/-! ### EXPEL and READMIT without a quorum (R354) -/

/-- The quorum is checked after the target, the LINK_ID and the expiry, and before anything is applied. -/
theorem expelCheck_noQuorum {s : State} {r : ExpelReq} (a : Nat) (hn : r.node ≤ 0xFFF)
    (hown : s.topo.assigned = true → r.node ≠ s.topo.node) (hid : r.linkId ≠ s.linkId) (hlo : s.clk.timeNs ≤ r.expiry)
    (hhi : r.expiry ≤ s.clk.timeNs + 60000000000) (hq : s.validSigners r.sigs < s.ft.quorum) :
    expelCheck a r s = some (fail St.BAD_SIGNATURE (s.bump Reg.SE_CNT_AUTH_FAIL)) := by
  unfold expelCheck
  rw [if_neg (by omega), if_neg (fun h => hown h.1 h.2), if_neg hid, if_neg (by omega), if_pos (.inr hq)]

/-- Settles O25: EXPEL and READMIT both end at the quorum. -/
theorem expelNeedsQuorum : Obligations.ExpelNeedsQuorum := by
  unfold Obligations.ExpelNeedsQuorum
  refine ⟨fun s t c r h hn hown hid hlo hhi hq => ?_, fun s t c r h hn hown hid hlo hhi hq => ?_⟩
  · have run : exec (.expel c r) s = .next _ := congrArg Host.Outcome.next (nirod_starts _ c _ _ _ s t h)
    rw [run, expelCheck_noQuorum 0 hn hown hid hlo hhi hq]
    rfl
  · have run : exec (.readmit c r) s = .next _ := congrArg Host.Outcome.next (nirod_starts _ c _ _ _ s t h)
    rw [run, expelCheck_noQuorum 1 hn hown hid hlo hhi hq]
    rfl

end Sys2Proof.Machine
end

section
/-! Zeroisation (R326, R331), leases and drain windows (R286 to R292), the sheaf map and the superblocks (R70, R74). -/

namespace Sys2Proof

variable {α : Type}

theorem NMap.mem_of_look {m : NMap α} {k : Nat} {v : α} (h : m.look k = some v) : (k, v) ∈ m := by
  induction m with
  | nil => contradiction
  | cons p m ih =>
    obtain ⟨j, w⟩ := p
    rw [NMap.look] at h
    split at h
    · next e => cases h; cases e; exact List.mem_cons_self ..
    · exact List.mem_cons_of_mem _ (ih h)

/-- The entries of a changed map. -/
theorem NMap.mem_change {m : NMap α} {k : Nat} {f : α → α} {p : Nat × α} (h : p ∈ m.change k f) :
    p ∈ m ∨ ∃ v, (k, v) ∈ m ∧ p = (k, f v) := by
  unfold NMap.change at h
  split at h
  · next v hv =>
    rcases NMap.mem_put m k (f v) p h with e | hm
    · exact .inr ⟨v, NMap.mem_of_look hv, e⟩
    · exact .inl hm
  · exact .inl h

/-- A property of every entry that the change keeps. -/
theorem NMap.forall_change {m : NMap α} {k : Nat} {f : α → α} {P : α → Prop} (hf : ∀ v, P v → P (f v))
    (h : ∀ p ∈ m, P p.2) : ∀ p ∈ m.change k f, P p.2 := by
  intro p hp
  rcases NMap.mem_change hp with hp | ⟨v, hv, rfl⟩
  · exact h p hp
  · exact hf v (h _ hv)

theorem NMap.has_iff_mem_keys (m : NMap α) (k : Nat) : m.has k = true ↔ k ∈ m.keys := by
  induction m with
  | nil => simp [NMap.has, NMap.keys]
  | cons p m ih =>
    obtain ⟨j, w⟩ := p
    simp only [NMap.has, NMap.keys] at ih
    simp only [NMap.has, NMap.look, NMap.keys, List.map_cons, List.mem_cons]
    by_cases e : j = k
    · simp [e]
    · rw [if_neg e, ih]
      simp [Ne.symm e]

theorem NMap.keys_del (m : NMap α) (k : Nat) : (m.del k).keys = m.keys.erase k := by
  induction m with
  | nil => rfl
  | cons p m ih =>
    obtain ⟨j, w⟩ := p
    simp only [NMap.keys] at ih
    simp only [NMap.del, NMap.keys, List.map_cons, List.erase_cons, beq_iff_eq]
    split
    · rfl
    · rw [List.map_cons, ih]

end Sys2Proof

namespace Sys2Proof.Machine

/-! ### Zeroisation (R326, R331) -/

theorem unsubscribe_nirod (k : Nat) (s : State) : (s.unsubscribe k).nirod = s.nirod := by
  unfold State.unsubscribe
  split <;> rfl

theorem endSession_sessions (i : Nat) (s : State) : (s.endSession i).nirod.sessions = s.nirod.sessions.del i := by
  unfold State.endSession
  simp only [modNirod_fields, foldl_frame State.nirod _ fun s k => unsubscribe_nirod k s]

/-- A session that is not kept is ended as often as its number is listed. -/
theorem count_endSessions {keep : Option Nat} {i : Nat} (hi : keep ≠ some i) (l : List Nat) (s : State) :
    (l.foldl (fun s i => if keep = some i then s else s.endSession i) s).nirod.sessions.keys.count i
      = s.nirod.sessions.keys.count i - l.count i := by
  induction l generalizing s with
  | nil => rfl
  | cons j l ih =>
    rw [List.foldl_cons, ih, List.count_cons]
    by_cases hk : keep = some j
    · have hji : (j == i) = false := beq_false_of_ne fun e => hi (e ▸ hk)
      rw [if_pos hk, hji]
      rfl
    · rw [if_neg hk, endSession_sessions, NMap.keys_del, List.count_erase]
      by_cases hji : j = i
      · subst hji; simp only [beq_self_eq_true, if_true]; omega
      · simp [hji]

theorem keeps_sendRouteUpdate (a : Nat) (l : List Nat) (s : State) : Keeps s (s.sendRouteUpdate a l) := by
  unfold State.sendRouteUpdate
  refine Keeps.ite (Keeps.refl s) (Keeps.foldl _ (fun s lp => ?_) _ s)
  exact Keeps.ite ((keeps_enqueue _ _ s).trans (keeps_bumpBy _ _ _)) (keeps_enqueue _ _ s)

theorem keeps_announceRoutes (s : State) : Keeps s s.announceRoutes := by
  have marked : Keeps s { s with topo := s.topo } := Keeps.refl s
  exact (Keeps.trans (by constructor <;> rfl) (keeps_sendRouteUpdate 0 _ _)).trans (keeps_sendRouteUpdate 1 _ _)

/-- No logical port holds a link key. -/
def Unkeyed (s : State) : Prop := ∀ q ∈ s.links, q.2.cryptOn = false

theorem unkeyed_modPort {s : State} {p : Nat} {f : LPort → LPort} (hf : ∀ l, (f l).cryptOn = l.cryptOn) (h : Unkeyed s) :
    Unkeyed (s.modPort p f) :=
  NMap.forall_change (P := fun l => l.cryptOn = false) (m := s.links) (fun l hl => (hf l).trans hl) h

theorem Unkeyed.ite {b : Prop} [Decidable b] {u v : State} (hu : Unkeyed u) (hv : Unkeyed v) :
    Unkeyed (if b then u else v) := by
  split <;> assumption

theorem unkeyed_setOvfFull {s : State} (d : Nat) (b : Bool) (h : Unkeyed s) : Unkeyed (s.setOvfFull d b) :=
  Unkeyed.ite h h

theorem unkeyed_checkSpillLimit {s : State} (c : Nat) (h : Unkeyed s) : Unkeyed (s.checkSpillLimit c) := by
  unfold State.checkSpillLimit
  split
  · exact h
  · exact Unkeyed.ite (Unkeyed.ite h h) h

theorem unkeyed_enqueue {s : State} (lp : Nat) (p : Packet) (h : Unkeyed s) : Unkeyed (s.enqueue lp p) := by
  unfold State.enqueue
  split
  · exact h
  · rename_i l _
    dsimp only
    have woken : Unkeyed (if l.st = .fallow && !l.waking then
        (s.modPort lp fun l => { l with waking := true }).emit (.linkCtl lp 5 0) else s) :=
      Unkeyed.ite (unkeyed_modPort (fun _ => rfl) h) h
    split
    · exact unkeyed_modPort (fun _ => rfl) woken
    · refine Unkeyed.ite (unkeyed_checkSpillLimit _ ?_) ?_
      all_goals exact unkeyed_modPort (fun _ => rfl) (Unkeyed.ite (unkeyed_setOvfFull _ _ woken) woken)

theorem unkeyed_sendRouteUpdate {s : State} (a : Nat) (l : List Nat) (h : Unkeyed s) : Unkeyed (s.sendRouteUpdate a l) := by
  unfold State.sendRouteUpdate
  split
  · exact h
  · generalize s.livePeers = ports
    induction ports generalizing s with
    | nil => exact h
    | cons p ports ih =>
      refine ih ?_
      dsimp only
      split
      · exact unkeyed_enqueue _ _ h
      · exact unkeyed_enqueue _ _ h

theorem unkeyed_announceRoutes {s : State} (h : Unkeyed s) : Unkeyed s.announceRoutes :=
  unkeyed_sendRouteUpdate 1 _ (unkeyed_sendRouteUpdate 0 _ h)

theorem unkeyed_dropLinkKeys (s : State) : Unkeyed s.dropLinkKeys := by
  refine unkeyed_announceRoutes fun q hq => ?_
  obtain ⟨p, -, rfl⟩ := List.mem_map.1 hq
  rfl

theorem keeps_dropLinkKeys (s : State) : Keeps s s.dropLinkKeys :=
  Keeps.trans (by constructor <;> rfl) (keeps_announceRoutes _)

/-- Settles O24: each kind of key in turn, then the sessions, of which only the one kept is not ended. -/
theorem zeroiseLeavesNoKey : Obligations.ZeroiseLeavesNoKey := by
  unfold Obligations.ZeroiseLeavesNoKey
  intro s keep
  refine ⟨congrArg Sec.chainKey (keeps_dropLinkKeys _).sec, fun q hq => ?_, unkeyed_dropLinkKeys _, fun i hi => ?_⟩
  · obtain ⟨p, -, rfl⟩ := List.mem_map.1 hq
    rfl
  · refine Classical.byContradiction fun hk => ?_
    have gone := count_endSessions hk s.nirod.sessions.keys s
    rw [Nat.sub_self] at gone
    have kept : (s.zeroise keep).nirod.sessions = (s.nirod.sessions.keys.foldl
        (fun s i => if keep = some i then s else s.endSession i) s).nirod.sessions :=
      congrArg Nirod.sessions (keeps_dropLinkKeys _).nirod
    rw [NMap.has_iff_mem_keys, kept] at hi
    exact List.count_eq_zero.1 gone hi

/-! ### Leases and drain windows (R286 to R292) -/

section Leases
variable {s : State} {h p : Nat} {y : Comp} {m : Member}

theorem exec_compLeaseExpiry_active (hy : s.comp h = some y) (ha : y.state = .active) (hp : s.dev.pausedAt = none) :
    exec (.compLeaseExpiry h) s = .next ((s.advanceTo y.leaseEnd).expireComp h) := by
  change execCompLeaseExpiry h s = _
  simp [execCompLeaseExpiry, hy, ha, hp]

/-- A member's lease ends at its time: outside a drain window it unbinds the member, inside one it is marked (R289). -/
theorem exec_memberLeaseExpiry_active (hy : s.comp h = some y) (hm : (y.members.find? fun m => m.lport == p) = some m)
    (ha : y.state = .active) (hp : s.dev.pausedAt = none) (hl : m.lapsed = false) :
    exec (.memberLeaseExpiry h p) s = .next (if y.windowOpen then (s.advanceTo m.leaseEnd).modComp h fun y => { y with
      members := y.members.map fun m => if m.lport = p then { m with lapsed := true } else m }
      else (s.advanceTo m.leaseEnd).expireMember h p) := by
  change execMemberLeaseExpiry h p s = _
  simp [execMemberLeaseExpiry, hy, hm, ha, hp, hl]

theorem exec_drainWindowClose_noneLapsed {n : Nat} {z : Comp} (hy : s.comp h = some y) (hn : y.windowEnd = some n)
    (hz : (((s.advanceTo n).abortOldEpoch h).modComp h fun y => { y with windowEnd := none, prevMap := [] }).comp h = some z)
    (hl : (z.members.all fun m => !m.lapsed) = true) :
    exec (.drainWindowClose h) s = .next
      (((s.advanceTo n).abortOldEpoch h).modComp h fun y => { y with windowEnd := none, prevMap := [] }) := by
  have none_lapsed : z.members.filter Member.lapsed = [] :=
    List.filter_eq_nil_iff.2 fun m hm => by simpa using List.all_eq_true.1 hl m hm
  change execDrainWindowClose h s = _
  simp only [execDrainWindowClose, hy, Option.bind_some, hn, hz, none_lapsed, List.foldl_nil]

end Leases

theorem comp_modComp_same (h : Nat) (f : Comp → Comp) (s : State) : (s.modComp h f).comp h = (s.comp h).map f :=
  NMap.look_change _ _ _

theorem comp_modComp_ne {h k : Nat} (f : Comp → Comp) (s : State) (hk : k ≠ h) : (s.modComp h f).comp k = s.comp k :=
  NMap.look_change_ne _ _ _ _ hk

/-- Settles O28: the three timers, then what a map change does to its composition and to others. -/
theorem leasesAndWindowsComplete : Obligations.LeasesAndWindowsComplete := by
  unfold Obligations.LeasesAndWindowsComplete
  refine ⟨fun s h y hy ha hp => exec_compLeaseExpiry_active hy ha hp, fun s h p y m hy hm ha hp hl hw => ?_,
    fun s h p y m hy hm ha hp hl hw => ?_, ?_, fun s h y hy he => ⟨?_, fun k hk => ?_, rfl⟩⟩
  · rw [exec_memberLeaseExpiry_active hy hm ha hp hl, if_neg (by simp [hw])]
  · rw [exec_memberLeaseExpiry_active hy hm ha hp hl, if_pos hw]
  · rintro s t h n y z hy hn rfl hz hl
    exact exec_drainWindowClose_noneLapsed hy hn hz hl
  · simp only [State.mapChange, State.bumpComp, State.bumpCompBy, comp_modComp_same, hy, Option.map_some]
    exact ⟨_, rfl, Nat.mod_eq_of_lt he, rfl, rfl, rfl⟩
  · simp only [State.mapChange, State.bumpComp, State.bumpCompBy, comp_modComp_ne _ _ hk]

end Sys2Proof.Machine
end

section
/-! The sheaf map and the choice of superblocks (R70, R74). -/

namespace Sys2Proof.Machine

theorem mem_insertAsc {n k : Nat} (l : List Nat) : k ∈ insertAsc n l ↔ k = n ∨ k ∈ l := by
  induction l with
  | nil => simp [insertAsc]
  | cons m l ih =>
    unfold insertAsc
    split
    · simp
    · split
      · next e => subst e; simp
      · simp only [List.mem_cons, ih]; exact or_left_comm

/-! ### Trays and superblocks after a change -/

section Trays
variable {s : State} {t : Nat}

theorem tray_modTray_same (f : Tray → Tray) (ht : t < 24) : (s.modTray t f).tray t = f (s.tray t) := by
  simp [State.modTray, State.tray, ht]

theorem tray_modTray_ne {k : Nat} (f : Tray → Tray) (hk : k ≠ t) : (s.modTray t f).tray k = s.tray k := by
  unfold State.modTray
  split
  · simp [State.tray, NMap.look_put_ne _ _ _ _ hk]
  · rfl

theorem sb_put (r : Tray) (n k : Nat) (b : Superblock) :
    ({ r with sbs := r.sbs.put n b } : Tray).sb k = if k = n then b else r.sb k := by
  by_cases h : k = n
  · subst h; simp [Tray.sb]
  · simp [Tray.sb, NMap.look_put_ne _ _ _ _ h, h]

/-- One superblock of one tray changes. -/
theorem sb_modSb (n : Nat) (f : Superblock → Superblock) (k j : Nat) (ht : t < 24) :
    ((s.modSb t n f).tray k).sb j = if k = t ∧ j = n then f ((s.tray t).sb n) else (s.tray k).sb j := by
  unfold State.modSb
  by_cases hk : k = t
  · subst hk
    rw [tray_modTray_same _ ht, sb_put]
    simp
  · rw [tray_modTray_ne _ hk, if_neg fun h => hk h.1]

/-- What does not touch a tray's superblocks. -/
theorem sb_modTray {f : Tray → Tray} (hf : ∀ r, (f r).sbs = r.sbs) (k j : Nat) :
    ((s.modTray t f).tray k).sb j = (s.tray k).sb j := by
  unfold State.modTray
  split
  · by_cases hk : k = t
    · subst hk; simp [State.tray, Tray.sb, hf]
    · simp [State.tray, NMap.look_put_ne _ _ _ _ hk]
  · rfl

end Trays

/-! ### The map after a program (R70) -/

theorem modTray_fmap (t : Nat) (f : Tray → Tray) (s : State) : (s.modTray t f).fmap = s.fmap := by
  unfold State.modTray
  split <;> rfl

/-- The map's entry of a sheaf after a change to one that is not the blank entry. -/
theorem mapEntry_modMap {s : State} {n : Nat} {f : MapEntry → MapEntry} (h : f (s.mapEntry n) ≠ MapEntry.blank) (k : Nat) :
    (s.modMap n f).mapEntry k = if k = n then f (s.mapEntry n) else s.mapEntry k := by
  unfold State.modMap
  dsimp only
  rw [if_neg h]
  by_cases hk : k = n
  · subst hk; simp [State.mapEntry]
  · simp [State.mapEntry, NMap.look_put_ne _ _ _ _ hk, hk]

section MapTo
variable {s : State} {t n sb slot : Nat}

/-- A program marks the sheaf's old slot stale, where it has one. -/
def State.staleOld (n : Nat) (s : State) : State :=
  if (s.mapEntry n).valid then
    s.modSb (s.mapEntry n).tray (s.mapEntry n).sb fun b => { b with valid := b.valid.filter (· != n) }
  else s

theorem staleOld_mapEntry (k : Nat) : (s.staleOld n).mapEntry k = s.mapEntry k := by
  have h : (s.staleOld n).fmap = s.fmap := by
    unfold State.staleOld
    split
    · exact modTray_fmap _ _ _
    · rfl
  simp only [State.mapEntry, h]

/-- It marks the new slot valid, and counts. -/
def State.programmed (t n sb : Nat) (s : State) : State :=
  ((s.staleOld n).modSb t sb fun b => { b with valid := insertAsc n b.valid }).modTray t fun r => { r with
    writeSeq := r.writeSeq + 1, sinceCkpt := r.sinceCkpt + 1 }

theorem mapTo_eq (s : State) (t n sb slot : Nat) : s.mapTo t n sb slot = (s.programmed t n sb).modMap n fun m => { m with
    valid := true, tray := t, sb := sb, slot := slot } := rfl

theorem programmed_mapEntry (k : Nat) : (s.programmed t n sb).mapEntry k = s.mapEntry k := by
  have h : (s.programmed t n sb).fmap = (s.staleOld n).fmap := (modTray_fmap _ _ _).trans (modTray_fmap _ _ _)
  rw [State.mapEntry, h]
  exact staleOld_mapEntry k

/-- The entry of the sheaf names the slot that was written; no other entry changes. -/
theorem mapTo_mapEntry (k : Nat) : (s.mapTo t n sb slot).mapEntry k =
    if k = n then { s.mapEntry n with valid := true, tray := t, sb := sb, slot := slot } else s.mapEntry k := by
  have used (m : MapEntry) : ({ m with valid := true, tray := t, sb := sb, slot := slot } : MapEntry) ≠ MapEntry.blank :=
    fun e => Bool.noConfusion (congrArg MapEntry.valid e)
  rw [mapTo_eq, mapEntry_modMap (used _), programmed_mapEntry, programmed_mapEntry]

/-- The superblocks after a program. -/
theorem mapTo_sb (ht : t < 24) (k j : Nat) : ((s.mapTo t n sb slot).tray k).sb j =
    if k = t ∧ j = sb then { ((s.staleOld n).tray t).sb sb with valid := insertAsc n (((s.staleOld n).tray t).sb sb).valid }
    else ((s.staleOld n).tray k).sb j := by
  have counted : ((s.programmed t n sb).tray k).sb j =
      (((s.staleOld n).modSb t sb fun b => { b with valid := insertAsc n b.valid }).tray k).sb j :=
    sb_modTray (f := fun r => { r with writeSeq := r.writeSeq + 1, sinceCkpt := r.sinceCkpt + 1 }) (fun _ => rfl) k j
  exact counted.trans (sb_modSb sb (fun b => { b with valid := insertAsc n b.valid }) k j ht)

theorem staleOld_sb (hv : (s.mapEntry n).valid = true) (ht : (s.mapEntry n).tray < 24) :
    (((s.staleOld n).tray (s.mapEntry n).tray).sb (s.mapEntry n).sb).valid.contains n = false := by
  unfold State.staleOld
  rw [if_pos hv, sb_modSb _ _ _ _ ht, if_pos ⟨rfl, rfl⟩]
  simp

end MapTo

/-! ### The superblock to open (R74) -/

/-- The better of two candidates: the lower erase count, then the lower number. -/
def sbBetter (b : Option (Nat × Nat)) (q : Nat × Nat) : Option (Nat × Nat) :=
  match b with
  | none => some q
  | some p => if q.2 < p.2 ∨ (q.2 = p.2 ∧ q.1 < p.1) then some q else some p

/-- No worse: a lower erase count, or the same and no higher number. -/
def SbNoWorse (p q : Nat × Nat) : Prop := p.2 < q.2 ∨ (p.2 = q.2 ∧ p.1 ≤ q.1)

theorem SbNoWorse.trans {a b c : Nat × Nat} (h : SbNoWorse a b) (g : SbNoWorse b c) : SbNoWorse a c := by
  unfold SbNoWorse at *
  omega

theorem sbBetter_some (p q : Nat × Nat) :
    ∃ r, sbBetter (some p) q = some r ∧ (r = p ∨ r = q) ∧ SbNoWorse r p ∧ SbNoWorse r q := by
  unfold sbBetter SbNoWorse
  dsimp only
  split
  · exact ⟨q, rfl, .inr rfl, by omega, by omega⟩
  · exact ⟨p, rfl, .inl rfl, by omega, by omega⟩

/-- The best of a list, starting from `p`, is one of them and no worse than any. -/
theorem foldl_sbBetter_some (l : List (Nat × Nat)) (p : Nat × Nat) :
    ∃ r, l.foldl sbBetter (some p) = some r ∧ (r = p ∨ r ∈ l) ∧ SbNoWorse r p ∧ ∀ q ∈ l, SbNoWorse r q := by
  induction l generalizing p with
  | nil => exact ⟨p, rfl, .inl rfl, .inr ⟨rfl, Nat.le_refl _⟩, by simp⟩
  | cons x l ih =>
    obtain ⟨y, hy, from_, yp, yx⟩ := sbBetter_some p x
    obtain ⟨r, hr, hin, ry, rl⟩ := ih y
    refine ⟨r, by rw [List.foldl_cons, hy, hr], ?_, ry.trans yp, fun q hq => ?_⟩
    · rcases hin with rfl | h
      · exact from_.imp id fun (h : r = x) => h ▸ List.mem_cons_self ..
      · exact .inr (List.mem_cons_of_mem _ h)
    · rcases List.mem_cons.1 hq with rfl | hq
      · exact ry.trans yx
      · exact rl q hq

theorem foldl_sbBetter {l : List (Nat × Nat)} {r : Nat × Nat} (h : l.foldl sbBetter none = some r) :
    r ∈ l ∧ ∀ q ∈ l, SbNoWorse r q := by
  cases l with
  | nil => contradiction
  | cons p l =>
    obtain ⟨x, hx, hin, hp, hl⟩ := foldl_sbBetter_some l p
    obtain rfl : x = r := Option.some.inj (hx.symm.trans h)
    refine ⟨hin.elim (fun e => e ▸ List.mem_cons_self ..) (List.mem_cons_of_mem _), fun q hq => ?_⟩
    rcases List.mem_cons.1 hq with rfl | hq
    · exact hp
    · exact hl q hq

/-- The free superblocks that the tray has used, with their erase counts, after one that it has not. -/
def Tray.sbChoices (t : Tray) : List (Nat × Nat) :=
  (((List.range (t.sbs.length + 1)).find? fun n => !t.sbs.has n && decide (n + 2 < t.goodSb)).map fun n => (n, 0)).toList
    ++ (t.sbs.filter fun q => t.sbFree q.1).map fun q => (q.1, q.2.erases)

theorem pickSb_eq (t : Tray) : t.pickSb = (t.sbChoices.foldl sbBetter none).map Prod.fst := rfl

/-- A choice is an unused superblock with no erasure, or a free one with its count. -/
theorem mem_sbChoices {t : Tray} {q : Nat × Nat} (h : q ∈ t.sbChoices) :
    (t.sbs.has q.1 = false ∧ q.2 = 0) ∨ (t.sbFree q.1 = true ∧ ∃ b, (q.1, b) ∈ t.sbs ∧ q.2 = b.erases) := by
  rcases List.mem_append.1 h with h | h
  · obtain ⟨n, hn, rfl⟩ := Option.map_eq_some_iff.1 (Option.mem_toList.1 h)
    have := List.find?_some hn
    simp only [Bool.and_eq_true, Bool.not_eq_true'] at this
    exact .inl ⟨this.1, rfl⟩
  · obtain ⟨p, hp, rfl⟩ := List.mem_map.1 h
    obtain ⟨hin, hfree⟩ := List.mem_filter.1 hp
    exact .inr ⟨hfree, p.2, hin, rfl⟩

/-- The erase count of a choice is its superblock's. -/
theorem sbChoices_erases {t : Tray} (distinct : ∀ p ∈ t.sbs, t.sbs.look p.1 = some p.2) {q : Nat × Nat}
    (h : q ∈ t.sbChoices) : (t.sb q.1).erases = q.2 := by
  rcases mem_sbChoices h with ⟨hnone, h0⟩ | ⟨-, b, hb, he⟩
  · simp only [NMap.has, Option.isSome_eq_false_iff, Option.isNone_iff_eq_none] at hnone
    simp [Tray.sb, hnone, h0, Superblock.fresh]
  · simp [Tray.sb, distinct _ hb, he]

/-- Settles O57: the map and the superblocks of `mapTo`, and the fold of `pickSb`. -/
theorem flashKeepsItsRules : Obligations.FlashKeepsItsRules := by
  unfold Obligations.FlashKeepsItsRules
  refine ⟨fun s t n sb slot m ht hm hmt => ?_, fun t n hn distinct => ?_⟩
  · have entry : s.mapEntry n = m := by simp [State.mapEntry, hm]
    refine ⟨by rw [mapTo_mapEntry, if_pos rfl], by rw [mapTo_mapEntry, if_pos rfl], by rw [mapTo_mapEntry, if_pos rfl],
      by rw [mapTo_mapEntry, if_pos rfl], ?_, fun hv hne => ?_, fun k hk => by rw [mapTo_mapEntry, if_neg hk]⟩
    · rw [mapTo_sb ht, if_pos ⟨rfl, rfl⟩]
      simp [mem_insertAsc]
    · subst entry
      rw [mapTo_sb ht, if_neg fun h => hne (Prod.ext h.1 h.2)]
      exact staleOld_sb hv hmt
  · obtain ⟨q, hq, rfl⟩ := Option.map_eq_some_iff.1 (pickSb_eq t ▸ hn)
    obtain ⟨hin, best⟩ := foldl_sbBetter hq
    refine ⟨fun hhas => ?_, fun k b hk hfree => ?_⟩
    · rcases mem_sbChoices hin with ⟨hno, -⟩ | ⟨hfree, -⟩
      · rw [hhas] at hno; contradiction
      · exact hfree
    · rw [sbChoices_erases distinct hin]
      refine best (k, b.erases) (List.mem_append_right _ (List.mem_map.2 ⟨(k, b), ?_, rfl⟩))
      exact List.mem_filter.2 ⟨NMap.mem_of_look hk, hfree⟩

end Sys2Proof.Machine
end

section
/-! Flits and their acknowledgements (R257 to R260). -/

namespace Sys2Proof.Machine

section Flits
variable {s t u : State} {p : Nat} {l m : LPort}

theorem portIs_iff {st : LkState} (hl : s.links.look p = some l) : s.portIs p st = true ↔ l.st = st := by
  simp [State.portIs, hl]

theorem links_modPort_same (f : LPort → LPort) (hl : s.links.look p = some l) :
    (s.modPort p f).links.look p = some (f l) := by
  simp [State.modPort, NMap.look_change, hl]

/-! ### Replays (R258, R259) -/

theorem replay_sends (hl : s.links.look p = some l) (hout : l.flitsOut ≠ 0)
    (hn : l.replays < s.field Reg.LK_REPLAY_CFG 15 8) :
    s.replay p = ((s.bumpPort p Reg.LK_CNT_REPLAYS).modPort p fun l => { l with
      replays := l.replays + 1, replaying := true }).linkSend p 7 l.txAcked := by
  rw [State.replay, hl]
  exact (if_neg hout).trans (if_neg (Nat.not_le.2 hn))

theorem takeNak_replays (hl : s.links.look p = some l) (hr : l.replaying = false) : s.takeNak p = s.replay p := by
  rw [State.takeNak, hl]
  exact if_neg (by simp [hr])

/-- An acknowledgement starts no replay. -/
theorem takeAck_replaying (k : Nat) (hr : l.replaying = false) : (l.takeAck k).replaying = false := by
  by_cases hd : l.flitsOut ≤ (k + 4096 - l.txAcked) % 4096
  · rwa [LPort.takeAck, if_pos hd]
  · rw [LPort.takeAck, if_neg hd]

theorem sendNak_sends (hl : s.links.look p = some l) (hn : l.nakSent = false) :
    s.sendNak p = (s.modPort p fun l => { l with nakSent := true }).linkSend p 0 ((l.rxSeq + 4095) % 4096) := by
  rw [State.sendNak, hl]
  exact if_neg (by simp [hn])

/-- The flits up to the acknowledged one leave the replay buffer. -/
theorem takeAck_releases {a : Nat} (hseq : l.txSeq < 4096) (hacked : l.txAcked < 4096) (ha : a < 4096)
    (hd : (a + 4096 - l.txAcked) % 4096 < l.flitsOut) :
    (l.takeAck a).flitsOut = l.flitsOut - ((a + 4096 - l.txAcked) % 4096 + 1)
      ∧ (l.takeAck a).txSeq = l.txSeq ∧ (l.takeAck a).replays = 0 ∧ (l.takeAck a).credits = l.credits := by
  rw [LPort.takeAck]
  simp only [if_neg (Nat.not_le.2 hd), and_self, and_true]
  simp only [LPort.flitsOut] at hd ⊢
  omega

/-! ### The commands of flits -/

theorem exec_dataFlitReceive_next {f : Trailer} {ps : List Packet} (hg : s.flitGood p f = (true, t))
    (hu : u = (t.takeFields p f).modPort p (fun l => { l with fallowReq := false })) (hl : u.links.look p = some l)
    (hup : l.st = .up) (hseq : f.seq = l.rxSeq) (hrole : l.role ≠ .analysis) :
    exec (.dataFlitReceive p f ps) s = .next (((u.modPort p fun l => { l with
      rxSeq := (l.rxSeq + 1) % 4096, nakSent := false }).linkSend p 1 l.rxSeq).modPort p fun l => { l with
        ingress := l.ingress ++ ps.map fun q => { q with hdr := { q.hdr with lport := p } } }) := by
  subst hu
  change execDataFlitReceive p f ps s = _
  simp only [execDataFlitReceive, hg, Bool.not_true, Bool.false_eq_true, if_false, hl, hup, hseq, hrole, ne_eq, not_true_eq_false]

theorem exec_dataFlitReceive_outOfOrder {f : Trailer} {ps : List Packet} (hg : s.flitGood p f = (true, t))
    (hu : u = (t.takeFields p f).modPort p (fun l => { l with fallowReq := false })) (hl : u.links.look p = some l)
    (hup : l.st = .up) (hseq : f.seq ≠ l.rxSeq) (hn : l.nakSent = false) :
    exec (.dataFlitReceive p f ps) s = .next
      ((u.modPort p fun l => { l with nakSent := true }).linkSend p 0 ((l.rxSeq + 4095) % 4096)) := by
  rw [← sendNak_sends hl hn]
  subst hu
  change execDataFlitReceive p f ps s = _
  simp only [execDataFlitReceive, hg, Bool.not_true, Bool.false_eq_true, if_false, hl, hup, hseq, ne_eq, not_true_eq_false,
    not_false_eq_true, if_true]

theorem exec_idleFlitReceive_good {f : Trailer} (hg : s.flitGood p f = (true, t)) :
    exec (.idleFlitReceive p f) s = .next (t.takeFields p f) := by
  change execIdleFlitReceive p f s = _
  simp only [execIdleFlitReceive, hg, if_true]

theorem exec_nakReceive_replays {k : Nat} (hl : s.links.look p = some l) (hup : l.st = .up) (hr : l.replaying = false)
    (ht : t = s.modPort p (LPort.takeAck k)) (hm : t.links.look p = some m) (hout : m.flitsOut ≠ 0)
    (hn : m.replays < t.field Reg.LK_REPLAY_CFG 15 8) :
    exec (.nakReceive p k) s = .next (((t.bumpPort p Reg.LK_CNT_REPLAYS).modPort p fun l => { l with
      replays := l.replays + 1, replaying := true }).linkSend p 7 m.txAcked) := by
  subst ht
  have hm' : m = l.takeAck k := Option.some.inj (hm.symm.trans (links_modPort_same _ hl))
  have idle : m.replaying = false := hm' ▸ takeAck_replaying k hr
  rw [← replay_sends hm hout hn, ← takeNak_replays hm idle]
  change execNakReceive p k s = _
  simp only [execNakReceive, (portIs_iff hl).2 hup, hl, Option.any_some, hr, Bool.not_true, Bool.false_eq_true, if_false,
    Bool.false_and]

theorem exec_ackStallTimeout_replays (hl : s.links.look p = some l) (hup : l.st = .up) (hout : l.flitsOut ≠ 0)
    (hn : l.replays < s.field Reg.LK_REPLAY_CFG 15 8) :
    exec (.ackStallTimeout p) s = .next (((s.bumpPort p Reg.LK_CNT_REPLAYS).modPort p fun l => { l with
      replays := l.replays + 1, replaying := true }).linkSend p 7 l.txAcked) := by
  rw [← replay_sends hl hout hn]
  exact congrArg Host.Outcome.next (if_pos ((portIs_iff hl).2 hup))

theorem exec_nakResendTimeout_sends (hl : s.links.look p = some l) (hup : l.st = .up) (hn : l.nakSent = true) :
    exec (.nakResendTimeout p) s = .next (s.linkSend p 0 ((l.rxSeq + 4095) % 4096)) := by
  change execNakResendTimeout p s = _
  simp only [execNakResendTimeout, hl, hup, hn, and_self, if_true]

end Flits

/-- Settles O36: the flits received, the replays asked for and made, then what one acknowledgement releases. -/
theorem flitsComplete : Obligations.FlitsComplete := by
  unfold Obligations.FlitsComplete
  refine ⟨fun _ _ _ _ _ _ _ hg hu hl hup hseq hrole => exec_dataFlitReceive_next hg hu hl hup hseq hrole,
    fun _ _ _ _ _ _ _ hg hu hl hup hseq hn => exec_dataFlitReceive_outOfOrder hg hu hl hup hseq hn,
    fun _ _ _ _ hg => exec_idleFlitReceive_good hg,
    fun _ _ _ _ _ _ hl hup hr ht hm hout hn => exec_nakReceive_replays hl hup hr ht hm hout hn,
    fun _ _ _ hl hup hout hn => exec_ackStallTimeout_replays hl hup hout hn,
    fun _ _ _ hl hup hn => exec_nakResendTimeout_sends hl hup hn,
    fun _ _ hseq hacked ha hd => takeAck_releases hseq hacked ha hd⟩

end Sys2Proof.Machine
end

section
/-! Switching: egress, the escape channels, spilled blocks, shapers, samples and furrow slots (R229 to R242). -/

namespace Sys2Proof.Machine

section Queues
variable {l : LPort}

theorem queue_modQueue_same (q : Nat) (f : Queue → Queue) : (l.modQueue q f).queue q = f (l.queue q) := by
  simp [LPort.modQueue, LPort.queue]

theorem queue_modQueue_ne {q j : Nat} (f : Queue → Queue) (h : j ≠ q) : (l.modQueue q f).queue j = l.queue j := by
  simp [LPort.modQueue, LPort.queue, NMap.look_put_ne _ _ _ _ h]

/-- A change of each queue of a list without repeats changes each of them once. -/
theorem queue_foldl_modQueue (f : Queue → Queue) (qs : List Nat) (q : Nat) (hqs : qs.Nodup) (l : LPort) :
    (qs.foldl (fun l q => l.modQueue q f) l).queue q = if q ∈ qs then f (l.queue q) else l.queue q := by
  induction qs generalizing l with
  | nil => rfl
  | cons j qs ih =>
    rw [List.nodup_cons] at hqs
    rw [List.foldl_cons, ih hqs.2]
    by_cases e : q = j
    · subst e
      rw [if_neg hqs.1, queue_modQueue_same, if_pos List.mem_cons_self]
    · simp only [queue_modQueue_ne f e, List.mem_cons, e, false_or]

/-- A shaper's refill (R236, R237). -/
theorem refill_eq (x : Queue) : x.refill = { x with
    bucketOn := x.shapeOn
    tokens := if !x.shapeOn then 0 else if !x.bucketOn then x.burst else min (x.tokens + x.rate) x.burst } := by
  rfl

end Queues

section Switching
variable {s t : State} {p q : Nat} {l m : LPort} {k : Packet}

/-! ### Egress (R229, R234, R235) -/

theorem exec_egressSend_prio {t0 : Nat} {esc : Bool} {rest : List (Packet × Nat × Bool)} (hl : s.links.look p = some l)
    (hup : l.st = .up) (hhold : l.holdOff = false) (hreq : l.fallowReq = false) (hprio : l.prio = (k, t0, esc) :: rest)
    (hmay : s.maySend l (vcOf k.opcode + (if esc then 4 else 0)) k = true) (hrun : l.prioRun = 0)
    (hwin : l.flitsOut < 256 * l.width) :
    exec (.egressSend p) s = .next ((s.modPort p fun l => { l with prio := rest, prioRun := 3 }).launch p
      (vcOf k.opcode + (if esc then 4 else 0)) k) := by
  have first : (l.prio.findIdx? fun x => s.maySend l (vcOf x.1.opcode + (if x.2.2 then 4 else 0)) x.1) = some 0 := by
    rw [hprio, List.findIdx?_cons, if_pos hmay]
  have open_ : ¬ (l.st ≠ .up ∨ l.holdOff = true ∨ l.fallowReq = true) := by simp [hup, hhold, hreq]
  change execEgressSend p s = _
  simp only [execEgressSend, hl, if_neg open_, first, hrun, beq_self_eq_true, decide_true, Bool.true_or, Bool.and_self,
    Bool.not_true, Bool.false_and, Bool.false_eq_true, if_false, if_neg (Nat.not_le.2 hwin), if_true]
  rw [hprio]

theorem exec_egressSend_queue {t0 : Nat} {rest : List (Packet × Nat)} (hl : s.links.look p = some l)
    (hup : l.st = .up) (hhold : l.holdOff = false) (hreq : l.fallowReq = false) (hprio : l.prio = [])
    (hany : ((List.range 16).any fun q => s.queueEligible l q) = true) (hwin : l.flitsOut < 256 * l.width)
    (hdrr : s.drr 400 l = (some q, m)) (hq : (m.queue q).packets = (k, t0) :: rest) :
    exec (.egressSend p) s = .next
      (((s.modPort p fun _ => { m.modQueue q (fun x => { x with
          packets := rest
          deficit := if rest.isEmpty then 0 else x.deficit - k.size
          tokens := if x.bucketOn then x.tokens - k.size else x.tokens }) with prioRun := m.prioRun - 1 }).launch p (q % 2) k).checkSpillLimit
        k.hdr.compId) := by
  have open_ : ¬ (l.st ≠ .up ∨ l.holdOff = true ∨ l.fallowReq = true) := by simp [hup, hhold, hreq]
  have no_prio : ((none : Option Nat) == some 0) = false := rfl
  change execEgressSend p s = _
  simp only [execEgressSend, hl, if_neg open_, hprio, List.findIdx?_nil, no_prio, Bool.false_and, hany, Bool.not_false,
    Bool.not_true, Bool.and_false, Bool.false_eq_true, if_false, if_neg (Nat.not_le.2 hwin), hdrr, hq]
  rfl

/-! ### The escape channels and spilled blocks (R231, R242) -/

theorem exec_escapeWaitExpiry_moves {v : Nat} {x : LPort} {r : Route} (hl : s.links.look p = some l) (hc : l.credit v < 1)
    (hv : v < 2)
    (hhead : ((List.range 8).findSome? fun i => ((l.queue (2 * i + v)).packets.head?).map fun y => (2 * i + v, y.1))
      = some (q, k))
    (hr : s.routeFor k.hdr.dst = some r) (hesc : r.esc ≠ 0xFF) (hx : s.links.look r.esc = some x) (hup : x.st = .up) :
    exec (.escapeWaitExpiry p v) s = .next
      (((s.modPort p fun l => l.modQueue q fun x => { x with
          packets := x.packets.drop 1, spilled := min x.spilled (x.packets.length - 1) }).modPort r.esc fun l => { l with
            prio := l.prio ++ [(k, s.clk.timeNs, true)] }).bump Reg.SW_CNT_ESCAPE) := by
  change execEscapeWaitExpiry p v s = _
  simp only [execEscapeWaitExpiry, hl, if_neg (Int.not_le.2 hc), if_pos hv, hhead, Option.map_some, Option.orElse_some, hr,
    if_neg hesc, hx, hup, decide_true, Option.getD_some, Bool.not_true, Bool.false_eq_true, if_false]
  rfl

theorem exec_spillFetchDone_fetches {tail : List (Packet × Nat)} (hl : s.links.look p = some l) (hq : q < 16)
    (hsp : (l.queue q).spilled ≠ 0)
    (htail : tail = (l.queue q).packets.drop ((l.queue q).packets.length - (l.queue q).spilled))
    (ht : t = s.modPort p (fun l => l.modQueue q fun x => { x with spilled := x.spilled - blockPackets 0 tail })) :
    exec (.spillFetchDone p q) s = .next ((tail.map fun y => y.1.hdr.compId).eraseDups.foldl (fun s c => s.checkSpillLimit c)
      (t.setOvfFull (portDie p) (decide (16 * 2 ^ 30 ≤ t.spillOn (portDie p))))) := by
  subst ht htail
  change execSpillFetchDone p q s = _
  simp only [execSpillFetchDone, hl, if_neg (Nat.not_le.2 hq), if_neg hsp]

/-! ### Shapers, samples and furrow slots (R236 to R238) -/

/-- A port with each of its shapers' buckets refilled. -/
def LPort.refillQueues (l : LPort) : LPort := { l with queues := l.queues.each fun _ q => q.refill }

/-- A port with each of its queues sampled. -/
def LPort.sampleQueues (now : Nat) (l : LPort) : LPort :=
  (List.range 16).foldl (fun l q => l.modQueue q (Queue.sample now)) l

theorem queue_sampleQueues {now : Nat} (hq : q < 16) : (l.sampleQueues now).queue q = (l.queue q).sample now := by
  rw [LPort.sampleQueues, queue_foldl_modQueue _ _ q List.nodup_range l, if_pos (List.mem_range.2 hq)]

theorem sampleQueues_prio (now : Nat) (l : LPort) : (l.sampleQueues now).prio = l.prio :=
  foldl_frame LPort.prio (fun l q => l.modQueue q (Queue.sample now)) (fun _ _ => rfl) (List.range 16) l

theorem sampleQueues_st (now : Nat) (l : LPort) : (l.sampleQueues now).st = l.st :=
  foldl_frame LPort.st (fun l q => l.modQueue q (Queue.sample now)) (fun _ _ => rfl) (List.range 16) l

theorem look_links_each (f : LPort → LPort) (hl : s.links.look p = some l) :
    (s.links.each fun _ l => f l).look p = some (f l) := by
  rw [NMap.look_each, hl, Option.map_some]

theorem exec_shaperRefill (s : State) :
    exec .shaperRefill s = .next { s with links := s.links.each fun _ l => l.refillQueues } := rfl

theorem exec_queueSample (s : State) :
    exec .queueSample s = .next { s with links := s.links.each fun _ l => l.sampleQueues s.clk.timeNs } := rfl

theorem exec_shaperRefill_queue {x : Queue} (hl : s.links.look p = some l) (hx : l.queues.look q = some x) :
    ∃ t m, exec .shaperRefill s = .next t ∧ t.links.look p = some m ∧ m.queues.look q = some { x with
        bucketOn := x.shapeOn
        tokens := if !x.shapeOn then 0 else if !x.bucketOn then x.burst else min (x.tokens + x.rate) x.burst }
      ∧ m.credits = l.credits ∧ m.st = l.st ∧ t.cnt = s.cnt :=
  ⟨_, l.refillQueues, exec_shaperRefill s, look_links_each LPort.refillQueues hl,
    by rw [LPort.refillQueues, NMap.look_each, hx, Option.map_some, refill_eq], rfl, rfl, rfl⟩

theorem exec_queueSample_queue (hl : s.links.look p = some l) (hq : q < 16) :
    ∃ t m, exec .queueSample s = .next t ∧ t.links.look p = some m ∧ m.queue q = (l.queue q).sample s.clk.timeNs
      ∧ m.prio = l.prio ∧ m.st = l.st :=
  ⟨_, l.sampleQueues s.clk.timeNs, exec_queueSample s, look_links_each (LPort.sampleQueues s.clk.timeNs) hl,
    queue_sampleQueues hq, sampleQueues_prio .., sampleQueues_st ..⟩

/-- The owners that take effect at the frame boundary are the slots written for a composition with FURROW. -/
theorem exec_furrowSlotChange_slots (s : State) :
    ∃ t, exec .furrowSlotChange s = .next t ∧ t.sw.slot = (s.sw.slot + 1) % 64
      ∧ (t.sw.slot ≠ 0 → t.sw.furrow = s.sw.furrow)
      ∧ (t.sw.slot = 0 → ∀ n h, (n, h) ∈ t.sw.furrow ↔ n < 64 ∧ h = s.reg (Reg.FURROW_SLOT + 4 * n) % 256
          ∧ bit (s.reg (Reg.FURROW_SLOT + 4 * n)) 31 = true ∧ ((s.comp h).any Comp.furrow) = true)
      ∧ t.links = s.links ∧ t.pool = s.pool := by
  refine ⟨_, rfl, rfl, fun hne => if_neg hne, fun hz n h => ?_, rfl, rfl⟩
  refine (iff_of_eq (congrArg ((n, h) ∈ ·) (if_pos hz))).trans ?_
  rw [List.mem_filterMap]
  constructor
  · rintro ⟨j, hj, hsome⟩
    rw [Option.ite_none_right_eq_some, Bool.and_eq_true] at hsome
    obtain ⟨⟨hbit, hcomp⟩, heq⟩ := hsome
    cases heq
    exact ⟨List.mem_range.1 hj, rfl, hbit, hcomp⟩
  · rintro ⟨hn, rfl, hbit, hcomp⟩
    exact ⟨n, List.mem_range.2 hn, if_pos (by rw [hbit, hcomp]; rfl)⟩

end Switching

/-- Settles O39: egress by priority and by deficit, the escape channel, the spilled block, then the timers. -/
theorem switchingCompletes : Obligations.SwitchingCompletes := by
  unfold Obligations.SwitchingCompletes
  exact ⟨fun _ _ _ _ _ _ _ hl hup hhold hreq hprio hmay hrun hwin =>
      exec_egressSend_prio hl hup hhold hreq hprio hmay hrun hwin,
    fun _ _ _ _ _ _ _ _ hl hup hhold hreq hprio hany hwin hdrr hq =>
      exec_egressSend_queue hl hup hhold hreq hprio hany hwin hdrr hq,
    fun _ _ _ _ _ _ _ _ hl hc hv hhead hr hesc hx hup => exec_escapeWaitExpiry_moves hl hc hv hhead hr hesc hx hup,
    fun _ _ _ _ _ _ hl hq hsp htail ht => exec_spillFetchDone_fetches hl hq hsp htail ht,
    fun _ _ _ _ _ hl hx => exec_shaperRefill_queue hl hx,
    fun _ _ _ _ hl hq => exec_queueSample_queue hl hq,
    exec_furrowSlotChange_slots⟩

end Sys2Proof.Machine
end

section
/-! Requests that wait for nothing: LOAD, STORE and the atomics (R22, R28, R186). -/

namespace Sys2Proof.Machine

section Alone
variable {s u : State} {i c e ep : Nat} {t : Step} {x : Extent} {p : Packet}

/-! ### The one step of a request -/

/-- The state in which `t` is the only step that waits. -/
def State.onlyStep (t : Step) (s : State) : State :=
  s.modTx fun x => { x with steps := [(s.tx.nextStep, t)], nextStep := s.tx.nextStep + 1 }

/-- A coherence request takes its step as it came. -/
theorem serve_coh (hsteps : u.tx.steps = []) (hx : u.extent e = some x) (hop : cohOp p.opcode = true) :
    u.serve p c e ep = (u.onlyStep (newStep p c e ep none)).settle := by
  have step : (u.addStep (newStep p c e ep none)).2 = u.onlyStep (newStep p c e ep none) := by
    simp only [State.addStep, State.onlyStep, State.modTx, hsteps, NMap.put]
  have hx' : (u.onlyStep (newStep p c e ep none)).extent e = some x := hx
  simp only [State.serve, step, hx', hop, if_true]

/-- A request whose lines T0 holds asks no tier. -/
theorem serve_ready (hsteps : u.tx.steps = []) (hx : u.extent e = some x) (hop : cohOp p.opcode = false)
    (hitems : ((leavesOf (p.hdr.addr - x.base) (requestBytes p.opcode p.hdr)).flatMap fun l =>
      u.itemsFor x l (writeClass p.opcode)) = []) :
    u.serve p c e ep = (u.onlyStep { newStep p c e ep none with ready := true, wait := .tier }).settle := by
  have step : (u.addStep (newStep p c e ep none)).2 = u.onlyStep (newStep p c e ep none) := by
    simp only [State.addStep, State.onlyStep, State.modTx, hsteps, NMap.put]
  have hx' : (u.onlyStep (newStep p c e ep none)).extent e = some x := hx
  have hitems' : ((leavesOf (p.hdr.addr - x.base) (requestBytes p.opcode p.hdr)).flatMap fun l =>
      (u.onlyStep (newStep p c e ep none)).itemsFor x l (writeClass p.opcode)) = [] := hitems
  have look : (u.onlyStep (newStep p c e ep none)).tx.steps.look u.tx.nextStep = some (newStep p c e ep none) := if_pos rfl
  simp only [State.serve, step, hx', hop, Bool.false_eq_true, if_false, hitems']
  simp only [State.askTier, State.addStep, look, List.foldl_nil, List.isEmpty_nil, if_true]
  simp only [State.modStep, State.modTx, State.onlyStep, NMap.change, NMap.look, NMap.put, if_true, Nat.lt_irrefl, if_false]
  rfl

/-- What a step that neither waits nor was refused does when it is tried, outside a domain. -/
theorem runStep_performs (hopen : u.orderOpen t = true) (hd : t.decided = none) (hi : t.items = []) (hg : t.granted = false)
    (hx : u.extent t.extent = some x) (hk : x.rekeying = false)
    (ha : u.asleep x (leavesOf (t.pkt.hdr.addr - x.base) (128 * (t.pkt.hdr.lines + 1))) = [])
    (hdom : u.domainOf t.extent = none) :
    (u.onlyStep t).runStep u.tx.nextStep = (u.onlyStep t).perform u.tx.nextStep t x := by
  have look : (u.onlyStep t).tx.steps.look u.tx.nextStep = some t := if_pos rfl
  have hopen' : (u.onlyStep t).orderOpen t = true := hopen
  have hx' : (u.onlyStep t).extent t.extent = some x := hx
  have ha' : (u.onlyStep t).asleep x (leavesOf (t.pkt.hdr.addr - x.base) (128 * (t.pkt.hdr.lines + 1))) = [] := ha
  have hdom' : (u.onlyStep t).domainOf t.extent = none := hdom
  simp only [State.runStep, look, hopen', hd, hi, hx', hk, ha', hg, hdom', Bool.not_true, Bool.false_eq_true, if_false,
    List.isEmpty_nil]

/-- The same in a domain: a coherence request goes to the home. -/
theorem runStep_coherence {d : Nat} (hopen : u.orderOpen t = true) (hd : t.decided = none) (hi : t.items = [])
    (hg : t.granted = false) (hx : u.extent t.extent = some x) (hk : x.rekeying = false)
    (ha : u.asleep x (leavesOf (t.pkt.hdr.addr - x.base) (128 * (t.pkt.hdr.lines + 1))) = [])
    (hdom : u.domainOf t.extent = some d) (hop : cohOp t.pkt.opcode = true) :
    (u.onlyStep t).runStep u.tx.nextStep = (u.onlyStep t).coherence d u.tx.nextStep t x := by
  have look : (u.onlyStep t).tx.steps.look u.tx.nextStep = some t := if_pos rfl
  have hopen' : (u.onlyStep t).orderOpen t = true := hopen
  have hx' : (u.onlyStep t).extent t.extent = some x := hx
  have ha' : (u.onlyStep t).asleep x (leavesOf (t.pkt.hdr.addr - x.base) (128 * (t.pkt.hdr.lines + 1))) = [] := ha
  have hdom' : (u.onlyStep t).domainOf t.extent = some d := hdom
  simp only [State.runStep, look, hopen', hd, hi, hx', hk, ha', hg, hdom', hop, Bool.not_true, Bool.false_eq_true, if_false,
    List.isEmpty_nil, if_true]

/-- The state that a step leaves, but for its answer. -/
structure Closes (i : Nat) (s v : State) : Prop where
  pool : v.pool = s.pool
  links : v.links = s.links
  coh : v.coh = s.coh
  steps : v.tx.steps = s.tx.steps.del i

/-- A step that ends answers its request. -/
theorem finishStep_answers (st : Nat) (data : List Byte) (hi : s.tx.steps.look i = some t) (hr : t.reclaimed = false) :
    ∃ v, s.finishStep i st data = v.respond t.pkt.opcode t.pkt.hdr st data ∧ Closes i s v := by
  simp only [State.finishStep, hi, hr, Bool.false_eq_true, and_false, if_false]
  refine ⟨_, rfl, ?_⟩
  split
  · split <;> constructor <;> rfl
  · constructor <;> rfl

/-- The only step's answer is the end of the settling. -/
theorem settle_onlyStep {st : Nat} {data : List Byte} {w : State} (ht : t.reclaimed = false)
    (hrun : (u.onlyStep t).runStep u.tx.nextStep = w.finishStep u.tx.nextStep st data)
    (hw : w.tx.steps = [(u.tx.nextStep, t)]) :
    ∃ v, (u.onlyStep t).settle = v.respond t.pkt.opcode t.pkt.hdr st data ∧ Closes u.tx.nextStep w v := by
  obtain ⟨v, hv, hc⟩ := finishStep_answers (s := w) st data (by rw [hw, NMap.look, if_pos rfl]) ht
  have steps : v.tx.steps = [] := by simp [hc.steps, hw, NMap.del]
  refine ⟨v, ?_, hc⟩
  have hend : ((u.onlyStep t).runStep u.tx.nextStep).tx.steps = [] := by
    rw [hrun, hv, (keeps_respond _ _ _ _ v).steps, steps]
  rw [settle_one _ _ t rfl hend, hrun, hv]

/-! ### Outside a coherence domain -/

/-- The step of a request that asks no tier. -/
def readyStep (p : Packet) (c e ep : Nat) : Step := { newStep p c e ep none with ready := true, wait := .tier }

/-- A request that no rule holds back is performed at once. -/
structure Unhindered (u : State) (p : Packet) (c e ep : Nat) (x : Extent) : Prop where
  steps : u.tx.steps = []
  extent : u.extent e = some x
  items : ((leavesOf (p.hdr.addr - x.base) (requestBytes p.opcode p.hdr)).flatMap fun l =>
      u.itemsFor x l (writeClass p.opcode)) = []
  opens : u.orderOpen (newStep p c e ep none) = true
  keyed : x.rekeying = false
  awake : u.asleep x (leavesOf (p.hdr.addr - x.base) (128 * (p.hdr.lines + 1))) = []
  noDomain : u.domainOf e = none
  notCoh : cohOp p.opcode = false

/-- What it answers, once its performance ends its step. -/
theorem Unhindered.serve {st : Nat} {data : List Byte} {w : State} (h : Unhindered u p c e ep x)
    (hperf : (u.onlyStep (readyStep p c e ep)).perform u.tx.nextStep (readyStep p c e ep) x
      = w.finishStep u.tx.nextStep st data)
    (hw : w.tx = (u.onlyStep (readyStep p c e ep)).tx) :
    ∃ v : State, u.serve p c e ep = v.respond p.opcode p.hdr st data ∧ v.pool = w.pool ∧ v.links = w.links := by
  have run := runStep_performs (t := readyStep p c e ep) h.opens rfl rfl rfl h.extent h.keyed h.awake h.noDomain
  obtain ⟨v, hv, hc⟩ := settle_onlyStep (t := readyStep p c e ep) rfl (run.trans hperf) (congrArg Tx.steps hw)
  exact ⟨v, (serve_ready h.steps h.extent h.notCoh h.items).trans hv, hc.pool, hc.links⟩

section Performed
variable {off n w old : Nat}

theorem perform_load {i : Nat} (hop : t.pkt.opcode = 0x01) (hp : x.poisoned (t.pkt.hdr.addr - x.base) ((t.pkt.hdr.lines + 1) * 128) = false) :
    s.perform i t x = (s.readBytes t.extent (t.pkt.hdr.addr - x.base) ((t.pkt.hdr.lines + 1) * 128)).2.finishStep i St.OK
      (s.readPool t.extent (t.pkt.hdr.addr - x.base) ((t.pkt.hdr.lines + 1) * 128)) := by
  simp only [State.perform, hop, if_true, hp, Bool.false_eq_true, if_false]
  rfl

theorem perform_store {i : Nat} (hop : t.pkt.opcode = 0x02) :
    s.perform i t x = (s.writeBytes t.extent (t.pkt.hdr.addr - x.base) t.pkt.data).finishStep i St.OK [] := by
  simp only [State.perform, hop, Nat.reduceEqDiff, if_false, if_true]

/-- What an atomic leaves in the pool: the value it computes, or an access alone where it computes none. -/
def State.atomicWrite (e off w : Nat) (z : Option Nat) (s : State) : State :=
  match z with
  | some v => s.writeBytes e off (leBytes w v)
  | none => s.touch e (off / 32768)

theorem perform_atomic {i : Nat} (hop : 0x10 ≤ t.pkt.opcode) (hw : w = if t.pkt.opcode % 2 = 0 then 4 else 8)
    (hoff : off = t.pkt.hdr.addr - x.base) (hp : x.poisoned off w = false) (hold : old = leNat (s.readPool t.extent off w)) :
    s.perform i t x = (s.atomicWrite t.extent off w (atomicNew t.pkt.opcode old (leAt t.pkt.data 0 8) (leAt t.pkt.data 8 8))).finishStep
      i St.OK (leBytes 8 old) := by
  have not_load : ¬ t.pkt.opcode = 0x01 := by omega
  have not_store : ¬ t.pkt.opcode = 0x02 := by omega
  subst hold hoff
  simp only [State.perform, if_neg not_load, if_neg not_store, ← hw, hp, Bool.false_eq_true, if_false]
  rfl

theorem serve_load (hop : p.opcode = 0x01) (hsteps : u.tx.steps = []) (hx : u.extent e = some x)
    (hoff : off = p.hdr.addr - x.base) (hn : n = (p.hdr.lines + 1) * 128)
    (hitems : ((leavesOf off n).flatMap fun l => u.itemsFor x l false) = [])
    (hopen : u.orderOpen (newStep p c e ep none) = true) (hk : x.rekeying = false) (ha : u.asleep x (leavesOf off n) = [])
    (hdom : u.domainOf e = none) (hp : x.poisoned off n = false) :
    ∃ v : State, u.serve p c e ep = v.respond 0x01 p.hdr St.OK (u.readPool e off n) ∧ v.pool.mem = u.pool.mem
      ∧ v.links = u.links := by
  subst hoff hn
  have bytes : requestBytes p.opcode p.hdr = (p.hdr.lines + 1) * 128 := by simp [requestBytes, hop]
  have reads : writeClass p.opcode = false := by simp [writeClass, hop]
  have free : Unhindered u p c e ep x := ⟨hsteps, hx, by rw [bytes, reads]; exact hitems, hopen, hk,
    by rw [Nat.mul_comm]; exact ha, hdom, by simp [cohOp, hop]⟩
  have stamps := (stamps_readBytes e (p.hdr.addr - x.base) ((p.hdr.lines + 1) * 128) (u.onlyStep (readyStep p c e ep))).2
  obtain ⟨v, hv, hpool, hlinks⟩ := free.serve (perform_load hop hp) stamps.tx
  exact ⟨v, hop ▸ hv, (congrArg Pool.mem hpool).trans stamps.mem, hlinks.trans stamps.links⟩

theorem serve_store (hop : p.opcode = 0x02) (hsteps : u.tx.steps = []) (hx : u.extent e = some x)
    (hoff : off = p.hdr.addr - x.base)
    (hitems : ((leavesOf off ((p.hdr.lines + 1) * 128)).flatMap fun l => u.itemsFor x l true) = [])
    (hopen : u.orderOpen (newStep p c e ep none) = true) (hk : x.rekeying = false)
    (ha : u.asleep x (leavesOf off ((p.hdr.lines + 1) * 128)) = []) (hdom : u.domainOf e = none) :
    ∃ v : State, u.serve p c e ep = v.respond 0x02 p.hdr St.OK []
      ∧ v.pool.mem = cellWrites u.pool.mem (poolAddr x.store off) p.data ∧ v.links = u.links := by
  subst hoff
  have bytes : requestBytes p.opcode p.hdr = (p.hdr.lines + 1) * 128 := by simp [requestBytes, hop]
  have writes : writeClass p.opcode = true := by simp [writeClass, hop]
  have free : Unhindered u p c e ep x := ⟨hsteps, hx, by rw [bytes, writes]; exact hitems, hopen, hk,
    by rw [Nat.mul_comm]; exact ha, hdom, by simp [cohOp, hop]⟩
  obtain ⟨hmem, hlinks, htx, -⟩ :=
    writeBytes_mem e (p.hdr.addr - x.base) p.data (u.onlyStep (readyStep p c e ep)) x hx
  obtain ⟨v, hv, hpool, hl⟩ := free.serve (perform_store hop) htx
  exact ⟨v, hop ▸ hv, (congrArg Pool.mem hpool).trans hmem, hl.trans hlinks⟩

theorem serve_atomic (hlo : 0x10 ≤ p.opcode) (hhi : p.opcode ≤ 0x19) (hsteps : u.tx.steps = []) (hx : u.extent e = some x)
    (hoff : off = p.hdr.addr - x.base) (hw : w = if p.opcode % 2 = 0 then 4 else 8)
    (hitems : ((leavesOf off w).flatMap fun l => u.itemsFor x l true) = [])
    (hopen : u.orderOpen (newStep p c e ep none) = true) (hk : x.rekeying = false)
    (ha : u.asleep x (leavesOf off (128 * (p.hdr.lines + 1))) = []) (hdom : u.domainOf e = none) (hp : x.poisoned off w = false)
    (hold : old = leNat (u.readPool e off w)) :
    ∃ v : State, u.serve p c e ep = v.respond p.opcode p.hdr St.OK (leBytes 8 old)
      ∧ v.pool.mem = (match atomicNew p.opcode old (leAt p.data 0 8) (leAt p.data 8 8) with
          | some z => cellWrites u.pool.mem (poolAddr x.store off) (leBytes w z)
          | none => u.pool.mem) := by
  subst hoff
  have bytes : requestBytes p.opcode p.hdr = w := by
    rw [requestBytes, if_neg (by omega), if_pos ⟨hlo, hhi⟩, hw]
  have writes : writeClass p.opcode = true := by simp [writeClass, hlo, hhi]
  have free : Unhindered u p c e ep x := ⟨hsteps, hx, by rw [bytes, writes]; exact hitems, hopen, hk, ha, hdom,
    by simp [cohOp]; omega⟩
  have perf := perform_atomic (s := u.onlyStep (readyStep p c e ep)) (i := u.tx.nextStep) (t := readyStep p c e ep)
    hlo hw rfl hp hold
  change (u.onlyStep (readyStep p c e ep)).perform u.tx.nextStep (readyStep p c e ep) x = ((u.onlyStep (readyStep p c e ep)).atomicWrite
    e (p.hdr.addr - x.base) w (atomicNew p.opcode old (leAt p.data 0 8) (leAt p.data 8 8))).finishStep u.tx.nextStep St.OK (leBytes 8 old) at perf
  cases hz : atomicNew p.opcode old (leAt p.data 0 8) (leAt p.data 8 8) with
  | none =>
    have stamps := stamps_touch e ((p.hdr.addr - x.base) / 32768) (u.onlyStep (readyStep p c e ep))
    obtain ⟨v, hv, hpool, -⟩ := free.serve (hz ▸ perf) stamps.tx
    exact ⟨v, hv, (congrArg Pool.mem hpool).trans stamps.mem⟩
  | some z =>
    obtain ⟨hmem, -, htx, -⟩ :=
      writeBytes_mem e (p.hdr.addr - x.base) (leBytes w z) (u.onlyStep (readyStep p c e ep)) x hx
    obtain ⟨v, hv, hpool, -⟩ := free.serve (hz ▸ perf) htx
    exact ⟨v, hv, (congrArg Pool.mem hpool).trans hmem⟩

end Performed

end Alone

/-- Settles O41: the way in, then LOAD, STORE and the atomics. -/
theorem requestsReadAndWriteThePool : Obligations.RequestsReadAndWriteThePool := by
  unfold Obligations.RequestsReadAndWriteThePool
  exact ⟨fun s p => (keeps_ingress p s).pool,
    fun _ _ _ _ _ _ _ _ hop hsteps hx hoff hn hitems hopen hk ha hdom hp =>
      serve_load hop hsteps hx hoff hn hitems hopen hk ha hdom hp,
    fun _ _ _ _ _ _ _ hop hsteps hx hoff hitems hopen hk ha hdom =>
      serve_store hop hsteps hx hoff hitems hopen hk ha hdom,
    fun _ _ _ _ _ _ _ _ _ hlo hhi hsteps hx hoff hw hitems hopen hk ha hdom hp hold =>
      serve_atomic hlo hhi hsteps hx hoff hw hitems hopen hk ha hdom hp hold⟩

end Sys2Proof.Machine
end

section
/-! Coherence requests at the home, and the answers to its snoops (R208 to R219). -/

namespace Sys2Proof.Machine

section Home
variable {s u : State} {d c e ep : Nat} {x : Extent} {dm : Domain}

/-! ### Requests -/

/-- A coherence request that passes its checks is served. -/
theorem cohRequest_serves {p : Packet} (hin : s.ingress p = (u, some c)) (hep : u.epochFor c p.hdr.epoch = some ep)
    (hmap : u.mapExtent c ep p.hdr.addr 128 = some e) (href : u.extentRefuses 0x01 c e p.hdr = none)
    (hdom : u.domainOf e = some d) (hdm : u.coh.look d = some dm)
    (hagent : (dm.agents.vals.any fun a => a.node == p.hdr.src) = true) (href' : u.extentRefuses p.opcode c e p.hdr = none)
    (hopen : u.lineOpen p c = false) : s.cohRequest p = u.serve p c e ep := by
  simp only [State.cohRequest, hin, hep, hmap, href, hdom, hdm, Option.any_some, hagent, href', hopen, Bool.not_true,
    Bool.false_eq_true, if_false]

/-- What the home does with a request whose line the requester owns exclusively. -/
theorem coherence_ofOwner {i r : Nat} {t : Step} {y : DirEntry} (hdm : s.coh.look d = some dm)
    (hr : (dm.agents.findKey fun _ a => a.node == t.pkt.hdr.src) = some r)
    (hbusy : dm.lineBusy (t.pkt.hdr.addr / 128) = false) (hahead : s.readAhead i t.comp (t.pkt.hdr.addr / 128) = false)
    (hy : dm.dir.look (t.pkt.hdr.addr / 128) = some y) (hst : y.state = .excl) (how : y.owner = r) :
    (t.pkt.opcode = 0x42 → s.coherence d i t x = s.finishStep i St.OK [])
    ∧ (t.pkt.opcode = 0x44 → s.coherence d i t x
        = (s.modDom d fun z => { z with dir := z.dir.del (t.pkt.hdr.addr / 128) }).finishStep i St.OK []) := by
  constructor <;> intro hop <;>
    simp only [State.coherence, hdm, hr, hbusy, hahead, hop, hy, hst, how, Bool.or_self, Bool.false_eq_true, if_false, and_self,
      if_true]

/-- Nothing reads ahead of the only step. -/
theorem readAhead_onlyStep (t : Step) (h line : Nat) : (u.onlyStep t).readAhead u.tx.nextStep h line = false := by
  simp [State.readAhead, State.onlyStep, State.modTx]

theorem coh_modDom_same (f : Domain → Domain) (h : s.coh.look d = some dm) : (s.modDom d f).coh.look d = some (f dm) := by
  simp [State.modDom, NMap.look_change, h]

theorem serve_ofOwner {p : Packet} {r : Nat} {y : DirEntry} (hsteps : u.tx.steps = []) (hx : u.extent e = some x)
    (hk : x.rekeying = false) (ha : u.asleep x (leavesOf (p.hdr.addr - x.base) (128 * (p.hdr.lines + 1))) = [])
    (hdom : u.domainOf e = some d) (hdm : u.coh.look d = some dm)
    (hr : (dm.agents.findKey fun _ a => a.node == p.hdr.src) = some r) (hbusy : dm.lineBusy (p.hdr.addr / 128) = false)
    (hy : dm.dir.look (p.hdr.addr / 128) = some y) (hst : y.state = .excl) (how : y.owner = r) :
    (p.opcode = 0x42 → ∃ v : State, u.serve p c e ep = v.respond 0x42 p.hdr St.OK [] ∧ v.coh = u.coh ∧ v.pool = u.pool)
    ∧ (p.opcode = 0x44 → ∃ (v : State) (z : Domain), u.serve p c e ep = v.respond 0x44 p.hdr St.OK [] ∧ v.coh.look d = some z
        ∧ z.dir = dm.dir.del (p.hdr.addr / 128) ∧ v.pool = u.pool) := by
  have owner := coherence_ofOwner (s := u.onlyStep (newStep p c e ep none)) (i := u.tx.nextStep) (t := newStep p c e ep none)
    (x := x) hdm hr hbusy (readAhead_onlyStep ..) hy hst how
  have run (hop : cohOp p.opcode = true) (hopen : u.orderOpen (newStep p c e ep none) = true) :=
    runStep_coherence (t := newStep p c e ep none) hopen rfl rfl rfl hx hk ha hdom hop
  constructor <;> intro hop
  · have opens : u.orderOpen (newStep p c e ep none) = true := by simp [State.orderOpen, newStep, hop, writeClass]
    have coh : cohOp p.opcode = true := by simp [cohOp, hop]
    obtain ⟨v, hv, hc⟩ := settle_onlyStep rfl ((run coh opens).trans (owner.1 hop)) rfl
    exact ⟨v, (serve_coh hsteps hx coh).trans (hop ▸ hv), hc.coh, hc.pool⟩
  · have opens : u.orderOpen (newStep p c e ep none) = true := by simp [State.orderOpen, newStep, hop, writeClass]
    have coh : cohOp p.opcode = true := by simp [cohOp, hop]
    obtain ⟨v, hv, hc⟩ := settle_onlyStep rfl ((run coh opens).trans (owner.2 hop)) rfl
    refine ⟨v, { dm with dir := dm.dir.del (p.hdr.addr / 128) }, (serve_coh hsteps hx coh).trans (hop ▸ hv), ?_, rfl, hc.pool⟩
    rw [hc.coh]
    exact coh_modDom_same _ hdm

end Home

/-! ### Answers to snoops (R215) -/

section Answers
variable {s : State} {d a line k e : Nat} {x : Domain} {q : Snoop} {b : List Byte}

/-- The domain after an answer to the snoop `q`. -/
def Domain.answered (a line : Nat) (q : Snoop) (data : List Byte) (x : Domain) : Domain := { x with
  snoops := x.snoops.erase q
  dir := x.dir.change line fun y => { y with fwdOpen := y.fwdOpen - 1 }
  agents := x.agents.change a fun g => { g with unresponsive := false }
  grants := x.grants.map fun g => if g.id = q.grant then { g with
    waiting := g.waiting - 1
    data := if data.isEmpty then g.data else data
    reclaimed := g.reclaimed || false } else g }

/-- The own requests without the one that carried the snoop `q`. -/
def ownWithout (line node kind : Nat) (own : NMap Own) : NMap Own :=
  match own.findKey fun _ o => o.purpose == 3 && o.object == line && o.pkt.hdr.dst == node && o.pkt.opcode == 0x50 + kind with
  | some tag => own.del tag
  | none => own

/-- A grant that still waits for another answer is not complete. -/
theorem answered_completes_none {data : List Byte}
    (hgrants : (x.grants.all fun g => g.id != q.grant || decide (2 ≤ g.waiting)) = true) :
    ((x.answered a line q data).grants.find? fun g => g.id == q.grant && g.waiting == 0) = none := by
  rw [List.find?_eq_none]
  intro g hg
  obtain ⟨g0, hg0, rfl⟩ := List.mem_map.1 hg
  have h0 := List.all_eq_true.1 hgrants g0 hg0
  by_cases e : g0.id = q.grant
  · simp [e] at h0 ⊢
    omega
  · simp [e]

/-- The pool after an answer that returns data of the extent `e`. -/
def State.snoopData (e : Option Nat) (line : Nat) (data : List Byte) (s : State) : State :=
  match e with
  | some e => if data.isEmpty then s else match s.extent e with
    | some y => s.writeBytes e (128 * line - y.base) data
    | none => s
  | none => s

/-- The extent of a domain that holds a line. -/
def State.extentOfLine (s : State) (line : Nat) (x : Domain) : Option Nat :=
  x.extents.find? fun e => (s.extent e).any fun y => decide (y.base ≤ 128 * line ∧ 128 * line < y.base + y.size)

/-- An answer whose grant still waits for another one changes the pool, the own requests and the domain, in this order. -/
theorem answerSnoop_open {w v : State} {data : List Byte} (hx : s.coh.look d = some x)
    (hq : (x.snoops.find? fun q => q.line == line && q.agent == a && q.kind == k) = some q)
    (hw : s.snoopData (s.extentOfLine line x) line data = w) (hsteps : w.tx.steps = []) (hcoh : w.coh = s.coh)
    (hgrants : (x.grants.all fun g => g.id != q.grant || decide (2 ≤ g.waiting)) = true)
    (hv : v = (w.modTx fun z => { z with
      own := ownWithout line (((x.agents.look a).map Agent.node).getD 0) q.kind z.own }).modDom d (Domain.answered a line q data)) :
    s.answerSnoop d a line (some k) data false = v := by
  have hx' : v.coh.look d = some (x.answered a line q data) := by
    rw [hv]
    exact coh_modDom_same _ (hcoh ▸ hx)
  have steps : v.tx.steps = [] := hv ▸ hsteps
  have tried : s.answerSnoop d a line (some k) data false = State.settle
      (match (v.coh.look d).bind fun x => x.grants.find? fun g => g.id == q.grant && g.waiting == 0 with
        | some g => v.completeGrant d g
        | none => v) := by
    rw [State.answerSnoop, hx, hv, ← hw]
    simp only [Option.all_some, hq]
    rfl
  rw [tried, hx', Option.bind_some, answered_completes_none hgrants]
  exact settle_none _ steps

theorem exec_snoopResp {i : Instr} (hi : (k, i) ∈ [(0, .snpInvalidateResp d a line b), (1, .snpShareResp d a line b),
    (2, .snpOwnResp d a line b)]) : exec i s = .next (s.answerSnoop d a line (some k) (b.take 128) false) := by
  simp only [List.mem_cons, Prod.mk.injEq, List.not_mem_nil, or_false] at hi
  obtain ⟨rfl, rfl⟩ | ⟨rfl, rfl⟩ | ⟨rfl, rfl⟩ := hi <;> rfl

/-- An answer without data leaves the pool, and closes its snoop. -/
theorem exec_snoopResp_empty {i : Instr} (hi : (k, i) ∈ [(0, .snpInvalidateResp d a line []), (1, .snpShareResp d a line []),
    (2, .snpOwnResp d a line [])]) (hx : s.coh.look d = some x)
    (hq : (x.snoops.find? fun q => q.line == line && q.agent == a && q.kind == k) = some q) (hsteps : s.tx.steps = [])
    (hown : s.tx.own = []) (hgrants : (x.grants.all fun g => g.id != q.grant || decide (2 ≤ g.waiting)) = true) :
    exec i s = .next (s.modDom d fun x => { x with
      snoops := x.snoops.erase q
      dir := x.dir.change line fun y => { y with fwdOpen := y.fwdOpen - 1 }
      agents := x.agents.change a fun g => { g with unresponsive := false }
      grants := x.grants.map fun g => if g.id = q.grant then { g with waiting := g.waiting - 1 } else g }) := by
  have same : s.snoopData (s.extentOfLine line x) line [] = s := by
    unfold State.snoopData
    split <;> rfl
  rw [exec_snoopResp hi, List.take_nil, answerSnoop_open hx hq same hsteps rfl hgrants rfl]
  have own_same : (s.modTx fun z => { z with own := ownWithout line (((x.agents.look a).map Agent.node).getD 0) q.kind z.own }) = s := by
    simp only [State.modTx, hown, ownWithout, NMap.findKey, List.find?_nil, Option.map_none]
    rw [← hown]
  rw [own_same]
  refine congrArg (fun f => Host.Outcome.next (s.modDom d f)) (funext fun x => ?_)
  simp only [Domain.answered, List.isEmpty_nil, if_true, Bool.or_false]

/-- An answer with data writes it to memory. -/
theorem exec_snoopResp_data {i : Instr} {y : Extent} (hi : (k, i) ∈ [(0, .snpInvalidateResp d a line b),
    (1, .snpShareResp d a line b), (2, .snpOwnResp d a line b)]) (hx : s.coh.look d = some x)
    (hq : (x.snoops.find? fun q => q.line == line && q.agent == a && q.kind == k) = some q)
    (he : s.extentOfLine line x = some e) (hy : s.extent e = some y) (hb : b ≠ []) (hsteps : s.tx.steps = [])
    (hgrants : (x.grants.all fun g => g.id != q.grant || decide (2 ≤ g.waiting)) = true) :
    ∃ t, exec i s = .next t ∧ t.pool.mem = cellWrites s.pool.mem (poolAddr y.store (128 * line - y.base)) (b.take 128) := by
  have some_data : (b.take 128).isEmpty = false := by simp [hb]
  have written : s.snoopData (s.extentOfLine line x) line (b.take 128)
      = s.writeBytes e (128 * line - y.base) (b.take 128) := by
    simp only [State.snoopData, he, some_data, Bool.false_eq_true, if_false, hy]
  obtain ⟨hmem, -, htx, hcoh⟩ := writeBytes_mem e (128 * line - y.base) (b.take 128) s y hy
  refine ⟨_, (exec_snoopResp hi).trans (congrArg _
    (answerSnoop_open hx hq written ((congrArg Tx.steps htx).trans hsteps) hcoh hgrants rfl)), hmem⟩

/-! ### Snoops that are not answered (R219) -/

theorem exec_snoopTimeout_retries {t : State} {tag : Nat} {o : Own} {n : Agent} {p : Packet} (hx : s.coh.look d = some x)
    (hq : (x.snoops.find? fun q => q.line == line && q.agent == a) = some q) (hn : x.agents.look a = some n)
    (htries : q.tries < s.field Reg.TX_RETRY_LIMIT 3 0)
    (ho : (s.tx.own.find? fun o => o.2.purpose == 3 && o.2.object == line && o.2.pkt.hdr.dst == n.node
      && o.2.pkt.opcode == 0x50 + q.kind) = some (tag, o))
    (hp : p = { o.pkt with hdr := ({ o.pkt.hdr with retry := true }).sealed o.pkt.opcode })
    (ht : t = (s.bumpDom d Reg.CHCNT_SNOOP_TIMEOUT).modDom d (fun x => { x with
      snoops := x.snoops.map fun y => if y = q then { y with tries := y.tries + 1 } else y })) :
    exec (.snoopTimeout d a line) s = .next
      ((t.modTx fun z => { z with own := z.own.put tag { o with pkt := p, tries := o.tries + 1 } }).route p none) := by
  subst hp ht
  have hx' : (s.bumpDom d Reg.CHCNT_SNOOP_TIMEOUT).coh.look d = some { x with cnt := addCtr x.cnt Reg.CHCNT_SNOOP_TIMEOUT 1 } :=
    coh_modDom_same _ hx
  have left : q.tries < (s.bumpDom d Reg.CHCNT_SNOOP_TIMEOUT).field Reg.TX_RETRY_LIMIT 3 0 := htries
  change execSnoopTimeout d a line s = _
  simp only [execSnoopTimeout, hx, Option.bind_some, hq, if_pos left, hx', hn, Option.map_some]
  have ho' : (((s.bumpDom d Reg.CHCNT_SNOOP_TIMEOUT).modDom d (fun x => { x with
      snoops := x.snoops.map fun y => if y = q then { y with tries := y.tries + 1 } else y })).tx.own.find? fun o =>
        o.2.purpose == 3 && o.2.object == line && some o.2.pkt.hdr.dst == some n.node && o.2.pkt.opcode == 0x50 + q.kind)
      = some (tag, o) := ho
  rw [ho']

theorem exec_snoopTimeout_last {n : Agent} (hx : s.coh.look d = some x)
    (hq : (x.snoops.find? fun q => q.line == line && q.agent == a) = some q) (hn : x.agents.look a = some n)
    (hresp : n.unresponsive = false) (htries : s.field Reg.TX_RETRY_LIMIT 3 0 ≤ q.tries) :
    exec (.snoopTimeout d a line) s = .next (((s.bumpDom d Reg.CHCNT_SNOOP_TIMEOUT).modDom d fun x => { x with
        agents := x.agents.change a fun a => { a with unresponsive := true } }).occur Ev.CH_AGENT_UNRESPONSIVE d a) := by
  have hx' : (s.bumpDom d Reg.CHCNT_SNOOP_TIMEOUT).coh.look d = some { x with cnt := addCtr x.cnt Reg.CHCNT_SNOOP_TIMEOUT 1 } :=
    coh_modDom_same _ hx
  have none_left : ¬ q.tries < (s.bumpDom d Reg.CHCNT_SNOOP_TIMEOUT).field Reg.TX_RETRY_LIMIT 3 0 := Nat.not_lt.2 htries
  change execSnoopTimeout d a line s = _
  simp only [execSnoopTimeout, hx, Option.bind_some, hq, if_neg none_left, hx', hn, Option.any_some, hresp,
    Bool.false_eq_true, if_false]

end Answers

/-- Settles O44: the requests, the owner's two, the answers without and with data, then the snoops not answered. -/
theorem coherenceCompletes : Obligations.CoherenceCompletes := by
  unfold Obligations.CoherenceCompletes
  refine ⟨fun s u h w c e ep op d x i data hi hin hep hmap href hdom hdm hagent href' hopen => ?_,
    fun _ _ _ _ _ _ _ _ _ _ hsteps hx hk ha hdom hdm hr hbusy hy hst how =>
      serve_ofOwner hsteps hx hk ha hdom hdm hr hbusy hy hst how,
    fun _ _ _ _ _ _ _ _ hi hx hq hsteps hown hgrants => exec_snoopResp_empty hi hx hq hsteps hown hgrants,
    fun _ _ _ _ _ _ _ _ _ _ _ hi hx hq he hy hb hsteps hgrants => exec_snoopResp_data hi hx hq he hy hb hsteps hgrants,
    fun _ _ _ _ _ _ _ _ _ _ _ hx hq hn htries ho hp ht => exec_snoopTimeout_retries hx hq hn htries ho hp ht,
    fun _ _ _ _ _ _ _ hx hq hn hresp htries => exec_snoopTimeout_last hx hq hn hresp htries⟩
  have served := cohRequest_serves hin hep hmap href hdom hdm hagent href' hopen
  simp only [List.mem_cons, Prod.mk.injEq, List.not_mem_nil, or_false] at hi
  obtain ⟨rfl, rfl, rfl⟩ | ⟨rfl, rfl, rfl⟩ | ⟨rfl, rfl, rfl⟩ | ⟨rfl, rfl, rfl⟩ | ⟨rfl, rfl, rfl⟩ := hi <;>
    exact congrArg Host.Outcome.next served

end Sys2Proof.Machine
end

section
/-! What the checks of R368 and a command's reply leave: everything but the control port, the event controller's subscribers and
the counters (R363 to R371). -/

namespace Sys2Proof.Machine

/-- The part of the state that only a command's own effect changes. -/
structure Core where
  fw : Firmware
  comps : NMap Comp
  pool : Pool
  image : Option SaveImage

def State.core (s : State) : Core := ⟨s.fw, s.comps, s.pool, s.image⟩

@[simp] theorem core_fields (s : State) : (⟨s.fw, s.comps, s.pool, s.image⟩ : Core) = s.core := (rfl)

theorem core_foldl {α : Type} (f : State → α → State) (h : ∀ s x, (f s x).core = s.core) (l : List α) (s : State) :
    (l.foldl f s).core = s.core :=
  foldl_frame State.core f h l s

/-! ### Operations of the control port -/

@[simp] theorem core_bump (a : Nat) (s : State) : (s.bump a).core = s.core := (rfl)
@[simp] theorem core_emit (e : Emit) (s : State) : (s.emit e).core = s.core := (rfl)
@[simp] theorem core_modNirod (f : Nirod → Nirod) (s : State) : (s.modNirod f).core = s.core := (rfl)
@[simp] theorem core_modSession (i : Nat) (f : Session → Session) (s : State) : (s.modSession i f).core = s.core := (rfl)
@[simp] theorem core_start (c : Ctx) (s : State) : (s.start c).core = s.core := (rfl)

@[simp] theorem core_unsubscribe (k : Nat) (s : State) : (s.unsubscribe k).core = s.core := by
  unfold State.unsubscribe
  split <;> rfl

@[simp] theorem core_endSession (i : Nat) (s : State) : (s.endSession i).core = s.core :=
  core_foldl _ (fun s k => core_unsubscribe k s) _ s

@[simp] theorem core_uncached (i seq op st : Nat) (s : State) : (s.uncached i seq op st).core = s.core := by
  fun_cases State.uncached i seq op st s <;> simp

@[simp] theorem core_reply (c : Ctx) (op st : Nat) (items : List Item) (s : State) : (s.reply c op st items).core = s.core := by
  fun_cases State.reply c op st items s <;> simp

@[simp] theorem core_finish (c : Ctx) (op : Nat) (r : Res) : (State.finish c op r).core = r.1.core := by
  unfold State.finish
  split <;> simp

@[simp] theorem core_stepSix (i seq op : Nat) (tg : Target) (s : State) : (s.stepSix i seq op tg).2.core = s.core := by
  fun_cases State.stepSix i seq op tg s <;> simp +zetaDelta <;> split <;> simp

/-! ### The state of a command's result -/

@[simp] theorem ok_fst (l : List Item) (s : State) : (ok l s).1 = s := (rfl)
@[simp] theorem fail_fst (st : Nat) (s : State) : (fail st s).1 = s := (rfl)
@[simp] theorem failDetail_fst (st d : Nat) (s : State) : (failDetail st d s).1 = s := (rfl)
@[simp] theorem invalid_fst (i : Nat) (s : State) : (invalid i s).1 = s := (rfl)
@[simp] theorem wait_fst (s : State) : (wait s).1 = s := (rfl)

/-! ### The checks (R368) -/

/-- What a refusal in step 8 leaves. -/
theorem core_checkComp {k : Cmd} {cls : Option Cls} {own h : Nat} {s : State} :
    ∀ r : Res, checkComp k cls own h s = some r → r.1.core = s.core := by
  intro r
  fun_cases checkComp k cls own h s <;> rintro ⟨⟩ <;> rfl

/-- Steps 7 to 11 end in the command's body, or leave the state but for counters. -/
theorem admitted_state (c : Ctx) (k : Cmd) (tg : Target) (legalNow : State → Nat) (body : State → Res) (s : State) :
    admitted c k tg legalNow body s = body s ∨ (admitted c k tg legalNow body s).1.core = s.core
      ∨ ∃ h, tg.comp = some h ∧ (admitted c k tg legalNow body s).1 = s.bumpComp h Reg.CPCNT_SUPERSEDED := by
  fun_cases admitted c k tg legalNow body s
  case case8 => exact .inl rfl
  case case4 st _ r hst _ =>
    refine .inr (.inl ?_)
    simp only [st, Option.ite_none_left_eq_some] at hst
    rw [← Option.some.inj hst.2, core_bump]
  case case5 comp _ r hr _ =>
    obtain ⟨h, -, hcheck⟩ := Option.bind_eq_some_iff.1 hr
    exact .inr (.inl (core_checkComp r hcheck))
  case case6 u _ =>
    cases hc : tg.comp with
    | none => exact .inr (.inl (by simp only [u, hc]))
    | some h => exact .inr (.inr ⟨h, rfl, by simp only [u, hc]⟩)
  all_goals exact .inr (.inl rfl)

/-- A property that the control port's own work keeps, and that the command's body keeps, holds after the command. -/
theorem nirodFull_keeps {P : State → Prop} {tg : Target} {body : State → Res} {s : State} (i : Instr) (c : Ctx) (k : Cmd)
    (legalNow : State → Nat) (hcore : ∀ u v : State, v.core = u.core → P u → P v)
    (hcomp : ∀ h u, tg.comp = some h → P u → P (u.bumpComp h Reg.CPCNT_SUPERSEDED)) (hbody : ∀ u, P u → P (body u).1) (hs : P s) :
    P (nirodFull i c k tg legalNow body s) := by
  have taken (u : State) (hu : P u) : P (State.finish c k.op (admitted c k tg legalNow body u)) := by
    refine hcore _ _ (core_finish ..) ?_
    obtain h | h | ⟨h, htg, heq⟩ := admitted_state c k tg legalNow body u
    · rw [h]
      exact hbody u hu
    · exact hcore u _ h hu
    · rw [heq]
      exact hcomp h u htg hu
  have six : (if s.waits c then (true, s) else s.stepSix c.session c.seq k.op tg).2.core = s.core := by
    split <;> simp
  have hsix := hcore s _ six hs
  fun_cases nirodFull i c k tg legalNow body s
  case case1 => exact hs
  case case4 => exact taken s hs
  case case5 => exact hsix
  case case6 => exact hcore _ _ (core_modNirod ..) hsix
  case case7 => exact taken _ (hcore _ _ (core_start ..) hsix)
  all_goals exact hcore s _ (by simp) hs

end Sys2Proof.Machine
end

section
/-! The rollback counter under the commands of an update (R399, R407, R414). -/

namespace Sys2Proof.Machine

/-- What an update leaves until it is confirmed: the rollback counter, the pool and the compositions. -/
def State.lasting (s : State) : Nat × Pool × NMap Comp := (s.fw.rollback, s.pool, s.comps)

theorem lasting_of_core {u v : State} (h : v.core = u.core) : v.lasting = u.lasting :=
  congrArg (fun k : Core => (k.fw.rollback, k.pool, k.comps)) h

@[simp] theorem lasting_bump (a : Nat) (s : State) : (s.bump a).lasting = s.lasting := (rfl)
@[simp] theorem lasting_modDev (f : Device → Device) (s : State) : (s.modDev f).lasting = s.lasting := (rfl)
@[simp] theorem lasting_drawn (s : State) : s.drawn.lasting = s.lasting := (rfl)

@[simp] theorem lasting_modFw (f : Firmware → Firmware) (s : State) (hf : (f s.fw).rollback = s.fw.rollback) :
    (s.modFw f).lasting = s.lasting :=
  congrArg (fun n => (n, s.pool, s.comps)) hf

@[simp] theorem lasting_setBank (n : Nat) (b : Bank) (s : State) : (s.setBank n b).lasting = s.lasting :=
  lasting_modFw _ s (by split <;> rfl)

@[simp] theorem lasting_journal (step path outcome unit detail : Nat) (s : State) :
    (s.journal step path outcome unit detail).lasting = s.lasting := (rfl)

@[simp] theorem lasting_enter (d : DevState) (s : State) : (s.enter d).lasting = s.lasting := by
  unfold State.enter
  split <;> rfl

@[simp] theorem lasting_addBin (id bin : Nat) (s : State) : (s.addBin id bin).lasting = s.lasting := by
  fun_cases State.addBin id bin s <;> rfl

@[simp] theorem lasting_countBoot (bin : Nat) (s : State) : (s.countBoot bin).lasting = s.lasting := lasting_addBin 0x0800 bin s

@[simp] theorem lasting_startRevert (s : State) : s.startRevert.lasting = s.lasting := by
  by_cases h : s.dev.state = .activating <;> simp [State.startRevert, h]

/-! ### The bodies of the commands (R407 to R412) -/

theorem lasting_withUpdate (h : Nat) {f : State → Res} {s : State} (hf : (f s).1.lasting = s.lasting) :
    (withUpdate h f s).1.lasting = s.lasting := by
  unfold withUpdate
  split
  · rfl
  · exact hf

/-- A command without a target whose body leaves the lasting state leaves it. -/
theorem lasting_nirod {i : Instr} {c : Ctx} {k : Cmd} {body : State → Res} (s : State)
    (hbody : ∀ u, (body u).1.lasting = u.lasting) : (nirod i c k Target.none body s).lasting = s.lasting :=
  nirodFull_keeps (P := fun u => u.lasting = s.lasting) i c k _ (fun _ _ h hu => (lasting_of_core h).trans hu)
    (fun _ _ h => nomatch h) (fun u hu => (hbody u).trans hu) rfl

section Bodies
variable {c : Ctx} {h : Nat} {s t : State}

theorem fwUpdateBegin_lasting {m : Manifest} (ht : exec (.fwUpdateBegin c m) s = .next t) : t.lasting = s.lasting := by
  cases ht
  refine lasting_nirod s fun u => ?_
  repeat' split
  all_goals simp

theorem fwUpdateBlock_lasting {k off : Nat} {d : List Byte} (ht : exec (.fwUpdateBlock c h k off d) s = .next t) :
    t.lasting = s.lasting := by
  cases ht
  refine lasting_nirod s fun u => lasting_withUpdate h ?_
  dsimp only
  repeat' split
  all_goals simp

theorem fwUpdateVerify_lasting (ht : exec (.fwUpdateVerify c h) s = .next t) : t.lasting = s.lasting := by
  cases ht
  refine lasting_nirod s fun u => lasting_withUpdate h ?_
  dsimp only
  repeat' split
  all_goals simp

theorem fwUpdateAbort_lasting (ht : exec (.fwUpdateAbort c h) s = .next t) : t.lasting = s.lasting := by
  cases ht
  refine lasting_nirod s fun u => lasting_withUpdate h ?_
  split <;> simp [State.eraseBank]

theorem fwActivate_lasting (ht : exec (.fwActivate c h) s = .next t) : t.lasting = s.lasting := by
  cases ht
  refine lasting_nirod s fun u => lasting_withUpdate h ?_
  split <;> simp

theorem fwStatus_lasting (ht : exec (.fwStatus c) s = .next t) : t.lasting = s.lasting := by
  cases ht
  exact lasting_nirod s fun u => rfl

/-- HEALTH_CONFIRM raises the counter to the running manifest's SVN, or leaves it. -/
theorem healthConfirm_rollback_le (ht : exec (.healthConfirm c) s = .next t) : s.fw.rollback ≤ t.fw.rollback := by
  cases ht
  refine nirodFull_keeps (P := fun u => s.fw.rollback ≤ u.fw.rollback) _ c _ _ (fun u v hcore hu => ?_) (fun _ _ h => nomatch h)
    (fun u hu => ?_) (Nat.le_refl _)
  · rwa [show v.fw = u.fw from congrArg Core.fw hcore]
  · split
    · exact hu
    · exact Nat.le_trans hu (Nat.le_max_left ..)

end Bodies

/-- Settles O19: HEALTH_CONFIRM by the maximum it takes, the other commands by what each leaves. -/
theorem rollbackCounterNeverFalls : Obligations.RollbackCounterNeverFalls := by
  unfold Obligations.RollbackCounterNeverFalls
  refine ⟨fun s t c i hi ht => healthConfirm_rollback_le (hi ▸ ht), fun s t c h k off d m i hi ht => ?_⟩
  have lasting : t.lasting = s.lasting := by
    simp only [List.mem_cons, List.not_mem_nil, or_false] at hi
    obtain rfl | rfl | rfl | rfl | rfl | rfl := hi
    · exact fwUpdateBegin_lasting ht
    · exact fwUpdateBlock_lasting ht
    · exact fwUpdateVerify_lasting ht
    · exact fwUpdateAbort_lasting ht
    · exact fwActivate_lasting ht
    · exact fwStatus_lasting ht
  exact ⟨congrArg Prod.fst lasting, congrArg (fun k => k.2.1.mem) lasting, congrArg (fun k => k.2.2.keys) lasting⟩

end Sys2Proof.Machine
end

section

/-! Settling O5, the machine's operations. What holds pool bytes is the pool's memory and the image that DEEP_STANDBY
keeps (`State.bytes`). An operation that writes no pool byte leaves it as it was (`bytes_f`); one that writes keeps its
canonical form (`ok_f`), because every write goes through `State.writePool` and `State.wipeStore`. The lemmas follow the
model's definitions in their order and under its headings. -/

namespace Sys2Proof.Machine

/-- What holds pool bytes: the pool's memory, and the image that DEEP_STANDBY keeps. -/
structure Bytes where
  mem : List Host.Cell
  image : Option SaveImage

def State.bytes (s : State) : Bytes := ⟨s.pool.mem, s.image⟩

/-- The canonical form of all of them. -/
def Bytes.Ok (b : Bytes) : Prop := Memory.wf b.mem = true ∧ (b.image.map fun m => Memory.wf m.pool.mem).getD true = true

theorem memOk_iff (s : State) : s.MemOk ↔ s.bytes.Ok := Iff.rfl

@[simp] theorem bytes_mk (a1 a2 a3 a4 a5 a6 a7 a8 a9 a10) (p : Pool) (b1 b2 b3 b4 b5 b6 b7 b8 b9 b10 b11 b12 b13)
    (i : Option SaveImage) (c1 c2) :
    (State.mk a1 a2 a3 a4 a5 a6 a7 a8 a9 a10 p b1 b2 b3 b4 b5 b6 b7 b8 b9 b10 b11 b12 b13 i c1 c2).bytes = ⟨p.mem, i⟩ := (rfl)

@[simp] theorem bytes_eta (s : State) : (⟨s.pool.mem, s.image⟩ : Bytes) = s.bytes := (rfl)

@[simp] theorem bytes_ite {b : Prop} [Decidable b] {s t : State} :
    (if b then s else t).bytes = if b then s.bytes else t.bytes := by
  split <;> rfl

@[simp] theorem ok_ite {b : Prop} [Decidable b] {x y : Bytes} :
    (if b then x else y).Ok ↔ if b then x.Ok else y.Ok := by
  split <;> rfl

@[simp] theorem bytes_foldl {α : Type} (f : State → α → State) (h : ∀ s x, (f s x).bytes = s.bytes) (l : List α) (s : State) :
    (l.foldl f s).bytes = s.bytes := by
  induction l generalizing s with
  | nil => rfl
  | cons x l ih => exact (ih _).trans (h s x)

theorem ok_foldl {α : Type} (f : State → α → State) (h : ∀ s x, s.bytes.Ok → (f s x).bytes.Ok) (l : List α) (s : State)
    (hs : s.bytes.Ok) : (l.foldl f s).bytes.Ok := by
  induction l generalizing s with
  | nil => exact hs
  | cons x l ih => exact ih _ (h s x hs)

/-! ### Counters -/

@[simp] theorem bytes_modComp (h : Nat) (f : Comp → Comp) (s : State) : (s.modComp h f).bytes = s.bytes := (rfl)

@[simp] theorem bytes_modPort (p : Nat) (f : LPort → LPort) (s : State) : (s.modPort p f).bytes = s.bytes := (rfl)

@[simp] theorem bytes_modPress (n : Nat) (f : Press → Press) (s : State) : (s.modPress n f).bytes = s.bytes := (rfl)

@[simp] theorem bytes_modTray (t : Nat) (f : Tray → Tray) (s : State) :
    (s.modTray t f).bytes = s.bytes := by simp [State.modTray]

@[simp] theorem bytes_modDom (d : Nat) (f : Domain → Domain) (s : State) : (s.modDom d f).bytes = s.bytes := (rfl)

@[simp] theorem bytes_modPool (f : Pool → Pool) (s : State) (h : (f s.pool).mem = s.pool.mem) :
    (s.modPool f).bytes = s.bytes := by
  simp [State.modPool, h]

@[simp] theorem bytes_modExtent (e : Nat) (f : Extent → Extent) (s : State) :
    (s.modExtent e f).bytes = s.bytes := (rfl)

@[simp] theorem bytes_modWork (f : Work → Work) (s : State) : (s.modWork f).bytes = s.bytes := (rfl)

@[simp] theorem bytes_modOp (o : Nat) (f : Op → Op) (s : State) : (s.modOp o f).bytes = s.bytes := (rfl)

@[simp] theorem bytes_modSeed (i : Nat) (f : Seed → Seed) (s : State) : (s.modSeed i f).bytes = s.bytes := (rfl)

@[simp] theorem bytes_modTx (f : Tx → Tx) (s : State) : (s.modTx f).bytes = s.bytes := (rfl)

@[simp] theorem bytes_modDev (f : Device → Device) (s : State) : (s.modDev f).bytes = s.bytes := (rfl)

@[simp] theorem bytes_modFw (f : Firmware → Firmware) (s : State) : (s.modFw f).bytes = s.bytes := (rfl)

@[simp] theorem bytes_modSw (f : Switch → Switch) (s : State) : (s.modSw f).bytes = s.bytes := (rfl)

@[simp] theorem bytes_modEv (f : Evc → Evc) (s : State) : (s.modEv f).bytes = s.bytes := (rfl)

@[simp] theorem bytes_modFt (f : Ft → Ft) (s : State) : (s.modFt f).bytes = s.bytes := (rfl)

@[simp] theorem bytes_modNirod (f : Nirod → Nirod) (s : State) : (s.modNirod f).bytes = s.bytes := (rfl)

@[simp] theorem bytes_modSession (i : Nat) (f : Session → Session) (s : State) :
    (s.modSession i f).bytes = s.bytes := (rfl)

@[simp] theorem bytes_bumpBy (a n : Nat) (s : State) : (s.bumpBy a n).bytes = s.bytes := (rfl)

@[simp] theorem bytes_bump (a : Nat) (s : State) : (s.bump a).bytes = s.bytes := (rfl)

@[simp] theorem bytes_bumpCompBy (h a n : Nat) (s : State) : (s.bumpCompBy h a n).bytes = s.bytes := (rfl)

@[simp] theorem bytes_bumpComp (h a : Nat) (s : State) : (s.bumpComp h a).bytes = s.bytes := (rfl)

@[simp] theorem bytes_bumpTrayBy (t a n : Nat) (s : State) :
    (s.bumpTrayBy t a n).bytes = s.bytes := by simp [State.bumpTrayBy]

@[simp] theorem bytes_bumpTray (t a : Nat) (s : State) : (s.bumpTray t a).bytes = s.bytes := by simp [State.bumpTray]

@[simp] theorem bytes_bumpPortBy (p a n : Nat) (s : State) : (s.bumpPortBy p a n).bytes = s.bytes := (rfl)

@[simp] theorem bytes_bumpPort (p a : Nat) (s : State) : (s.bumpPort p a).bytes = s.bytes := (rfl)

@[simp] theorem bytes_bumpDom (d a : Nat) (s : State) : (s.bumpDom d a).bytes = s.bytes := (rfl)

@[simp] theorem bytes_bumpPress (n a : Nat) (s : State) : (s.bumpPress n a).bytes = s.bytes := (rfl)

/-! ### Configuration registers -/

@[simp] theorem bytes_setReg (a v : Nat) (s : State) : (s.setReg a v).bytes = s.bytes := (rfl)

/-! ### What leaves the block -/

@[simp] theorem bytes_emit (e : Emit) (s : State) : (s.emit e).bytes = s.bytes := (rfl)

@[simp] theorem bytes_drawn (s : State) : (s.drawn).bytes = s.bytes := (rfl)

/-! ### Time and meters -/

@[simp] theorem bytes_advanceTo (t : Nat) (s : State) : (s.advanceTo t).bytes = s.bytes := by simp [State.advanceTo]

@[simp] theorem bytes_tickAon (s : State) : (s.tickAon).bytes = s.bytes := by simp [State.tickAon]

/-! ### Bytes of the pool -/

@[simp] theorem ok_writePool (e off : Nat) (b : List Byte) (s : State) (hok : s.bytes.Ok) :
    (s.writePool e off b).bytes.Ok := by
  have image : (s.writePool e off b).image = s.image := by
    unfold State.writePool
    split <;> rfl
  exact ⟨State.writePool_wf s e off b hok.1, by rw [State.bytes, image]; exact hok.2⟩

@[simp] theorem ok_wipeStore (store : Nat) (s : State) (hok : s.bytes.Ok) : (s.wipeStore store).bytes.Ok :=
  ⟨State.wipeStore_wf s store hok.1, hok.2⟩

/-! ### The event controller's shared operations -/

@[simp] theorem bytes_modSource (ev : Nat) (f : Source → Source) (s : State) :
    (s.modSource ev f).bytes = s.bytes := (rfl)

@[simp] theorem bytes_logEvent (ev unit detail : Nat) (s : State) :
    (s.logEvent ev unit detail).bytes = s.bytes := by simp [State.logEvent]

@[simp] theorem bytes_resumeLeases (s : State) : (s.resumeLeases).bytes = s.bytes := by
  unfold State.resumeLeases
  split <;> simp

@[simp] theorem bytes_enter (d : DevState) (s : State) : (s.enter d).bytes = s.bytes := by simp [State.enter]

@[simp] theorem bytes_trainAll (s : State) : (s.trainAll).bytes = s.bytes := (rfl)

@[simp] theorem bytes_standbyExit (cause : Bool × Bool × Bool × Nat) (s : State) :
    (s.standbyExit cause).bytes = s.bytes := by simp [State.standbyExit]

@[simp] theorem bytes_wakeOn (ev : Nat) (s : State) : (s.wakeOn ev).bytes = s.bytes := by simp [State.wakeOn]

@[simp] theorem bytes_raise (ev unit detail : Nat) (s : State) :
    (s.raise ev unit detail).bytes = s.bytes := by simp [State.raise]

@[simp] theorem bytes_occur (ev unit detail : Nat) (s : State) :
    (s.occur ev unit detail).bytes = s.bytes := by simp [State.occur]

/-! ### Routing (R384 to R387) -/

@[simp] theorem bytes_sendEventPacket (k ev : Nat) (s : State) : (s.sendEventPacket k ev).bytes = s.bytes := by
  unfold State.sendEventPacket
  split <;> simp

@[simp] theorem bytes_makeOffer (ev : Nat) (ks : List Nat) (s : State) :
    (s.makeOffer ev ks).bytes = s.bytes := by simp [State.makeOffer]

@[simp] theorem bytes_offerNext (s : State) : (s.offerNext).bytes = s.bytes := by
  fun_cases State.offerNext s
  all_goals simp +zetaDelta

@[simp] theorem bytes_claim (k : Nat) (ev : Option Nat) (s : State) : (s.claim k ev).2.bytes = s.bytes := by
  unfold State.claim
  split <;> simp

@[simp] theorem bytes_complete (k ev : Nat) (s : State) : (s.complete k ev).bytes = s.bytes := by
  unfold State.complete
  split <;> simp

@[simp] theorem bytes_targetGone (k : Nat) (s : State) : (s.targetGone k).bytes = s.bytes := (rfl)

@[simp] theorem bytes_unsubscribe (k : Nat) (s : State) :
    (s.unsubscribe k).bytes = s.bytes := by simp [State.unsubscribe]

/-! ### Sessions -/

@[simp] theorem bytes_endSession (i : Nat) (s : State) :
    (s.endSession i).bytes = s.bytes := by simp [State.endSession]

@[simp] theorem bytes_uncached (i seq op st : Nat) (s : State) : (s.uncached i seq op st).bytes = s.bytes := by
  unfold State.uncached
  split <;> simp

@[simp] theorem bytes_reply (c : Ctx) (op st : Nat) (items : List Item) (s : State) :
    (s.reply c op st items).bytes = s.bytes := by
  fun_cases State.reply c op st items s
  all_goals simp +zetaDelta

@[simp] theorem bytes_finish (c : Ctx) (op : Nat) (r : Res) : (State.finish c op r).bytes = r.1.bytes := by
  unfold State.finish
  split <;> simp

theorem bytes_of_core {s t : State} (h : t.core = s.core) :
    t.bytes = s.bytes := congrArg (fun k : Core => (⟨k.pool.mem, k.image⟩ : Bytes)) h

/-! ### SEQ (R366) -/

@[simp] theorem bytes_stepSix (i seq op : Nat) (tg : Target) (s : State) :
    (s.stepSix i seq op tg).2.bytes = s.bytes :=
  bytes_of_core (core_stepSix ..)

/-! ### Admission (R368) -/

@[simp] theorem bytes_start (c : Ctx) (s : State) : (s.start c).bytes = s.bytes := (rfl)

/-- A body that keeps the canonical form keeps it behind the checks of R368. -/
theorem ok_nirodFull (i : Instr) (c : Ctx) (k : Cmd) (tg : Target) (legalNow : State → Nat) {body : State → Res} {s : State}
    (hbody : ∀ u, u.bytes.Ok → (body u).1.bytes.Ok) (hok : s.bytes.Ok) : (nirodFull i c k tg legalNow body s).bytes.Ok :=
  nirodFull_keeps i c k legalNow (fun _ _ h hu => by rwa [bytes_of_core h]) (fun _ _ _ hu => by rwa [bytes_bumpComp]) hbody hok

@[simp] theorem bytes_dropDeferred (q : Nat × Instr) (s : State) : (s.dropDeferred q).bytes = s.bytes := (rfl)

theorem ok_nirod (i : Instr) (c : Ctx) (k : Cmd) (tg : Target) {body : State → Res} {s : State}
    (hbody : ∀ u, u.bytes.Ok → (body u).1.bytes.Ok) (hok : s.bytes.Ok) : (nirod i c k tg body s).bytes.Ok :=
  ok_nirodFull i c k tg (fun _ => k.legal) hbody hok

/-! ### Queues -/

@[simp] theorem bytes_checkSpillLimit (compId : Nat) (s : State) : (s.checkSpillLimit compId).bytes = s.bytes := by
  unfold State.checkSpillLimit
  split <;> simp

@[simp] theorem bytes_setOvfFull (die : Nat) (full : Bool) (s : State) :
    (s.setOvfFull die full).bytes = s.bytes := by simp [State.setOvfFull]

@[simp] theorem bytes_enqueue (lp : Nat) (p : Packet) (s : State) : (s.enqueue lp p).bytes = s.bytes := by
  fun_cases State.enqueue lp p s
  all_goals simp +zetaDelta

/-! ### Routing -/

@[simp] theorem bytes_ackTrack (lp : Nat) (p : Packet) (s : State) : (s.ackTrack lp p).bytes = s.bytes := by
  fun_cases State.ackTrack lp p s
  all_goals simp +zetaDelta

@[simp] theorem bytes_sendBy (lp : Nat) (p : Packet) (s : State) : (s.sendBy lp p).bytes = s.bytes := by
  unfold State.sendBy
  dsimp only
  split <;> simp

@[simp] theorem bytes_holdPacket (p : Packet) (s : State) : (s.holdPacket p).bytes = s.bytes := (rfl)

@[simp] theorem bytes_route (p : Packet) (excl : Option Nat) (s : State) : (s.route p excl).bytes = s.bytes := by
  simp only [State.route]
  repeat' split
  all_goals simp

/-! ### Responses (R183, R189) -/

@[simp] theorem bytes_respond (op : Nat) (h : Hdr) (st : Nat) (data : List Byte) (s : State) :
    (s.respond op h st data).bytes = s.bytes := by simp [State.respond]

@[simp] theorem bytes_respondBack (op : Nat) (h : Hdr) (st : Nat) (s : State) :
    (s.respondBack op h st).bytes = s.bytes := by
  unfold State.respondBack
  dsimp only
  split <;> simp

@[simp] theorem bytes_openOwn (purpose object : Nat) (mk : Nat → Packet) (s : State) :
    (s.openOwn purpose object mk).bytes = s.bytes := by simp [State.openOwn]

/-! ### Reachability (R274) and a port leaving UP (R261) -/

@[simp] theorem bytes_sendRouteUpdate (action : Nat) (nodes : List Nat) (s : State) :
    (s.sendRouteUpdate action nodes).bytes = s.bytes := by simp [State.sendRouteUpdate]

@[simp] theorem bytes_announceRoutes (s : State) :
    (s.announceRoutes).bytes = s.bytes := by simp [State.announceRoutes]

@[simp] theorem bytes_resend (lp : Nat) (p : Packet) (s : State) : (s.resend lp p).bytes = s.bytes := by
  unfold State.resend
  split <;> simp

@[simp] theorem bytes_leaveUp (lp : Nat) (st : LkState) (s : State) : (s.leaveUp lp st).bytes = s.bytes := by
  unfold State.leaveUp
  split <;> simp

/-! ### Field encodings of read-only registers -/

@[simp] theorem bytes_csrRead (a : Nat) (s : State) : (s.csrRead a).2.bytes = s.bytes := by
  fun_cases State.csrRead a s
  all_goals simp +zetaDelta

/-! ### Writes -/

@[simp] theorem bytes_cfgEffect (a v : Nat) (s : State) :
    (s.cfgEffect a v).bytes = s.bytes := by simp [State.cfgEffect]

@[simp] theorem bytes_setEnable (p : Nat) (e : Bool) (s : State) : (s.setEnable p e).bytes = s.bytes := by
  unfold State.setEnable
  split <;> simp

@[simp] theorem bytes_setSplit (fp n : Nat) (s : State) : (s.setSplit fp n).bytes = s.bytes := (rfl)

@[simp] theorem bytes_storePorts (s : State) : (s.storePorts).bytes = s.bytes := (rfl)

@[simp] theorem bytes_writePortCfg (v : Nat) (s : State) : (s.writePortCfg v).1.bytes = s.bytes := by
  fun_cases State.writePortCfg v s
  all_goals simp +zetaDelta

@[simp] theorem bytes_modSelQueue (f : Queue → Queue) (s : State) : (s.modSelQueue f).bytes = s.bytes := (rfl)

@[simp] theorem bytes_writeQueueReg (a v : Nat) (s : State) : (s.writeQueueReg a v).1.bytes = s.bytes := by
  fun_cases State.writeQueueReg a v s
  all_goals simp +zetaDelta

@[simp] theorem bytes_writeSrcCfg (v : Nat) (s : State) : (s.writeSrcCfg v).1.bytes = s.bytes := by
  fun_cases State.writeSrcCfg v s
  all_goals simp +zetaDelta

@[simp] theorem bytes_clearPending (v : Nat) (sameCycle : Bool) (s : State) :
    (s.clearPending v sameCycle).1.bytes = s.bytes := by
  fun_cases State.clearPending v sameCycle s
  all_goals simp +zetaDelta

@[simp] theorem bytes_writeOwn (a v : Nat) (s : State) : (s.writeOwn a v).1.bytes = s.bytes := by
  fun_cases State.writeOwn a v s <;> simp

@[simp] theorem bytes_csrWrite (a v : Nat) (s : State) : (s.csrWrite a v).1.bytes = s.bytes := by
  fun_cases State.csrWrite a v s
  all_goals simp +zetaDelta

@[simp] theorem bytes_csrWrites (l : List (Nat × Word)) (s : State) : (State.csrWrites l s).2.bytes = s.bytes := by
  induction l generalizing s with
  | nil => rfl
  | cons x l ih =>
    rw [State.csrWrites]
    exact (ih _).trans (bytes_csrWrite ..)

/-! ### Where a leaf is -/

@[simp] theorem bytes_modChunk (e c : Nat) (f : Chunk → Chunk) (s : State) :
    (s.modChunk e c f).bytes = s.bytes := (rfl)

/-! ### T0 frames (R37, R38, R43) -/

@[simp] theorem bytes_queueMove (e l : Nat) (k : MoveKind) (tray : Nat) (s : State) :
    (s.queueMove e l k tray).bytes = s.bytes := (rfl)

@[simp] theorem bytes_evictChunk (e c : Nat) (s : State) : (s.evictChunk e c).bytes = s.bytes := by
  unfold State.evictChunk
  split <;> simp

@[simp] theorem bytes_makeRoom (x : Extent) (l : Nat) (s : State) : (s.makeRoom x l).bytes = s.bytes := by
  unfold State.makeRoom
  dsimp only
  split <;> simp

@[simp] theorem bytes_promote (e l : Nat) (s : State) : (s.promote e l).bytes = s.bytes := by
  simp only [State.promote]
  repeat' split
  all_goals simp

@[simp] theorem bytes_touch (e l : Nat) (s : State) : (s.touch e l).bytes = s.bytes := (rfl)

/-! ### Accesses to T1 and T2 -/

@[simp] theorem bytes_modMap (n : Nat) (f : MapEntry → MapEntry) (s : State) : (s.modMap n f).bytes = s.bytes := (rfl)

@[simp] theorem bytes_programChunk (e c : Nat) (s : State) : (s.programChunk e c).bytes = s.bytes := by
  simp only [State.programChunk]
  repeat' split
  all_goals simp

@[simp] theorem bytes_dropT1 (e c : Nat) (s : State) : (s.dropT1 e c).bytes = s.bytes := by
  unfold State.dropT1
  split <;> simp

@[simp] theorem bytes_makeT1Room (t : Nat) (s : State) : (s.makeT1Room t).bytes = s.bytes := by
  unfold State.makeT1Room
  split <;> simp

@[simp] theorem bytes_fetchChunk (e c : Nat) (s : State) : (s.fetchChunk e c).bytes = s.bytes := by
  unfold State.fetchChunk
  split <;> simp

@[simp] theorem bytes_issue (e i : Nat) (write : Bool) (s : State) : (s.issue e i write).bytes = s.bytes := by
  fun_cases State.issue e i write s
  all_goals simp +zetaDelta

/-! ### Poison (R57, R174) -/

@[simp] theorem bytes_loseQuire (e u : Nat) (x : Extent) (s : State) : (s.loseQuire e u x).bytes = s.bytes := (rfl)

@[simp] theorem bytes_poisonUnit (e u : Nat) (mk : Mark) (s : State) : (s.poisonUnit e u mk).bytes = s.bytes := by
  unfold State.poisonUnit
  split <;> simp

@[simp] theorem bytes_poisonLeaf (e l : Nat) (s : State) : (s.poisonLeaf e l).bytes = s.bytes := by
  unfold State.poisonLeaf
  split <;> simp

@[simp] theorem bytes_lineWritten (e n : Nat) (s : State) : (s.lineWritten e n).bytes = s.bytes := by
  fun_cases State.lineWritten e n s
  all_goals simp +zetaDelta

/-! ### Bytes -/

@[simp] theorem bytes_versionLine (e n : Nat) (s : State) : (s.versionLine e n).bytes = s.bytes := by
  unfold State.versionLine
  split <;> simp

@[simp] theorem ok_writeBytes (e off : Nat) (b : List Byte) (s : State) (hok : s.bytes.Ok) :
    (s.writeBytes e off b).bytes.Ok := by
  unfold State.writeBytes
  split <;> simp [hok]

@[simp] theorem bytes_readBytes (e off n : Nat) (s : State) :
    (s.readBytes e off n).2.bytes = s.bytes := by simp [State.readBytes]

/-! ### Stopping an extent's work -/

@[simp] theorem bytes_clearT0 (e : Nat) (s : State) : (s.clearT0 e).bytes = s.bytes := (rfl)

@[simp] theorem bytes_writeBackExtent (e : Nat) (k : MoveKind) (s : State) :
    (s.writeBackExtent e k).bytes = s.bytes := by
  unfold State.writeBackExtent
  split <;> simp

@[simp] theorem ok_freeExtent (e : Nat) (s : State) (hok : s.bytes.Ok) : (s.freeExtent e).bytes.Ok := by
  unfold State.freeExtent
  split <;> simp [hok]

/-! ### Mirroring (R239 to R241) -/

@[simp] theorem bytes_mirrorCopy (i lp : Nat) (egress : Bool) (p : Packet) (s : State) :
    (s.mirrorCopy i lp egress p).bytes = s.bytes := by simp [State.mirrorCopy]

@[simp] theorem bytes_mirror (lp : Nat) (egress : Bool) (p : Packet) (s : State) :
    (s.mirror lp egress p).bytes = s.bytes := by simp [State.mirror]

/-! ### Egress (R228, R234, R235, R236, R242, R258) -/

@[simp] theorem bytes_launch (lp vc : Nat) (p : Packet) (s : State) :
    (s.launch lp vc p).bytes = s.bytes := by simp [State.launch]

/-! ### PROBE (R270, Table TP-1) -/

@[simp] theorem bytes_sendProbe (lp : Nat) (s : State) : (s.sendProbe lp).bytes = s.bytes := by simp [State.sendProbe]

@[simp] theorem bytes_probeAll (s : State) : (s.probeAll).bytes = s.bytes := by simp [State.probeAll]

@[simp] theorem bytes_modNbr (lp : Nat) (f : Nbr → Nbr) (s : State) : (s.modNbr lp f).bytes = s.bytes := (rfl)

@[simp] theorem bytes_enterConflict (lp : Nat) (s : State) :
    (s.enterConflict lp).bytes = s.bytes := by simp [State.enterConflict]

@[simp] theorem bytes_probeTick (lp : Nat) (s : State) : (s.probeTick lp).bytes = s.bytes := by simp [State.probeTick]

/-! ### ROUTE_UPDATE (R274) -/

theorem bytes_mgmtIngress {op : Nat} {h : Hdr} {s t : State} (ht : s.mgmtIngress op h = some t) :
    t.bytes = s.bytes := by
  unfold State.mgmtIngress at ht
  split at ht
  · cases ht; rfl
  · repeat' split at ht
    all_goals cases ht <;> simp

@[simp] theorem bytes_markRoutes (lp : Nat) (withdraw : Bool) (nodes : List Nat) (s : State) :
    (s.markRoutes lp withdraw nodes).bytes = s.bytes := (rfl)

@[simp] theorem bytes_routeUpdate (withdraw : Bool) (h : Hdr) (count resv : Nat) (nodes : List Nat) (s : State) :
    (s.routeUpdate withdraw h count resv nodes).bytes = s.bytes := by
  unfold State.routeUpdate
  split
  · next t ht => exact bytes_mgmtIngress ht
  · simp

/-! ### Write-class pairs (R197) -/

@[simp] theorem bytes_modPair (src h : Nat) (f : Pair → Pair) (s : State) :
    (s.modPair src h f).bytes = s.bytes := (rfl)

@[simp] theorem bytes_modStep (i : Nat) (f : Step → Step) (s : State) : (s.modStep i f).bytes = s.bytes := (rfl)

@[simp] theorem bytes_finishStep (i st : Nat) (data : List Byte) (s : State) :
    (s.finishStep i st data).bytes = s.bytes := by
  unfold State.finishStep
  split <;> simp

@[simp] theorem bytes_loseStep (i : Nat) (s : State) : (s.loseStep i).bytes = s.bytes := by
  unfold State.loseStep
  split <;> simp

@[simp] theorem bytes_causeStep (i a : Nat) (s : State) : (s.causeStep i a).bytes = s.bytes := by
  unfold State.causeStep
  split <;> simp

@[simp] theorem bytes_askTier (i : Nat) (items : List Nat) (write : Bool) (s : State) :
    (s.askTier i items write).bytes = s.bytes := by
  unfold State.askTier
  split <;> simp

/-! ### Coherence: directory and snoops -/

@[simp] theorem bytes_sendSnoop (d line agent kind grant : Nat) (s : State) :
    (s.sendSnoop d line agent kind grant).bytes = s.bytes := by
  unfold State.sendSnoop
  split <;> simp

@[simp] theorem bytes_openGrant (d line agent : Nat) (why : SnoopFor) (pkt : Option Packet) (fromExcl : Bool)
    (snoops : List (Nat × Nat)) (s : State) :
    (s.openGrant d line agent why pkt fromExcl snoops).bytes = s.bytes := by
  unfold State.openGrant
  split <;> simp

@[simp] theorem bytes_grantLine (d line r : Nat) (excl : Bool) (s : State) :
    (s.grantLine d line r excl).bytes = s.bytes := (rfl)

@[simp] theorem bytes_recallLine (d a line : Nat) (s : State) : (s.recallLine d a line).bytes = s.bytes := by
  fun_cases State.recallLine d a line s <;> simp

@[simp] theorem bytes_seeReclaimed (d line i : Nat) (s : State) : (s.seeReclaimed d line i).bytes = s.bytes := (rfl)

/-! ### Service -/

@[simp] theorem ok_perform (i : Nat) (t : Step) (x : Extent) (s : State) (hok : s.bytes.Ok) :
    (s.perform i t x).bytes.Ok := by
  simp only [State.perform]
  repeat' split
  all_goals simp [hok]

@[simp] theorem ok_plainCoherent (d i : Nat) (t : Step) (x : Extent) (s : State) (hok : s.bytes.Ok) :
    (s.plainCoherent d i t x).bytes.Ok := by
  unfold State.plainCoherent
  split <;> simp [hok]

@[simp] theorem bytes_memoryGrant (d i r : Nat) (t : Step) (x : Extent) (s : State) :
    (s.memoryGrant d i r t x).bytes = s.bytes := by simp [State.memoryGrant]

@[simp] theorem bytes_toGrant (d i line r : Nat) (why : SnoopFor) (t : Step) (fromExcl : Bool) (snoops : List
    (Nat × Nat)) (excl : Bool) (s : State) :
    (s.toGrant d i line r why t fromExcl snoops excl).bytes = s.bytes := by simp [State.toGrant]

@[simp] theorem ok_coherence (d i : Nat) (t : Step) (x : Extent) (s : State) (hok : s.bytes.Ok) :
    (s.coherence d i t x).bytes.Ok := by
  fun_cases State.coherence d i t x s <;> simp +zetaDelta [hok]

@[simp] theorem bytes_wakeStacks (l : List Nat) (s : State) : (s.wakeStacks l).bytes = s.bytes := (rfl)

@[simp] theorem ok_runStep (i : Nat) (s : State) (hok : s.bytes.Ok) : (s.runStep i).bytes.Ok := by
  fun_cases State.runStep i s
  all_goals simp +zetaDelta [hok]

@[simp] theorem ok_sweep (n : Nat) (s : State) (hok : s.bytes.Ok) : (State.sweep n s).bytes.Ok := by
  induction n generalizing s with
  | zero => exact hok
  | succ n ih => exact ih _ (ok_foldl _ (fun s i hs => ok_runStep i s hs) _ s hok)

@[simp] theorem ok_settle (s : State) (hok : s.bytes.Ok) : s.settle.bytes.Ok := ok_sweep _ s hok

@[simp] theorem bytes_addStep (t : Step) (s : State) : (s.addStep t).2.bytes = s.bytes := (rfl)

/-! ### Grants completing -/

@[simp] theorem bytes_completeGrant (d : Nat) (g : Grant) (s : State) : (s.completeGrant d g).bytes = s.bytes := by
  fun_cases State.completeGrant d g s
  all_goals simp +zetaDelta

@[simp] theorem ok_answerSnoop (d a line : Nat) (kind : Option Nat) (data : List Byte) (fromHome : Bool)
    (s : State) (hok : s.bytes.Ok) :
    (s.answerSnoop d a line kind data fromHome).bytes.Ok := by
  unfold State.answerSnoop
  split
  · exact hok
  · split
    · exact hok
    · extract_lets u node v w t
      have hu : u.bytes.Ok := by
        unfold u
        repeat' split
        all_goals simp [hok]
      have ht : t.bytes = w.bytes := by unfold t; split <;> simp
      exact ok_settle _ (by simpa [ht, w, v] using hu)

@[simp] theorem ok_reclaimAgent (d a : Nat) (s : State) (hok : s.bytes.Ok) : (s.reclaimAgent d a).1.bytes.Ok := by
  unfold State.reclaimAgent
  split
  · exact hok
  · refine ok_settle _ ?_
    rw [bytes_modDom]
    exact ok_foldl _ (fun s q hs => ok_answerSnoop d a q.line (some q.kind) [] true s hs) _ _ (by simpa using hok)

@[simp] theorem bytes_freeExtentLines (e : Nat) (s : State) : (s.freeExtentLines e).bytes = s.bytes := by
  unfold State.freeExtentLines
  split <;> simp

/-! ### Arrival -/

@[simp] theorem bytes_announce (lp : Nat) (s : State) : (s.announce lp).bytes = s.bytes := (rfl)

@[simp] theorem bytes_announceAll (s : State) : (s.announceAll).bytes = s.bytes := by simp [State.announceAll]

@[simp] theorem bytes_takeIngress (p : Packet) (s : State) : (s.takeIngress p).bytes = s.bytes := (rfl)

@[simp] theorem bytes_renewMember (c lp : Nat) (s : State) : (s.renewMember c lp).bytes = s.bytes := (rfl)

@[simp] theorem bytes_track (lp dst c seq : Nat) (s : State) : (s.track lp dst c seq).bytes = s.bytes := (rfl)

@[simp] theorem bytes_admitRequest (l : LPort) (p : Packet) (c : Nat) (s : State) :
    (s.admitRequest l p c).1.bytes = s.bytes := by
  fun_cases State.admitRequest l p c s
  all_goals simp +zetaDelta

@[simp] theorem bytes_turnAway (p : Packet) (a st : Nat) (s : State) :
    (s.turnAway p a st).1.bytes = s.bytes := by simp [State.turnAway]

@[simp] theorem bytes_checkRequest (l : LPort) (p : Packet) (s : State) : (s.checkRequest l p).1.bytes = s.bytes := by
  fun_cases State.checkRequest l p s
  all_goals simp +zetaDelta

@[simp] theorem bytes_ingress (p : Packet) (s : State) : (s.ingress p).1.bytes = s.bytes := by
  fun_cases State.ingress p s
  all_goals simp +zetaDelta

/-! ### Steps 4 to 6 -/

@[simp] theorem ok_serve (p : Packet) (c e epoch : Nat) (s : State) (hok : s.bytes.Ok) :
    (s.serve p c e epoch).bytes.Ok := by
  unfold State.serve
  dsimp only
  split <;> simp [hok]

@[simp] theorem ok_refuse (p : Packet) (c st : Nat) (s : State) (hok : s.bytes.Ok) :
    (s.refuse p c st).bytes.Ok := by simp [State.refuse, hok]

@[simp] theorem ok_translate (p : Packet) (c epoch : Nat) (s : State) (hok : s.bytes.Ok) :
    (s.translate p c epoch).bytes.Ok := by
  simp only [State.translate]
  repeat' split
  all_goals simp [hok]

theorem bytes_dedup {p : Packet} {c : Nat} {s t : State} (ht : s.dedup p c = some t) : t.bytes = s.bytes := by
  revert ht
  fun_cases State.dedup p c s
  all_goals rintro ⟨⟩ <;> simp +zetaDelta

@[simp] theorem bytes_openPair (src c : Nat) (s : State) :
    (s.openPair src c).bytes = s.bytes := by simp [State.openPair]

@[simp] theorem ok_afterDedup (p : Packet) (c : Nat) (s : State) (hok : s.bytes.Ok) :
    (s.afterDedup p c).bytes.Ok := by
  unfold State.afterDedup
  split <;> simp [hok]

@[simp] theorem ok_request (p : Packet) (s : State) (hok : s.bytes.Ok) : (s.request p).bytes.Ok := by
  unfold State.request
  dsimp only
  split
  · simp [hok]
  · split
    · split
      · next t ht => simp [bytes_dedup ht, hok]
      · simp [hok]
    · simp [hok]

/-! ### Coherence requests at the home (R208, R218) -/

@[simp] theorem ok_cohRequest (p : Packet) (s : State) (hok : s.bytes.Ok) : (s.cohRequest p).bytes.Ok := by
  fun_cases State.cohRequest p s
  all_goals simp +zetaDelta [hok]

/-! ### Results (R114) -/

@[simp] theorem bytes_withOpen (f : Nat → State → State) (s : State) (h : ∀ n u, (f n u).bytes = u.bytes) :
    (s.withOpen f).bytes = s.bytes := by simp [State.withOpen, h]

@[simp] theorem bytes_opPacket (h : Hdr) (id st flags result detail off : Nat) (data : List Byte) (s : State) :
    (s.opPacket h id st flags result detail off data).bytes = s.bytes := by simp [State.opPacket]

@[simp] theorem bytes_opResult (h : Hdr) (id st flags result detail off : Nat) (data : List Byte) (s : State) :
    (s.opResult h id st flags result detail off data).bytes = s.bytes := by simp [State.opResult]

@[simp] theorem bytes_opFails (h : Hdr) (d : List Byte) (st : Nat) (s : State) :
    (s.opFails h d st).bytes = s.bytes := by simp [State.opFails]

@[simp] theorem bytes_sendInline (h : Hdr) (id n off : Nat) (data : List Byte) (s : State) :
    (s.sendInline h id n off data).bytes = s.bytes := by
  induction n generalizing off data s with
  | zero => rfl
  | succ n ih =>
    rw [State.sendInline]
    split
    · rfl
    · rw [ih, bytes_opResult]

@[simp] theorem bytes_opData (o off : Nat) (data : List Byte) (s : State) :
    (s.opData o off data).bytes = s.bytes := by
  unfold State.opData
  split
  · rfl
  · split <;> simp

/-! ### Ranges (R113 step 4) -/

@[simp] theorem ok_writeRange (c a : Nat) (b : List Byte) (s : State) (hok : s.bytes.Ok) :
    (s.writeRange c a b).bytes.Ok := by
  fun_cases State.writeRange c a b s
  all_goals simp +zetaDelta [hok]

/-! ### Presses and seeds -/

@[simp] theorem bytes_wakePress (n : Nat) (s : State) : (s.wakePress n).bytes = s.bytes := by simp [State.wakePress]

@[simp] theorem bytes_addSeed (o c n i : Nat) (q : SeedPlan) (step : Nat) (s : State) :
    (s.addSeed o c n i q step).bytes = s.bytes := by simp [State.addSeed]

@[simp] theorem bytes_addSeeds (o c : Nat) (press : Option Nat) (l : List SeedPlan) (s : State) :
    (s.addSeeds o c press l).bytes = s.bytes := by
  refine bytes_foldl _ (fun s q => ?_) _ s
  split <;> simp

/-! ### The end of an operation -/

@[simp] theorem bytes_freeKvIfDone (k : Nat) (s : State) : (s.freeKvIfDone k).bytes = s.bytes := by
  unfold State.freeKvIfDone
  split <;> simp

@[simp] theorem bytes_dropImplicit (k : Nat) (s : State) :
    (s.dropImplicit k).bytes = s.bytes := by simp [State.dropImplicit]

@[simp] theorem bytes_dropSeed (i : Nat) (s : State) : (s.dropSeed i).bytes = s.bytes := (rfl)

@[simp] theorem bytes_closeJob (j : Nat) (s : State) : (s.closeJob j).bytes = s.bytes := by
  fun_cases State.closeJob j s
  all_goals simp +zetaDelta

@[simp] theorem bytes_stepRecorded (j c : Nat) (s : State) :
    (s.stepRecorded j c).bytes = s.bytes := by simp [State.stepRecorded]

@[simp] theorem bytes_removeOp (o : Nat) (s : State) : (s.removeOp o).bytes = s.bytes := by
  unfold State.removeOp
  split <;> simp

@[simp] theorem bytes_sendFinal (o : Nat) (s : State) : (s.sendFinal o).bytes = s.bytes := by
  unfold State.sendFinal
  split <;> simp

@[simp] theorem bytes_sendRecorded (o : Nat) (s : State) : (s.sendRecorded o).bytes = s.bytes := by
  fun_cases State.sendRecorded o s
  all_goals simp +zetaDelta

@[simp] theorem bytes_finishOp (o st result detail : Nat) (data : List Byte) (off : Nat) (s : State) :
    (s.finishOp o st result detail data off).bytes = s.bytes := by
  fun_cases State.finishOp o st result detail data off s
  all_goals simp +zetaDelta

@[simp] theorem bytes_failOp (o st result : Nat) (s : State) :
    (s.failOp o st result).bytes = s.bytes := by simp [State.failOp]

@[simp] theorem bytes_causeOp (o a : Nat) (s : State) : (s.causeOp o a).bytes = s.bytes := by
  unfold State.causeOp
  split <;> simp

@[simp] theorem bytes_stallOp (o : Nat) (s : State) : (s.stallOp o).bytes = s.bytes := (rfl)

/-! ### Near-memory operations -/

@[simp] theorem ok_nmRun (c : Nat) (k : OpKind) (d : List Byte) (l : Nat) (s : State) (hok : s.bytes.Ok) :
    (s.nmRun c k d l).1.bytes.Ok := by
  simp only [State.nmRun]
  repeat' split
  all_goals simp [hok]

/-! ### What an operation waits for -/

@[simp] theorem bytes_askLeaf (o e l : Nat) (write : Bool) (s : State) : (s.askLeaf o e l write).bytes = s.bytes := by
  unfold State.askLeaf
  split <;> simp

@[simp] theorem bytes_causeOps (a : Nat) (l : List Nat) (s : State) :
    (s.causeOps a l).bytes = s.bytes := by simp [State.causeOps]

@[simp] theorem bytes_nmFinish (o : Nat) (s : State) : (s.nmFinish o).bytes = s.bytes := by
  unfold State.nmFinish
  split <;> simp

@[simp] theorem ok_nmLeaf (o l : Nat) (s : State) (hok : s.bytes.Ok) : (s.nmLeaf o l).bytes.Ok := by
  unfold State.nmLeaf
  split <;> simp [hok]

/-! ### Steps that wait for a tier access -/

@[simp] theorem bytes_dropItem (e i : Nat) (s : State) : (s.dropItem e i).bytes = s.bytes := (rfl)

@[simp] theorem bytes_dropLeaf (e l : Nat) (s : State) : (s.dropLeaf e l).bytes = s.bytes := (rfl)

@[simp] theorem bytes_loseLeaf (e l : Nat) (s : State) : (s.loseLeaf e l).bytes = s.bytes := by simp [State.loseLeaf]

@[simp] theorem bytes_causeSteps (a : Nat) (l : List Nat) (s : State) :
    (s.causeSteps a l).bytes = s.bytes := by simp [State.causeSteps]

@[simp] theorem bytes_trayLost (t : Nat) (s : State) : (s.trayLost t).bytes = s.bytes := by simp [State.trayLost]

@[simp] theorem bytes_landLeaf (e l : Nat) (s : State) : (s.landLeaf e l).bytes = s.bytes := (rfl)

@[simp] theorem bytes_arrived (e l : Nat) (s : State) : (s.arrived e l).bytes = s.bytes := by simp [State.arrived]

/-! ### Replica fetches (R79) -/

@[simp] theorem bytes_askReplica (e l : Nat) (s : State) : (s.askReplica e l).bytes = s.bytes := by
  unfold State.askReplica
  split <;> simp

@[simp] theorem bytes_fetchReplica (e l : Nat) (s : State) :
    (s.fetchReplica e l).bytes = s.bytes := by simp [State.fetchReplica]

/-! ### Uncorrectable errors -/

@[simp] theorem bytes_failOver (e i j : Nat) (s : State) :
    (s.failOver e i j).bytes = s.bytes := by simp [State.failOver]

@[simp] theorem bytes_noCopy (e l : Nat) (s : State) : (s.noCopy e l).bytes = s.bytes := by
  unfold State.noCopy
  split <;> simp

@[simp] theorem bytes_ueT1 (e i : Nat) (injected : Bool) (s : State) : (s.ueT1 e i injected).bytes = s.bytes := by
  fun_cases State.ueT1 e i injected s
  all_goals simp +zetaDelta

@[simp] theorem bytes_ueT2 (e l : Nat) (mirror : Bool) (s : State) : (s.ueT2 e l mirror).bytes = s.bytes := by
  fun_cases State.ueT2 e l mirror s
  all_goals simp +zetaDelta

/-! ### Late answers (R58, R47) -/

@[simp] theorem bytes_staleWrite (e i : Nat) (s : State) : (s.staleWrite e i).bytes = s.bytes := by
  fun_cases State.staleWrite e i s
  all_goals simp +zetaDelta

@[simp] theorem bytes_passOver (e i j : Nat) (ops : List Nat) (s : State) :
    (s.passOver e i j ops).bytes = s.bytes := by simp [State.passOver]

@[simp] theorem bytes_poisonAtDeadline (e : Nat) (ls : List Nat) (s : State) :
    (s.poisonAtDeadline e ls).bytes = s.bytes := by
  unfold State.poisonAtDeadline
  split <;> simp

@[simp] theorem ok_stepDeadline (i : Nat) (s : State) (hok : s.bytes.Ok) : (s.stepDeadline i).bytes.Ok := by
  fun_cases State.stepDeadline i s
  all_goals simp +zetaDelta [hok]

/-! ### Leaf moves (R26, R45, R46) -/

@[simp] theorem bytes_endMove (e l : Nat) (s : State) : (s.endMove e l).bytes = s.bytes := (rfl)

@[simp] theorem bytes_switchLeaf (m : Move) (s : State) : (s.switchLeaf m).bytes = s.bytes := (rfl)

@[simp] theorem bytes_copyDone (m : Move) (s : State) : (s.copyDone m).bytes = s.bytes := by simp [State.copyDone]

@[simp] theorem bytes_startMove (b : Background) (s : State) : (s.startMove b).bytes = s.bytes := by
  fun_cases State.startMove b s
  all_goals simp +zetaDelta

/-! ### Mirror and replica recovery -/

@[simp] theorem bytes_closeReplica (e l : Nat) (s : State) : (s.closeReplica e l).bytes = s.bytes := (rfl)

/-! ### Packets (R358, R359, R361, R368 steps 1 to 7) -/

@[simp] theorem bytes_clearReply (p : NirodPart) (st : Nat) (items : List Item) (s : State) :
    (s.clearReply p st items).bytes = s.bytes := (rfl)

@[simp] theorem bytes_messageIn (session seq op : Nat) (l : List Byte) (s : State) :
    (s.messageIn session seq op l).bytes = s.bytes := by
  simp only [State.messageIn]
  repeat' split
  all_goals simp

@[simp] theorem bytes_assemble (p : NirodPart) (s : State) : (s.assemble p).bytes = s.bytes := by
  unfold State.assemble
  dsimp only
  split <;> simp

/-! ### Sessions and device state (Table CM-4, 0x0001 to 0x0005) -/

@[simp] theorem bytes_sessionOpenBody (cls compId spdm partBytes : Nat) (s : State) :
    (sessionOpenBody cls compId spdm partBytes s).1.bytes = s.bytes := by
  fun_cases sessionOpenBody cls compId spdm partBytes s
  all_goals simp +zetaDelta

@[simp] theorem bytes_deviceStateBody (target : Nat) (s : State) : (deviceStateBody target s).1.bytes = s.bytes := by
  unfold deviceStateBody
  split <;> simp

/-! ### Registers (R374) -/

@[simp] theorem bytes_dropTrays (s before : State) : (s.dropTrays before).bytes = s.bytes := by simp [State.dropTrays]

@[simp] theorem bytes_csrWriteBody (pairs : List (Nat × Word)) (s : State) :
    (csrWriteBody pairs s).1.bytes = s.bytes := by
  unfold csrWriteBody
  split
  · simp
  · exact (bytes_dropTrays ..).trans (bytes_csrWrites ..)

/-! ### Commands (Table CH-1) -/

@[simp] theorem bytes_startRecall (d agent : Nat) (lines : List Nat) (c : Ctx) (op what : Nat) (s : State) :
    (s.startRecall d agent lines c op what).bytes = s.bytes :=
  (bytes_foldl _ (fun s q => bytes_recallLine d agent q s) lines _).trans (bytes_modDom ..)

@[simp] theorem bytes_endRecall (d op what n : Nat) (s : State) : (s.endRecall d op what n).1.bytes = s.bytes := by
  fun_cases State.endRecall d op what n s
  all_goals simp +zetaDelta

@[simp] theorem bytes_recallCommand (d agent : Nat) (lines : List Nat) (c : Ctx) (op what : Nat) (s : State) :
    (s.recallCommand d agent lines c op what).1.bytes = s.bytes := by
  fun_cases State.recallCommand d agent lines c op what s <;> simp +zetaDelta

theorem ok_withDomain (d : Nat) (f : Domain → State → Res) (s : State) (hf : ∀ x, (f x s).1.bytes.Ok) (hok : s.bytes.Ok) :
    (withDomain d f s).1.bytes.Ok := by
  unfold withDomain
  split
  · exact hok
  · exact hf _

/-! ### Superblocks -/

@[simp] theorem bytes_modSb (t n : Nat) (f : Superblock → Superblock) (s : State) :
    (s.modSb t n f).bytes = s.bytes := by simp [State.modSb]

@[simp] theorem bytes_moveSb (t n why : Nat) (s : State) :
    (s.moveSb t n why).bytes = s.bytes := by simp [State.moveSb]

@[simp] theorem bytes_checkGc (t : Nat) (s : State) : (s.checkGc t).bytes = s.bytes := by
  fun_cases State.checkGc t s
  all_goals simp +zetaDelta

@[simp] theorem bytes_nextSlot (t : Nat) (moves : Bool) (s : State) : (s.nextSlot t moves).2.bytes = s.bytes := by
  fun_cases State.nextSlot t moves s
  all_goals simp +zetaDelta

@[simp] theorem bytes_mapTo (t n sb slot : Nat) (s : State) :
    (s.mapTo t n sb slot).bytes = s.bytes := by simp [State.mapTo]

/-! ### Retirement and tray states (R78, Table FM-5) -/

@[simp] theorem bytes_checkReserve (t : Nat) (s : State) :
    (s.checkReserve t).bytes = s.bytes := by simp [State.checkReserve]

@[simp] theorem bytes_retireBlocks (t n : Nat) (s : State) :
    (s.retireBlocks t n).bytes = s.bytes := by simp [State.retireBlocks]

@[simp] theorem bytes_markRetire (t n d : Nat) (s : State) :
    (s.markRetire t n d).bytes = s.bytes := by simp [State.markRetire]

@[simp] theorem bytes_retirePage (n p : Nat) (s : State) :
    (s.retirePage n p).bytes = s.bytes := by simp [State.retirePage]

@[simp] theorem bytes_eraseIfEmpty (t n : Nat) (s : State) :
    (s.eraseIfEmpty t n).bytes = s.bytes := by simp [State.eraseIfEmpty]

/-! ### Reads (R75 to R80) -/

@[simp] theorem bytes_countRead (n : Nat) (s : State) : (s.countRead n).bytes = s.bytes := by simp [State.countRead]

@[simp] theorem ok_leafRead (n k : Nat) (s : State) (hok : s.bytes.Ok) : (s.leafRead n k).bytes.Ok := by
  fun_cases State.leafRead n k s
  all_goals simp +zetaDelta [hok]

@[simp] theorem bytes_offLadder (t n p : Nat) (s : State) :
    (s.offLadder t n p).bytes = s.bytes := by simp [State.offLadder]

@[simp] theorem ok_pageGood (t n p step : Nat) (s : State) (hok : s.bytes.Ok) :
    (s.pageGood t n p step).bytes.Ok := by simp [State.pageGood, hok]

@[simp] theorem ok_pageLost (t n p : Nat) (s : State) (hok : s.bytes.Ok) : (s.pageLost t n p).bytes.Ok := by
  unfold State.pageLost
  dsimp only
  split <;> simp [hok]

/-! ### Programs, relocations and erasures -/

@[simp] theorem bytes_chunkClean (e c : Nat) (s : State) : (s.chunkClean e c).bytes = s.bytes := by
  fun_cases State.chunkClean e c s
  all_goals simp +zetaDelta

@[simp] theorem bytes_checkWear (t : Nat) (s : State) : (s.checkWear t).bytes = s.bytes := by
  fun_cases State.checkWear t s
  all_goals simp +zetaDelta

/-! ### Tray attach (R65, R69, R75) -/

@[simp] theorem bytes_leaveStale (t : Nat) (s : State) : (s.leaveStale t).bytes = s.bytes := by
  refine bytes_foldl _ (fun s p => ?_) _ s
  split
  · rfl
  · split
    · split <;> simp
    · rfl

@[simp] theorem bytes_reissue (t : Nat) (s : State) : (s.reissue t).bytes = s.bytes := by simp [State.reissue]

/-! ### Fabric links -/

@[simp] theorem bytes_linkSend (lp kind value : Nat) (s : State) : (s.linkSend lp kind value).bytes = s.bytes := (rfl)

@[simp] theorem bytes_train (lp : Nat) (st : LkState) (s : State) : (s.train lp st).bytes = s.bytes := (rfl)

@[simp] theorem bytes_failPort (lp : Nat) (s : State) : (s.failPort lp).bytes = s.bytes := by simp [State.failPort]

/-! ### Training (R250 to R252) -/

@[simp] theorem bytes_linkDown (lp : Nat) (s : State) : (s.linkDown lp).bytes = s.bytes := by
  unfold State.linkDown
  split <;> simp

@[simp] theorem bytes_trainFail (lp : Nat) (s : State) : (s.trainFail lp).bytes = s.bytes := (rfl)

@[simp] theorem bytes_dropPreset (id : Word64) (far lp : Nat) (s : State) :
    (s.dropPreset id far lp).bytes = s.bytes := (rfl)

@[simp] theorem bytes_keepPreset (p : Preset) (s : State) : (s.keepPreset p).bytes = s.bytes := (rfl)

@[simp] theorem ok_portUp (lp : Nat) (s : State) (hok : s.bytes.Ok) : (s.portUp lp).bytes.Ok := by
  unfold State.portUp
  split <;> simp [hok]

/-! ### Flits (R255 to R260) -/

@[simp] theorem bytes_retrain (lp : Nat) (s : State) : (s.retrain lp).bytes = s.bytes := by simp [State.retrain]

@[simp] theorem bytes_replay (lp : Nat) (s : State) : (s.replay lp).bytes = s.bytes := by
  unfold State.replay
  split <;> simp

@[simp] theorem bytes_takeNak (lp : Nat) (s : State) : (s.takeNak lp).bytes = s.bytes := by simp [State.takeNak]

@[simp] theorem bytes_takeFields (lp : Nat) (t : Trailer) (s : State) :
    (s.takeFields lp t).bytes = s.bytes := by simp [State.takeFields]

@[simp] theorem bytes_sendNak (lp : Nat) (s : State) : (s.sendNak lp).bytes = s.bytes := by
  unfold State.sendNak
  split <;> simp

@[simp] theorem bytes_flitGood (lp : Nat) (t : Trailer) (s : State) : (s.flitGood lp t).2.bytes = s.bytes := by
  fun_cases State.flitGood lp t s
  all_goals simp +zetaDelta

/-! ### Fallow and wake (R265) -/

@[simp] theorem bytes_enterFallow (lp : Nat) (s : State) :
    (s.enterFallow lp).bytes = s.bytes := by simp [State.enterFallow]

/-! ### Health scores (R352) -/

@[simp] theorem bytes_healthLow (unit before now : Nat) (s : State) :
    (s.healthLow unit before now).bytes = s.bytes := by simp [State.healthLow]

@[simp] theorem bytes_scorePort (lp : Nat) (s : State) : (s.scorePort lp).bytes = s.bytes := by simp [State.scorePort]

@[simp] theorem bytes_scoreNbr (lp : Nat) (n : Nbr) (score : Nat) (s : State) :
    (s.scoreNbr lp n score).bytes = s.bytes := by simp [State.scoreNbr]

/-! ### EXPEL and READMIT (R354, R355) -/

@[simp] theorem bytes_dropEntry (r : ExpelReq) (s : State) : (s.dropEntry r).bytes = s.bytes := (rfl)

@[simp] theorem bytes_actionItem (s : State) (r : ExpelReq) : (s.actionItem r).1.bytes = s.bytes := by
  unfold State.actionItem
  split <;> simp

@[simp] theorem bytes_keepApplied (action : Nat) (r : ExpelReq) (s : State) :
    (s.keepApplied action r).bytes = s.bytes := (rfl)

@[simp] theorem bytes_withdrawNode (node : Nat) (before : Bool) (s : State) :
    (s.withdrawNode node before).bytes = s.bytes := by simp [State.withdrawNode]

@[simp] theorem bytes_cutOff (r : ExpelReq) (quarantine : Bool) (s : State) :
    (s.cutOff r quarantine).bytes = s.bytes := by simp [State.cutOff]

/-! ### Rehearsal (R356, Table FT-7) -/

@[simp] theorem bytes_inject (i : Inject) (s : State) : (s.inject i).bytes = s.bytes := by simp [State.inject]

/-! ### The records (Table ER-1) -/

@[simp] theorem bytes_setRec (id : Nat) (r : Rec) (s : State) : (s.setRec id r).bytes = s.bytes := (rfl)

@[simp] theorem bytes_addBin (id bin : Nat) (s : State) : (s.addBin id bin).bytes = s.bytes := by simp [State.addBin]

@[simp] theorem bytes_sampleRec (id : Nat) (v : Int) (s : State) :
    (s.sampleRec id v).bytes = s.bytes := by simp [State.sampleRec]

@[simp] theorem bytes_countBoot (bin : Nat) (s : State) :
    (s.countBoot bin).bytes = s.bytes := by simp [State.countBoot]

@[simp] theorem bytes_distRec (t : Nat) (s : State) : (s.distRec t).bytes = s.bytes := by simp [State.distRec]

@[simp] theorem bytes_flushRecords (s : State) : (s.flushRecords).bytes = s.bytes := by simp [State.flushRecords]

/-! ### Reduce operations -/

@[simp] theorem bytes_redSend (q : Contrib) (st flags result detail off : Nat) (data : List Byte) (mute : Bool)
    (s : State) :
    (s.redSend q st flags result detail off data mute).bytes = s.bytes := by
  unfold State.redSend
  split <;> simp

@[simp] theorem bytes_redLedger (x : Op) (q : Contrib) (h : Hdr) (st result detail : Nat) (s : State) :
    (s.redLedger x q h st result detail).bytes = s.bytes := (rfl)

@[simp] theorem bytes_redEnd (o st : Nat) (result : Contrib → Option Nat) (detail : Option Nat) (s : State) :
    (s.redEnd o st result detail).bytes = s.bytes := by
  unfold State.redEnd
  split
  · rfl
  · rw [bytes_removeOp, bytes_modWork]
    refine bytes_foldl _ (fun s q => ?_) _ s
    split
    · rfl
    · refine bytes_withOpen _ s fun r u => bytes_withOpen _ u fun d v => ?_
      split <;> simp

@[simp] theorem bytes_redAbort (o st : Nat) (result detail : Option Nat) (s : State) :
    (s.redAbort o st result detail).bytes = s.bytes := by simp [State.redAbort]

@[simp] theorem bytes_sendSegments (x : Op) (o root off n : Nat) (data : List Byte) (s : State) :
    (State.sendSegments x o root off n data s).bytes = s.bytes := by
  induction n generalizing off data s with
  | zero => rfl
  | succ n ih =>
    rw [State.sendSegments]
    split
    · rfl
    · exact (ih ..).trans (bytes_route ..)

@[simp] theorem ok_redDeliver (o b : Nat) (s : State) (hok : s.bytes.Ok) : (s.redDeliver o b).bytes.Ok := by
  unfold State.redDeliver
  split
  · exact hok
  · dsimp only
    split
    · simpa using hok
    · split
      · exact ok_writeRange _ _ _ s hok
      · rw [bytes_foldl]
        · exact hok
        · intro s q
          split
          · split <;> simp
          · rfl
      · rw [bytes_foldl]
        · exact hok
        · intro s q
          split
          · split <;> simp
          · rfl

@[simp] theorem bytes_redFinish (o : Nat) (s : State) : (s.redFinish o).bytes = s.bytes := by
  unfold State.redFinish
  split <;> simp

@[simp] theorem bytes_takeSegment (o i : Nat) (seg data : List Byte) (s : State) :
    (s.takeSegment o i seg data).bytes = s.bytes := by
  fun_cases State.takeSegment o i seg data s
  all_goals simp +zetaDelta

@[simp] theorem bytes_redJoin (o : Nat) (h : Hdr) (d : List Byte) (job : Option Nat) (step : Nat) (s : State) :
    (s.redJoin o h d job step).bytes = s.bytes := by
  fun_cases State.redJoin o h d job step s
  all_goals simp +zetaDelta

@[simp] theorem bytes_redParent (o : Nat) (s : State) : (s.redParent o).bytes = s.bytes := by
  fun_cases State.redParent o s
  all_goals simp +zetaDelta

@[simp] theorem bytes_redRelay (o : Nat) (b : List Byte) (s : State) : (s.redRelay o b).1.bytes = s.bytes := by
  fun_cases State.redRelay o b s
  all_goals simp +zetaDelta

@[simp] theorem bytes_redSeedDone (i c : Nat) (s : State) : (s.redSeedDone i c).bytes = s.bytes := (rfl)

@[simp] theorem bytes_redSeeds (o b : Nat) (s : State) : (s.redSeeds o b).bytes = s.bytes := by
  simp only [State.redSeeds]
  repeat' split
  all_goals simp

/-! ### The map epoch (R291) -/

@[simp] theorem bytes_mapBusy (h : Nat) (s : State) : (mapBusy h s).1.bytes = s.bytes := (rfl)

@[simp] theorem bytes_mapChange (h : Nat) (s : State) : (s.mapChange h).bytes = s.bytes := (rfl)

theorem ok_withExtent (e : Nat) (f : Extent → State → Res) (s : State) (hf : ∀ x, (f x s).1.bytes.Ok) (hok : s.bytes.Ok) :
    (withExtent e f s).1.bytes.Ok := by
  unfold withExtent
  split
  · exact hok
  · exact hf _

theorem ok_withComp (h : Nat) (f : Comp → State → Res) (s : State) (hf : ∀ x, (f x s).1.bytes.Ok) (hok : s.bytes.Ok) :
    (withComp h f s).1.bytes.Ok := by
  unfold withComp
  split
  · exact hok
  · exact hf _

/-! ### Hints (R42 to R45) -/

@[simp] theorem bytes_hintChunk (e hint ch : Nat) (s : State) : (s.hintChunk e hint ch).bytes = s.bytes := by
  fun_cases State.hintChunk e hint ch s
  all_goals simp +zetaDelta

@[simp] theorem bytes_giveHint (e first count hint item : Nat) (x : Extent) (s : State) :
    (s.giveHint e first count hint item x).1.bytes = s.bytes := by
  fun_cases State.giveHint e first count hint item x s
  all_goals simp +zetaDelta

/-! ### Revocation (R296, R297) -/

@[simp] theorem bytes_revokeOp (o : Nat) (s : State) : (s.revokeOp o).bytes = s.bytes := by
  fun_cases State.revokeOp o s
  all_goals simp +zetaDelta

@[simp] theorem ok_revokeExtent (e : Nat) (s : State) (hok : s.bytes.Ok) : (s.revokeExtent e).2.bytes.Ok := by
  unfold State.revokeExtent
  split
  · exact hok
  · refine ok_settle _ ?_
    rw [bytes_foldl _ fun u o => bytes_revokeOp o u, bytes_foldl, bytes_foldl _ fun u i => bytes_modStep i _ u,
      bytes_bumpCompBy, bytes_modExtent]
    · split <;> simpa using hok
    · intro u q
      dsimp only
      split <;> simp

@[simp] theorem bytes_endDrain (e : Nat) (s : State) : (s.endDrain e).bytes = s.bytes := by
  unfold State.endDrain
  split <;> simp

/-! ### Adoption (R298) -/

@[simp] theorem bytes_adopt (e h : Nat) (s : State) : (s.adopt e h).2.bytes = s.bytes := by
  unfold State.adopt
  split <;> simp

/-! ### KV objects -/

theorem ok_withKv (k : Nat) (f : Kv → Extent → State → Res) (s : State) (hf : ∀ o x, (f o x s).1.bytes.Ok) (hok : s.bytes.Ok) :
    (withKv k f s).1.bytes.Ok := by
  unfold withKv
  split
  · exact hok
  · split
    · exact hok
    · split
      · exact hok
      · exact hf _ _

@[simp] theorem bytes_modKv (k : Nat) (f : Kv → Kv) (s : State) : (s.modKv k f).bytes = s.bytes := (rfl)

/-! ### Codebooks and slots -/

@[simp] theorem bytes_forgetCodebook (h cb : Nat) (s : State) :
    (s.forgetCodebook h cb).bytes = s.bytes := by simp [State.forgetCodebook]

/-! ### Gather and scatter -/

@[simp] theorem bytes_rowsEnd (o : Nat) (x : Op) (t : RowTally) (s : State) : (s.rowsEnd o x t).bytes = s.bytes := by
  unfold State.rowsEnd
  dsimp only
  split <;> simp

@[simp] theorem ok_putRow (o : Nat) (x : Op) (k : Nat) (b : List Byte) (s : State) (hok : s.bytes.Ok) :
    (s.putRow o x k b).bytes.Ok := by simp [State.putRow, hok]

@[simp] theorem ok_gatherRun (o : Nat) (x : Op) (s : State) (hok : s.bytes.Ok) : (s.gatherRun o x).bytes.Ok := by
  unfold State.gatherRun
  rw [bytes_rowsEnd]
  refine List.foldlRecOn (motive := fun r : RowTally × State => r.2.bytes.Ok) _ _ hok fun r hr k _ => ?_
  dsimp only
  split
  · exact hr
  · exact ok_putRow _ _ _ _ _ hr

@[simp] theorem ok_scatterRun (o : Nat) (x : Op) (s : State) (hok : s.bytes.Ok) : (s.scatterRun o x).bytes.Ok := by
  unfold State.scatterRun
  rw [bytes_rowsEnd]
  refine List.foldlRecOn (motive := fun r : RowTally × State => r.2.bytes.Ok) _ _ hok fun r hr p _ => ?_
  dsimp only
  split
  · exact hr
  · exact hr
  · exact hr
  · split
    · exact hr
    · exact ok_writeRange _ _ _ _ hr

@[simp] theorem ok_rowsRun (o : Nat) (s : State) (hok : s.bytes.Ok) : (s.rowsRun o).bytes.Ok := by
  unfold State.rowsRun
  split <;> simp [hok]

/-! ### Filters -/

@[simp] theorem ok_filterRun (o : Nat) (s : State) (hok : s.bytes.Ok) : (s.filterRun o).bytes.Ok := by
  fun_cases State.filterRun o s
  all_goals simp +zetaDelta [hok]

/-! ### Heads (R151, R153) -/

@[simp] theorem ok_headOut (o i : Nat) (ps : List Partial) (s : State) (hok : s.bytes.Ok) :
    (s.headOut o i ps).bytes.Ok := by
  unfold State.headOut
  split <;> simp [hok]

@[simp] theorem bytes_withholdHead (o i : Nat) (atStart : Bool) (s : State) :
    (s.withholdHead o i atStart).bytes = s.bytes := by
  unfold State.withholdHead
  split <;> simp

@[simp] theorem bytes_attendEnd (o : Nat) (s : State) : (s.attendEnd o).bytes = s.bytes := by
  unfold State.attendEnd
  split <;> simp

@[simp] theorem bytes_keepPartials (o index : Nat) (ps : List Partial) (s : State) :
    (s.keepPartials o index ps).bytes = s.bytes := by simp [State.keepPartials]

@[simp] theorem ok_attendSeed (z : Seed) (x : Op) (s : State) (hok : s.bytes.Ok) : (s.attendSeed z x).bytes.Ok := by
  unfold State.attendSeed
  dsimp only
  split
  · refine ok_foldl _ (fun s h hs => ?_) _ s hok
    split
    · simpa using hs
    · exact ok_headOut _ _ _ _ hs
  · split
    · exact hok
    · split
      · exact hok
      · split
        · split <;> simpa using hok
        · split
          · exact hok
          · split <;> split <;> simp [hok]
        · split
          · exact hok
          · split <;> simp [hok]
        · exact hok

/-! ### ENCODE -/

@[simp] theorem bytes_encodeFails (o i : Nat) (poisoned : Bool) (s : State) :
    (s.encodeFails o i poisoned).bytes = s.bytes := by simp [State.encodeFails]

@[simp] theorem ok_encodeSeed (o i : Nat) (x : Op) (s : State) (hok : s.bytes.Ok) :
    (s.encodeSeed o i x).1.bytes.Ok := by
  unfold State.encodeSeed
  dsimp only
  split <;> simp [hok]

@[simp] theorem bytes_encodeEnd (o : Nat) (s : State) : (s.encodeEnd o).bytes = s.bytes := by
  fun_cases State.encodeEnd o s
  all_goals simp +zetaDelta

/-! ### Capacity -/

@[simp] theorem bytes_refuseOp (c : Nat) (h : Hdr) (d : List Byte) (st : Nat) (s : State) :
    (s.refuseOp c h d st).bytes = s.bytes := by simp [State.refuseOp]

/-! ### Acceptance -/

@[simp] theorem bytes_takeStep (c src : Nat) (s : State) : (s.takeStep c src).2.2.bytes = s.bytes := by
  unfold State.takeStep
  split <;> simp

@[simp] theorem bytes_attendCheck (o : Nat) (s : State) : (s.attendCheck o).bytes = s.bytes := by
  unfold State.attendCheck
  split <;> simp

@[simp] theorem bytes_opStarts (o : Nat) (s : State) : (s.opStarts o).bytes = s.bytes := by
  fun_cases State.opStarts o s
  all_goals simp +zetaDelta

@[simp] theorem bytes_acceptOp (o : Nat) (s : State) : (s.acceptOp o).bytes = s.bytes := by
  unfold State.acceptOp
  split <;> simp

@[simp] theorem bytes_failWaiting (o st : Nat) (s : State) : (s.failWaiting o st).bytes = s.bytes := by
  unfold State.failWaiting
  split <;> simp

@[simp] theorem bytes_admitOp (o : Nat) (s : State) : (s.admitOp o).bytes = s.bytes := by
  fun_cases State.admitOp o s
  all_goals simp +zetaDelta

@[simp] theorem bytes_submit (k : OpKind) (h : Hdr) (d : List Byte) (s : State) :
    (s.submit k h d).bytes = s.bytes := by
  fun_cases State.submit k h d s
  all_goals simp +zetaDelta

/-! ### Timeout and deadline -/

@[simp] theorem bytes_giveUp (l : List (Nat × Nat)) (s : State) :
    (s.giveUp l).bytes = s.bytes := by simp [State.giveUp]

@[simp] theorem bytes_failSeeds (o : Nat) (s : State) : (s.failSeeds o).bytes = s.bytes := by simp [State.failSeeds]

@[simp] theorem ok_opDeadline (o : Nat) (s : State) (hok : s.bytes.Ok) : (s.opDeadline o).bytes.Ok := by
  have near (ready : List Nat) (stalled : List (Nat × Nat)) (u : State) (hu : u.bytes.Ok) :
      ((((ready.foldl (fun s l => s.nmLeaf o l) u).giveUp stalled).modOp o fun y => { y with
        lost := y.lost ++ y.todo, todo := [] }).nmFinish o).bytes.Ok := by
    rw [bytes_nmFinish, bytes_modOp, bytes_giveUp]
    exact ok_foldl _ (fun s l hs => ok_nmLeaf o l s hs) _ u hu
  unfold State.opDeadline
  split
  · exact hok
  · split
    · exact hok
    · dsimp only
      split
      · exact hok
      · split
        · exact near _ _ _ (by simpa using hok)
        · exact near _ _ _ (by simpa using hok)
        · exact near _ _ _ (by simpa using hok)
        · exact near _ _ _ (by simpa using hok)
        all_goals simp [hok]

/-! ### Contexts (R105 to R107) -/

@[simp] theorem bytes_sizePools (n : Nat) (s : State) : (s.sizePools n).bytes = s.bytes := (rfl)

@[simp] theorem bytes_startCtx (n c : Nat) (s : State) : (s.startCtx n c).bytes = s.bytes := by simp [State.startCtx]

@[simp] theorem bytes_beginScrub (n : Nat) (st : PressState) (s : State) :
    (s.beginScrub n st).bytes = s.bytes := (rfl)

@[simp] theorem bytes_abandon (n : Nat) (st : SeedState) (s : State) : (s.abandon n st).bytes = s.bytes := by
  unfold State.abandon
  split <;> simp

/-! ### The drill (R97) -/

@[simp] theorem bytes_askNext (i : Nat) (s : State) : (s.askNext i).bytes = s.bytes := by
  fun_cases State.askNext i s
  all_goals simp +zetaDelta

@[simp] theorem bytes_leafIn (i : Nat) (bad : Bool) (s : State) :
    (s.leafIn i bad).bytes = s.bytes := by simp [State.leafIn]

@[simp] theorem bytes_blockFaulty (i e k : Nat) (x : Extent) (f : BlockFault) (s : State) :
    (s.blockFaulty i e k x f).bytes = s.bytes := by simp [State.blockFaulty]

@[simp] theorem ok_drillError (i e l : Nat) (x : Extent) (injected : Bool) (s : State) (hok : s.bytes.Ok) :
    (s.drillError i e l x injected).bytes.Ok := by simp [State.drillError, hok]

/-! ### Engines and chains -/

@[simp] theorem bytes_replayChain (n : Nat) (c : Chain) (check : Bool) (s : State) :
    (s.replayChain n c check).bytes = s.bytes := by
  unfold State.replayChain
  dsimp only
  split <;> simp

/-! ### The end of a seed -/

@[simp] theorem bytes_failDependents (o index : Nat) (s : State) :
    (s.failDependents o index).bytes = s.bytes := by simp [State.failDependents]

@[simp] theorem bytes_meetDeps (n o index : Nat) (s : State) :
    (s.meetDeps n o index).bytes = s.bytes := by simp [State.meetDeps]

@[simp] theorem ok_seedEnds (o : Nat) (s : State) (hok : s.bytes.Ok) : (s.seedEnds o).bytes.Ok := by
  fun_cases State.seedEnds o s
  all_goals simp +zetaDelta [hok]

@[simp] theorem bytes_dropChains (i : Nat) (s : State) : (s.dropChains i).bytes = s.bytes := (rfl)

@[simp] theorem ok_failSeed (i : Nat) (s : State) (hok : s.bytes.Ok) : (s.failSeed i).bytes.Ok := by
  simp only [State.failSeed]
  repeat' split
  all_goals simp [hok]

@[simp] theorem ok_doneSeed (i : Nat) (s : State) (hok : s.bytes.Ok) : (s.doneSeed i).bytes.Ok := by
  simp only [State.doneSeed]
  repeat' split
  all_goals simp [hok]

/-! ### Fences, resets and the loss of a press (R341 to R345) -/

@[simp] theorem bytes_pressLost (o : Nat) (s : State) : (s.pressLost o).bytes = s.bytes := by
  unfold State.pressLost
  split <;> simp

@[simp] theorem bytes_moveSeed (i : Nat) (running : Bool) (s : State) : (s.moveSeed i running).bytes = s.bytes := by
  fun_cases State.moveSeed i running s
  all_goals simp +zetaDelta

@[simp] theorem bytes_goOffline (n : Nat) (s : State) : (s.goOffline n).bytes = s.bytes := by simp [State.goOffline]

@[simp] theorem bytes_setFence (n e : Nat) (s : State) : (s.setFence n e).bytes = s.bytes := by
  unfold State.setFence
  split <;> simp

@[simp] theorem bytes_fence (n e : Nat) (s : State) : (s.fence n e).bytes = s.bytes := by simp [State.fence]

@[simp] theorem bytes_resetPress (n : Nat) (s : State) :
    (s.resetPress n).bytes = s.bytes := by simp [State.resetPress]

/-! ### Resources (R283, R284, R115) -/

@[simp] theorem bytes_clearStacks (h : Nat) (mask : BitVec 8) (s : State) :
    (s.clearStacks h mask).bytes = s.bytes := by simp [State.clearStacks]

/-! ### Unbinding (R286, R289, R293) -/

@[simp] theorem bytes_freePair (src h : Nat) (s : State) : (s.freePair src h).bytes = s.bytes := (rfl)

@[simp] theorem bytes_silence (h lport node : Nat) (s : State) :
    (s.silence h lport node).bytes = s.bytes := by simp [State.silence]

@[simp] theorem bytes_unbind (h lport : Nat) (s : State) : (s.unbind h lport).bytes = s.bytes := by
  unfold State.unbind
  split <;> simp

@[simp] theorem ok_reclaimPort (h lport node : Nat) (s : State) (hok : s.bytes.Ok) :
    (s.reclaimPort h lport node).bytes.Ok :=
  ok_foldl _ (fun s a hs => ok_reclaimAgent a.1 a.2 s hs) _ s hok

@[simp] theorem ok_unbindAll (h : Nat) (s : State) (hok : s.bytes.Ok) : (s.unbindAll h).bytes.Ok :=
  ok_foldl _ (fun s m hs => ok_reclaimPort _ _ _ _ (by simpa using hs)) _ s hok

/-! ### The end of a composition's work (R288, R299) -/

@[simp] theorem bytes_endContexts (h : Nat) (s : State) :
    (s.endContexts h).bytes = s.bytes := by simp [State.endContexts]

@[simp] theorem bytes_dropOps (h : Nat) (s : State) : (s.dropOps h).bytes = s.bytes := by simp [State.dropOps]

@[simp] theorem bytes_holdExtent (e : Nat) (s : State) : (s.holdExtent e).bytes = s.bytes := by
  simp only [State.holdExtent]
  repeat' split
  all_goals simp

@[simp] theorem ok_expireComp (h : Nat) (s : State) (hok : s.bytes.Ok) : (s.expireComp h).bytes.Ok := by
  have unbound : ((s.modComp h fun c => { c with state := .expired }).unbindAll h).bytes.Ok := ok_unbindAll h _ (by simpa using hok)
  refine ok_settle _ ?_
  simpa using unbound

@[simp] theorem ok_expireMember (h lport : Nat) (s : State) (hok : s.bytes.Ok) :
    (s.expireMember h lport).bytes.Ok := by
  unfold State.expireMember
  split
  · exact hok
  · refine ok_settle _ ?_
    simp [hok]

@[simp] theorem ok_abortOldEpoch (h : Nat) (s : State) (hok : s.bytes.Ok) : (s.abortOldEpoch h).bytes.Ok := by
  unfold State.abortOldEpoch
  split
  · exact hok
  · refine ok_settle _ ?_
    rw [bytes_bumpCompBy, bytes_bumpCompBy, bytes_foldl, bytes_foldl _ fun u i => bytes_modStep i _ u]
    · exact hok
    · intro u q
      dsimp only
      split <;> simp

/-! ### Records -/

@[simp] theorem bytes_freeHandle (h : Nat) (s : State) :
    (s.freeHandle h).bytes = s.bytes := by simp [State.freeHandle]

/-! ### Chains -/

@[simp] theorem bytes_setChain (n : Nat) (c d : Chain) (s : State) :
    (s.setChain n c d).bytes = s.bytes := by simp [State.setChain]

@[simp] theorem bytes_tileAgrees (n : Nat) (c : Chain) (s : State) : (s.tileAgrees n c).bytes = s.bytes := (rfl)

/-! ### The step ledger -/

@[simp] theorem ok_ledgerCopy (o c node addr : Nat) (b : List Byte) (s : State) (hok : s.bytes.Ok) :
    (s.ledgerCopy o c node addr b).bytes.Ok := by simp [State.ledgerCopy, hok]

/-! ### Sweeps (R347, R348) -/

@[simp] theorem bytes_sweepPass (n e : Nat) (s : State) : (s.sweepPass n e).bytes = s.bytes := (rfl)

@[simp] theorem bytes_settleTies (n e : Nat) (s : State) : (s.settleTies n e).bytes = s.bytes := by
  unfold State.settleTies
  split <;> simp

/-! ### Banks and manifests (R397, R398) -/

@[simp] theorem bytes_setBank (n : Nat) (b : Bank) (s : State) :
    (s.setBank n b).bytes = s.bytes := by simp [State.setBank]

/-! ### The journal (R404) -/

@[simp] theorem bytes_journal (step path outcome unit detail : Nat) (s : State) :
    (s.journal step path outcome unit detail).bytes = s.bytes := (rfl)

@[simp] theorem bytes_started (n detail : Nat) (s : State) : (s.started n detail).bytes = s.bytes := (rfl)

/-! ### Resets -/

/-- A reset empties the pool, and keeps the image or drops it. -/
@[simp] theorem ok_clearAll (retain power : Bool) (s : State) (hok : s.bytes.Ok) : (s.clearAll retain power).bytes.Ok := by
  have image : (s.clearAll retain power).image = if s.image.isSome && !power then s.image else none := rfl
  refine ⟨rfl, ?_⟩
  rw [State.bytes, image]
  split
  · exact hok.2
  · rfl

@[simp] theorem bytes_startBoot (deep : Bool) (s : State) :
    (s.startBoot deep).bytes = s.bytes := by simp [State.startBoot]

@[simp] theorem ok_resetInto (retain : Bool) (s : State) (hok : s.bytes.Ok) :
    (s.resetInto retain).bytes.Ok := by simp [State.resetInto, hok]

/-! ### FAULTED (R371, R406) -/

@[simp] theorem bytes_toFaulted (s : State) : (s.toFaulted).bytes = s.bytes := by simp [State.toFaulted]

@[simp] theorem bytes_bootFaulted (n : Nat) (s : State) :
    (s.bootFaulted n).bytes = s.bytes := by simp [State.bootFaulted]

/-! ### Boot steps (R400 to R405) -/

@[simp] theorem ok_dropImage (s : State) (hok : s.bytes.Ok) : s.dropImage.bytes.Ok := ⟨hok.1, rfl⟩

@[simp] theorem bytes_takeAlternate (n : Nat) (s : State) :
    (s.takeAlternate n).bytes = s.bytes := by simp [State.takeAlternate]

@[simp] theorem bytes_takeSkip (n : Nat) (s : State) : (s.takeSkip n).bytes = s.bytes := by simp [State.takeSkip]

@[simp] theorem bytes_bootRevert (s : State) : (s.bootRevert).bytes = s.bytes := by simp [State.bootRevert]

@[simp] theorem bytes_applyStored (only : Nat → Bool) (s : State) :
    (s.applyStored only).bytes = s.bytes := by simp [State.applyStored]

@[simp] theorem ok_restoreImage (s : State) (hok : s.bytes.Ok) : s.restoreImage.bytes.Ok := by
  unfold State.restoreImage
  split
  · exact hok
  · next i hi =>
    have wf : Memory.wf i.pool.mem = true := by
      have h := hok.2
      rwa [State.bytes, hi] at h
    rw [bytes_foldl, bytes_resumeLeases]
    · exact ⟨wf, rfl⟩
    · intro s q
      refine bytes_foldl _ (fun s c => ?_) _ s
      split
      · refine bytes_foldl _ (fun s l => ?_) _ s
        split <;> simp
      · rfl

@[simp] theorem bytes_bootSweep (s : State) : (s.bootSweep).bytes = s.bytes := by simp [State.bootSweep]

@[simp] theorem ok_stepEffect (n : Nat) (s : State) (hok : s.bytes.Ok) :
    (s.stepEffect n).bytes.Ok := by simp [State.stepEffect, hok]

@[simp] theorem bytes_startPorts (s : State) : (s.startPorts).bytes = s.bytes := by simp [State.startPorts]

@[simp] theorem ok_beginStep (n : Nat) (s : State) (hok : s.bytes.Ok) :
    (s.beginStep n).bytes.Ok := by simp [State.beginStep, hok]

@[simp] theorem ok_stepFailed (n unit : Nat) (again : Bool) (s : State) (hok : s.bytes.Ok) :
    (s.stepFailed n unit again).bytes.Ok := by simp [State.stepFailed, hok]

@[simp] theorem ok_readJournal (s : State) (hok : s.bytes.Ok) : (s.readJournal).bytes.Ok := by
  unfold State.readJournal
  dsimp only
  split <;> simp [hok]

@[simp] theorem bytes_bootComplete (s : State) : (s.bootComplete).bytes = s.bytes := by simp [State.bootComplete]

@[simp] theorem ok_nextStep (n : Nat) (s : State) (hok : s.bytes.Ok) :
    (s.nextStep n).bytes.Ok := by simp [State.nextStep, hok]

/-! ### Restarts of management cores (R21) -/

@[simp] theorem bytes_restartCore (n : Nat) (s : State) :
    (s.restartCore n).bytes = s.bytes := by simp [State.restartCore]

/-! ### Unit switches (Table FW-6) -/

@[simp] theorem bytes_retrainPorts (ps : List Nat) (s : State) :
    (s.retrainPorts ps).bytes = s.bytes := by simp [State.retrainPorts]

@[simp] theorem bytes_beginUnit (u : SwUnit) (s : State) : (s.beginUnit u).bytes = s.bytes := by
  fun_cases State.beginUnit u s
  all_goals simp +zetaDelta

@[simp] theorem bytes_beginSwitch (s : State) : (s.beginSwitch).bytes = s.bytes := by simp [State.beginSwitch]

@[simp] theorem bytes_returnDevice (s : State) : (s.returnDevice).bytes = s.bytes := by simp [State.returnDevice]

@[simp] theorem bytes_answerActivate (st : Nat) (items : List Item) (s : State) :
    (s.answerActivate st items).bytes = s.bytes := by
  unfold State.answerActivate
  split <;> simp

@[simp] theorem bytes_startRevert (s : State) : (s.startRevert).bytes = s.bytes := by simp [State.startRevert]

@[simp] theorem bytes_eraseBank (n : Nat) (s : State) : (s.eraseBank n).bytes = s.bytes := (rfl)

@[simp] theorem ok_endRevert (s : State) (hok : s.bytes.Ok) : (s.endRevert).bytes.Ok := by simp [State.endRevert, hok]

@[simp] theorem bytes_endActivation (s : State) : (s.endActivation).bytes = s.bytes := by simp [State.endActivation]

@[simp] theorem ok_commit (s : State) (hok : s.bytes.Ok) : (s.commit).bytes.Ok := by simp [State.commit, hok]

/-! ### Attestation (R307 to R311). A reply's first item is the SPDM response code (log entry 33). -/

@[simp] theorem bytes_spdmError (code : Nat) (s : State) : (spdmError code s).1.bytes = s.bytes := (rfl)

theorem ok_attest (f : State → Res) (s : State) (hf : (f s).1.bytes.Ok) (hok : s.bytes.Ok) :
    (attest f s).1.bytes.Ok := by
  unfold attest
  split
  · exact hf
  · exact hok

theorem ok_onSession (i : Nat) (finished : Bool) (f : State → Res) (s : State) (hf : (f s).1.bytes.Ok) (hok : s.bytes.Ok) :
    (onSession i finished f s).1.bytes.Ok := by
  unfold onSession
  split
  · simp [hok]
  · split
    · exact hf
    · simp [hok]

/-! ### Weight binding (R322, R323) -/

@[simp] theorem bytes_bindRecord (h : Nat) (y : Comp) (b : List Byte) (sigOk unwrapOk : Bool) (s : State) :
    (bindRecord h y b sigOk unwrapOk s).1.bytes = s.bytes := by
  simp only [bindRecord]
  repeat' split
  all_goals simp

/-! ### Imports and exports (R312, R313) -/

@[simp] theorem bytes_keepIo (c : Ctx) (st : Nat) (items : List Item) (s : State) :
    (s.keepIo c st items).bytes = s.bytes := (rfl)

theorem ok_importChunk (be bo len de : Nat) (key : Digest) (m : Importing) (tagOk : Bool) (hok : m.state.bytes.Ok) :
    (importChunk be bo len de key m tagOk).state.bytes.Ok := by
  fun_cases importChunk be bo len de key m tagOk <;> simp +zetaDelta [hok]

theorem ok_importChunks (be bo len de : Nat) (key : Digest) (tags : List Bool) (m : Importing) (hok : m.state.bytes.Ok) :
    (tags.foldl (importChunk be bo len de key) m).state.bytes.Ok :=
  List.foldlRecOn (motive := fun m : Importing => m.state.bytes.Ok) _ _ hok fun m hm b _ => ok_importChunk _ _ _ _ _ m b hm

@[simp] theorem ok_runImport (c : Ctx) (h be bo len de : Nat) (slot : Option Nat) (tags : List Bool) (s : State) (hok : s.bytes.Ok) :
    (runImport c h be bo len de slot tags s).bytes.Ok := by
  fun_cases runImport c h be bo len de slot tags s <;> simp +zetaDelta [apply_ite Importing.state, ok_importChunks, hok]

/-! ### Debug states (R326 to R330) -/

@[simp] theorem bytes_badToken (s : State) : (badToken s).1.bytes = s.bytes := (rfl)

@[simp] theorem bytes_modSec (f : Sec → Sec) (s : State) : (s.modSec f).bytes = s.bytes := (rfl)

@[simp] theorem bytes_dropLinkKeys (s : State) : (s.dropLinkKeys).bytes = s.bytes := by simp [State.dropLinkKeys]

@[simp] theorem bytes_scrubAll (s : State) : (s.scrubAll).bytes = s.bytes := by simp [State.scrubAll]

@[simp] theorem bytes_zeroise (keep : Option Nat) (s : State) :
    (s.zeroise keep).bytes = s.bytes := by simp [State.zeroise]

@[simp] theorem bytes_debugWrongState (s : State) : (debugWrongState s).1.bytes = s.bytes := (rfl)

@[simp] theorem bytes_debugEnterBody (c : Ctx) (t : Token) (s : State) :
    (debugEnterBody c t s).1.bytes = s.bytes := by
  fun_cases debugEnterBody c t s
  all_goals simp +zetaDelta

/-! ### Sampling and flushing -/

@[simp] theorem bytes_showSample (id : Nat) (v : Int) (s : State) :
    (s.showSample id v).bytes = s.bytes := by simp [State.showSample]

/-! ### Commands -/

@[simp] theorem bytes_clearRecords (ids : List Nat) (signer : Digest) (s : State) :
    (s.clearRecords ids signer).bytes = s.bytes := by simp [State.clearRecords]

/-! ### Compositions -/

@[simp] theorem bytes_recallPort (h lport node : Nat) (s : State) :
    (s.recallPort h lport node).bytes = s.bytes := by simp [State.recallPort]

/-! ### Updates (R407 to R411) -/

theorem ok_withUpdate (h : Nat) (f : State → Res) (s : State) (hf : (f s).1.bytes.Ok) (hok : s.bytes.Ok) :
    (withUpdate h f s).1.bytes.Ok := by
  unfold withUpdate
  split
  · exact hok
  · exact hf

/-- The end of a press reset leaves the pool. -/
theorem bytes_pressResetDone (press : Nat) (microOk : Bool) (failed : BitVec 5) (s t : State)
    (ht : execPressResetDone press microOk failed s = .next t) : t.bytes = s.bytes := by
  have swept (u : State) : ((List.range 5).foldl (fun s e =>
      if failed.getLsbD e then (s.bump Reg.FT_CNT_SWEEP_FAIL).setFence press e else s.sweepPass press e) u).bytes = u.bytes := by
    refine bytes_foldl _ (fun s e => ?_) _ u
    split <;> simp
  cases ht
  split
  · rfl
  · split
    · rfl
    · dsimp only
      split <;> split <;> simp [swept]

/-! ### Activation and revert (R412 to R415) -/

@[simp] theorem bytes_unitDone (u : SwUnit) (s : State) : (s.unitDone u).bytes = s.bytes := by
  unfold State.unitDone
  split
  · simp
  · split
    · split
      · next h => exact bytes_pressResetDone _ _ _ _ _ h
      · rfl
    · rfl
  · simp
  · rfl

@[simp] theorem bytes_unitLeaves (u : SwUnit) (s : State) : (s.unitLeaves u).bytes = s.bytes := by
  unfold State.unitLeaves
  dsimp only
  split <;> simp

/-! ### Reduce groups -/

@[simp] theorem bytes_abortGroup (g : Nat) (s : State) :
    (s.abortGroup g).2.bytes = s.bytes := by simp [State.abortGroup]

/-! ### Supplies, RESET_N, WAKE_N, rails -/

@[simp] theorem ok_powerDown (s : State) (hok : s.bytes.Ok) : s.powerDown.bytes.Ok :=
  ⟨(ok_clearAll false true s hok).1, hok.2⟩

@[simp] theorem ok_bootFromOff (s : State) (hok : s.bytes.Ok) :
    (s.bootFromOff).bytes.Ok := by simp [State.bootFromOff, hok]

@[simp] theorem ok_losePower (s : State) (hok : s.bytes.Ok) : (s.losePower).bytes.Ok := by simp [State.losePower, hok]

@[simp] theorem bytes_wakeDeep (s : State) : (s.wakeDeep).bytes = s.bytes := (rfl)

/-! ### PPS_IN (R428) -/

@[simp] theorem bytes_stepTime (t : Nat) (s : State) : (s.stepTime t).bytes = s.bytes := by simp [State.stepTime]

theorem bytes_setClk (k : Clock) (s : State) : ({ s with clk := k } : State).bytes = s.bytes := (rfl)

/-- Each way to set the clock right keeps the bytes. -/
theorem bytes_stepOr (u : State) (c d : Prop) [Decidable c] [Decidable d] (n m : Nat) (k : Clock) :
    (if c then u.stepTime n else if d then u.stepTime m else { u with clk := k }).bytes = u.bytes := by
  simp only [bytes_mk, bytes_eta, bytes_ite, bytes_stepTime, ite_self]

@[simp] theorem bytes_alignTime (t : Nat) (s : State) : (s.alignTime t).bytes = s.bytes := by
  unfold State.alignTime
  extract_lets second e clk0 s1 clk1 s2 clk2
  have stepped : s2.bytes = s1.bytes := bytes_stepOr s1 _ _ _ _ _
  exact (bytes_setClk _ s2).trans (stepped.trans (bytes_setClk _ s))

/-! ### Throttling and the thermal trip (R325, R435) -/

@[simp] theorem bytes_setTemps (d0 d1 : Nat) (s : State) : (s.setTemps d0 d1).bytes = s.bytes := (rfl)

@[simp] theorem bytes_setThrottle (n : Nat) (s : State) : (s.setThrottle n).bytes = s.bytes := by
  unfold State.setThrottle
  split <;> simp

/-! ### The event controller's rows -/

theorem ok_withSub (c : Ctx) (k : Nat) (f : State → Res) (s : State) (hf : (f s).1.bytes.Ok) (hok : s.bytes.Ok) :
    (withSub c k f s).1.bytes.Ok := by
  unfold withSub
  split
  · exact hf
  · exact hok

/-! ### STANDBY and DEEP_STANDBY (R391 to R394) -/

@[simp] theorem bytes_answerPower (i q st : Nat) (items : List Item) (s : State) :
    (s.answerPower i q st items).bytes = s.bytes := by simp [State.answerPower]

@[simp] theorem bytes_beginPower (i q target : Nat) (s : State) :
    (s.beginPower i q target).bytes = s.bytes := by simp [State.beginPower]

@[simp] theorem bytes_nextPower (n : Nat) (s : State) : (State.nextPower n s).bytes = s.bytes := by
  induction n generalizing s with
  | zero => rfl
  | succ n ih =>
    rw [State.nextPower]
    split
    · rfl
    · split
      · rfl
      · dsimp only
        split <;> (rw [ih]; simp)

@[simp] theorem bytes_endEntry (s : State) : s.endEntry.bytes = s.bytes := by simp [State.endEntry]

@[simp] theorem bytes_portsOff (s : State) : (s.portsOff).bytes = s.bytes := by simp [State.portsOff]

@[simp] theorem bytes_stopMoves (s : State) : (s.stopMoves).bytes = s.bytes := (rfl)

@[simp] theorem bytes_enterStandby (q : Quiesce) (s : State) : (s.enterStandby q).bytes = s.bytes := by
  unfold State.enterStandby
  dsimp only
  rw [bytes_nextPower]
  split <;> simp

@[simp] theorem bytes_startFlush (s : State) : s.startFlush.bytes = s.bytes := by
  unfold State.startFlush
  dsimp only
  rw [bytes_foldl, bytes_foldl, bytes_modDev]
  · exact fun s q => bytes_foldl _ (fun s e => bytes_recallLine ..) _ s
  · intro s q
    rw [bytes_foldl, bytes_writeBackExtent]
    intro s c
    split <;> simp

/-- The image holds the bytes of the pool. -/
theorem ok_saveImage (s : State) (d : Device) (hok : s.bytes.Ok) :
    ({ s with image := some s.saveImage, dev := d } : State).bytes.Ok := ⟨hok.1, hok.1⟩

@[simp] theorem ok_enterDeep (q : Quiesce) (s : State) (hok : s.bytes.Ok) : (s.enterDeep q).bytes.Ok := by
  unfold State.enterDeep
  split
  · simpa using hok
  · dsimp only
    split
    all_goals
      simp only [bytes_wakeDeep, bytes_mk, bytes_eta]
      refine ok_clearAll _ _ _ ?_
      rw [bytes_foldl _ fun s k => bytes_targetGone k s, bytes_foldl _ fun s k => bytes_unsubscribe k s]
      refine ok_saveImage _ _ ?_
      simpa using hok

@[simp] theorem bytes_entryLost (q : Quiesce) (s : State) :
    (s.entryLost q).bytes = s.bytes := by simp [State.entryLost]

/-! ### FENCE (R203, R204) -/

@[simp] theorem bytes_endFence (f : Fence) (st : Nat) (data : List Byte) (s : State) :
    (s.endFence f st data).bytes = s.bytes := by simp [State.endFence]

/-! ### Responses and forwarding -/

@[simp] theorem bytes_closeOwn (tag : Nat) (s : State) : (s.closeOwn tag).bytes = s.bytes := (rfl)

/-! ### One step of the block -/

@[simp] theorem bytes_idle (s : State) : (idle s).bytes = s.bytes := by simp [idle]

end Sys2Proof.Machine

end

section

/-! Settling O5, the commands: what each of them leaves keeps the canonical form of the pool's bytes. A Nirod command
changes them by its body alone (`outOk_nirod`). -/

namespace Sys2Proof.Machine

/-- The canonical form in what a command leaves. -/
def OutOk (o : Out) : Prop := ∀ t, o = .next t → t.bytes.Ok

@[simp] theorem outOk_next {s : State} : OutOk (.next s) ↔ s.bytes.Ok :=
  ⟨fun h => h s rfl, fun h _ e => by cases e; exact h⟩

theorem outOk_nirodFull {i : Instr} {c : Ctx} {k : Cmd} {tg : Target} {legalNow : State → Nat} {body : State → Res} {s : State}
    (hbody : ∀ u, u.bytes.Ok → (body u).1.bytes.Ok) (hok : s.bytes.Ok) : OutOk (.next (nirodFull i c k tg legalNow body s)) :=
  outOk_next.2 (ok_nirodFull i c k tg legalNow hbody hok)

theorem outOk_nirod {i : Instr} {c : Ctx} {k : Cmd} {tg : Target} {body : State → Res} {s : State}
    (hbody : ∀ u, u.bytes.Ok → (body u).1.bytes.Ok) (hok : s.bytes.Ok) : OutOk (.next (nirod i c k tg body s)) :=
  outOk_nirodFull hbody hok

/-! ### Egress (R228, R234, R235, R236, R242, R258) -/

theorem ok_execEgressSend (lport : Nat) (s : State) (hok : s.bytes.Ok) : OutOk (execEgressSend lport s) := by
  unfold execEgressSend
  refine outOk_next.2 ?_
  split
  · exact hok
  · refine iteInduction (motive := fun t : State => t.bytes.Ok) (fun _ => hok) fun _ => ?_
    extract_lets
    refine iteInduction (motive := fun t : State => t.bytes.Ok) (fun _ => hok) fun _ => ?_
    refine iteInduction (motive := fun t : State => t.bytes.Ok) (fun _ => by simp [hok]) fun _ => ?_
    refine iteInduction (motive := fun t : State => t.bytes.Ok) (fun _ => ?_) fun _ => ?_
    · split <;> simp [hok]
    · split
      · exact hok
      · split <;> simp [hok]

theorem ok_execEscapeWaitExpiry (lport vc : Nat) (s : State) (hok : s.bytes.Ok) :
    OutOk (execEscapeWaitExpiry lport vc s) := by
  unfold execEscapeWaitExpiry
  dsimp only
  repeat' split
  all_goals simp [hok]

theorem ok_execSpillFetchDone (lport queue : Nat) (s : State) (hok : s.bytes.Ok) :
    OutOk (execSpillFetchDone lport queue s) := by
  unfold execSpillFetchDone
  split <;> simp [hok]

/-! ### Shapers and samples (R236 to R238) -/

theorem ok_execShaperRefill (s : State) (hok : s.bytes.Ok) :
    OutOk (execShaperRefill s) := by simp [execShaperRefill, hok]

theorem ok_execQueueSample (s : State) (hok : s.bytes.Ok) :
    OutOk (execQueueSample s) := by simp [execQueueSample, hok]

theorem ok_execFurrowSlotChange (s : State) (hok : s.bytes.Ok) :
    OutOk (execFurrowSlotChange s) := by simp [execFurrowSlotChange, hok]

/-! ### PROBE (R270, Table TP-1) -/

theorem ok_execProbe (lport : Nat) (r : ProbeRec) (s : State) (hok : s.bytes.Ok) : OutOk (execProbe lport r s) := by
  unfold execProbe
  split <;> simp [hok]

theorem ok_execProbeAnswer (lport : Nat) (r : ProbeRec) (s : State) (hok : s.bytes.Ok) :
    OutOk (execProbeAnswer lport r s) := by
  unfold execProbeAnswer
  split <;> simp [hok]

theorem ok_execProbeInterval (s : State) (hok : s.bytes.Ok) :
    OutOk (execProbeInterval s) := by simp [execProbeInterval, hok]

theorem ok_execLabNodeCandidate (s : State) (hok : s.bytes.Ok) : OutOk (execLabNodeCandidate s) := by
  unfold execLabNodeCandidate
  dsimp only
  repeat' split
  all_goals simp [hok]

/-! ### Topology commands (Table TP-5) -/

theorem ok_execNodeIdSet (c : Ctx) (node : Nat) (s : State) (hok : s.bytes.Ok) : OutOk (execNodeIdSet c node s) := by
  refine outOk_nirod (fun u hu => ?_) hok
  split <;> simp [hu]

theorem ok_execRouteSet (c : Ctx) (first : Nat) (entries : List RouteReq) (s : State) (hok : s.bytes.Ok) :
    OutOk (execRouteSet c first entries s) := by
  refine outOk_nirod (fun u hu => ?_) hok
  dsimp only
  repeat' split
  all_goals simp [hu]

theorem ok_execRouteGet (c : Ctx) (first count : Nat) (s : State) (hok : s.bytes.Ok) :
    OutOk (execRouteGet c first count s) := by
  refine outOk_nirod (fun u hu => ?_) hok
  repeat' split
  all_goals simp [hu]

theorem ok_execNeighbourList (c : Ctx) (s : State) (hok : s.bytes.Ok) : OutOk (execNeighbourList c s) := by
  refine outOk_nirod (fun u hu => ?_) hok
  simp [hu]

theorem ok_execNeighbourAccept (c : Ctx) (lport : Nat) (s : State) (hok : s.bytes.Ok) :
    OutOk (execNeighbourAccept c lport s) := by
  refine outOk_nirod (fun u hu => ?_) hok
  split
  · split <;> simp [hu]
  · simp [hu]

/-! ### ROUTE_UPDATE (R274) -/

theorem ok_execRouteUpdateWithdraw (h : Hdr) (_epoch count resv : Nat) (nodes : List Nat) (s : State)
    (hok : s.bytes.Ok) :
    OutOk (execRouteUpdateWithdraw h _epoch count resv nodes s) := by simp [execRouteUpdateWithdraw, hok]

theorem ok_execRouteUpdateRestore (h : Hdr) (_epoch count resv : Nat) (nodes : List Nat) (s : State)
    (hok : s.bytes.Ok) :
    OutOk (execRouteUpdateRestore h _epoch count resv nodes s) := by simp [execRouteUpdateRestore, hok]

theorem ok_execRouteUpdateAck (h : Hdr) (s : State) (hok : s.bytes.Ok) : OutOk (execRouteUpdateAck h s) := by
  have kept : ((s.mgmtIngress 0xE1 h).getD s).bytes = s.bytes := by
    cases e : s.mgmtIngress 0xE1 h with
    | none => rfl
    | some t => exact bytes_mgmtIngress e
  exact outOk_next.2 (kept ▸ hok)

/-! ### Packets held for lack of a route (R275) -/

theorem ok_execNoRouteWaitExpiry (held : Nat) (s : State) (hok : s.bytes.Ok) :
    OutOk (execNoRouteWaitExpiry held s) := by
  unfold execNoRouteWaitExpiry
  split <;> simp [hok]

theorem ok_execHeldRequestSend (held : Nat) (s : State) (hok : s.bytes.Ok) : OutOk (execHeldRequestSend held s) := by
  unfold execHeldRequestSend
  split
  · exact outOk_next.2 hok
  · split <;> simp [hok]

/-! ### What an operation waits for -/

theorem ok_execNmLeafDone (op leaf : Nat) (s : State) (hok : s.bytes.Ok) :
    OutOk (execNmLeafDone op leaf s) := by simp [execNmLeafDone, hok]

/-! ### Uncorrectable errors -/

theorem ok_execT1AccessDone (e leaf : Nat) (mirror : Bool) (a : Answer) (s : State) (hok : s.bytes.Ok) :
    OutOk (execT1AccessDone e leaf mirror a s) := by
  unfold execT1AccessDone
  split <;> simp [hok]

/-! ### Late answers (R58, R47) -/

theorem ok_execT1LateThreshold (e leaf : Nat) (s : State) (hok : s.bytes.Ok) :
    OutOk (execT1LateThreshold e leaf s) := by
  unfold execT1LateThreshold
  split
  · exact outOk_next.2 hok
  · extract_lets waiting all t landing one
    split
    · exact outOk_next.2 hok
    · have kept (i : Nat) (s : State) : (one i s).bytes = s.bytes := by
        unfold one
        extract_lets l ops down s'
        have hs : s'.bytes = s.bytes := by unfold s'; split <;> simp
        split
        · rfl
        · split
          · exact hs
          · repeat' split
            all_goals simp [hs]
      simp [kept, t, hok]

theorem ok_execT2LateThreshold (e leaf : Nat) (s : State) (hok : s.bytes.Ok) :
    OutOk (execT2LateThreshold e leaf s) := by simp [execT2LateThreshold, hok]

/-! ### Leaf moves (R26, R45, R46) -/

theorem ok_execLeafCopyDone (e leaf : Nat) (s : State) (hok : s.bytes.Ok) : OutOk (execLeafCopyDone e leaf s) := by
  unfold execLeafCopyDone
  split <;> simp [hok]

theorem ok_execWriteBackDone (e leaf : Nat) (s : State) (hok : s.bytes.Ok) : OutOk (execWriteBackDone e leaf s) := by
  unfold execWriteBackDone
  split <;> simp [hok]

theorem ok_execBackgroundMoveStart (tray : Nat) (s : State) (hok : s.bytes.Ok) :
    OutOk (execBackgroundMoveStart tray s) := by
  unfold execBackgroundMoveStart
  split
  · exact outOk_next.2 hok
  · split <;> simp [hok]

/-! ### Mirror and replica recovery -/

theorem ok_execMirrorRebuildDone (e chunk : Nat) (s : State) (hok : s.bytes.Ok) :
    OutOk (execMirrorRebuildDone e chunk s) := by
  unfold execMirrorRebuildDone
  dsimp only
  repeat' split
  all_goals simp [hok]

theorem ok_execReplicaFetchDone (e leaf : Nat) (ok : Bool) (s : State) (hok : s.bytes.Ok) :
    OutOk (execReplicaFetchDone e leaf ok s) := by
  unfold execReplicaFetchDone
  split <;> simp [hok]

theorem ok_execReplicaFetchRetry (e leaf : Nat) (s : State) (hok : s.bytes.Ok) :
    OutOk (execReplicaFetchRetry e leaf s) := by simp [execReplicaFetchRetry, hok]

/-! ### The placement tick -/

theorem ok_execRecencyTick (s : State) (hok : s.bytes.Ok) :
    OutOk (execRecencyTick s) := by simp [execRecencyTick, hok]

theorem ok_execAgePass (s : State) (hok : s.bytes.Ok) : OutOk (execAgePass s) := by simp [execAgePass, hok]

/-! ### Packets (R358, R359, R361, R368 steps 1 to 7) -/

theorem ok_execNirodPartReceive (p : NirodPart) (s : State) (hok : s.bytes.Ok) :
    OutOk (execNirodPartReceive p s) := by
  unfold execNirodPartReceive
  simp [hok]

theorem ok_execPartTimeout (session seq : Nat) (s : State) (hok : s.bytes.Ok) :
    OutOk (execPartTimeout session seq s) := by
  unfold execPartTimeout
  split <;> simp [hok]

theorem ok_execSessionIdleTimeout (session : Nat) (s : State) (hok : s.bytes.Ok) :
    OutOk (execSessionIdleTimeout session s) := by
  unfold execSessionIdleTimeout
  split <;> simp [hok]

theorem ok_execSnapshotExpiry (session snap : Nat) (s : State) (hok : s.bytes.Ok) :
    OutOk (execSnapshotExpiry session snap s) := by
  unfold execSnapshotExpiry
  split <;> simp [hok]

theorem ok_execNeighbourDiscoveryEchoArp (k : NetKind) (s : State) (hok : s.bytes.Ok) :
    OutOk (execNeighbourDiscoveryEchoArp k s) := by
  unfold execNeighbourDiscoveryEchoArp
  split
  · exact outOk_next.2 hok
  · split
    · simp [hok]
    · simp [hok]
    · split <;> simp [hok]
    · exact outOk_next.2 hok

/-! ### Sessions and device state (Table CM-4, 0x0001 to 0x0005) -/

theorem ok_execSessionOpen (c : Ctx) (cls compId spdm partBytes : Nat) (s : State) (hok : s.bytes.Ok) :
    OutOk (execSessionOpen c cls compId spdm partBytes s) := by
  refine outOk_nirod (fun u hu => ?_) hok
  simp [hu]

theorem ok_execSessionClose (c : Ctx) (s : State) (hok : s.bytes.Ok) : OutOk (execSessionClose c s) := by
  refine outOk_nirod (fun u hu => ?_) hok
  simp [hu]

theorem ok_execNop (c : Ctx) (s : State) (hok : s.bytes.Ok) : OutOk (execNop c s) := by
  refine outOk_nirod (fun u hu => ?_) hok
  simp [hu]

theorem ok_execDeviceInfo (c : Ctx) (s : State) (hok : s.bytes.Ok) : OutOk (execDeviceInfo c s) := by
  refine outOk_nirod (fun u hu => ?_) hok
  simp [hu]

theorem ok_execDeviceStateSet (c : Ctx) (target : Nat) (s : State) (hok : s.bytes.Ok) :
    OutOk (execDeviceStateSet c target s) := by
  refine outOk_nirodFull (fun u hu => ?_) hok
  simp [hu]

/-! ### Field encodings of read-only registers -/

@[simp] theorem bytes_csrReads (addrs : List Nat) (s : State) : (s.csrReads addrs).2.bytes = s.bytes := by
  induction addrs generalizing s with
  | nil => rfl
  | cons a l ih => exact (ih _).trans (bytes_csrRead a s)

/-! ### Registers (R374) -/

theorem ok_execCsrRead (c : Ctx) (addrs : List Nat) (s : State) (hok : s.bytes.Ok) :
    OutOk (execCsrRead c addrs s) := by
  refine outOk_nirod (fun u hu => ?_) hok
  split
  · simp [hu]
  · split <;> simp [hu]

theorem ok_execCsrWrite (c : Ctx) (pairs : List (Nat × Word)) (s : State) (hok : s.bytes.Ok) :
    OutOk (execCsrWrite c pairs s) := by
  refine outOk_nirod (fun u hu => ?_) hok
  simp [hu]

theorem ok_execLockSet (c : Ctx) (addr : Nat) (value : Word) (s : State) (hok : s.bytes.Ok) :
    OutOk (execLockSet c addr value s) := by
  refine outOk_nirod (fun u hu => ?_) hok
  simp [hu]

theorem ok_execEvcSoftSetWrite (c : Ctx) (value : Word) (s : State) (hok : s.bytes.Ok) :
    OutOk (execEvcSoftSetWrite c value s) := by
  refine outOk_nirod (fun u hu => ?_) hok
  simp [hu]

theorem ok_execEvcPendingClear (c : Ctx) (value : Word) (setInSameCycle : Bool) (s : State) (hok : s.bytes.Ok) :
    OutOk (execEvcPendingClear c value setInSameCycle s) := by
  refine outOk_nirod (fun u hu => ?_) hok
  simp [hu]

theorem ok_execEvcTgtClaimRead (core : Nat) (s : State) (hok : s.bytes.Ok) :
    OutOk (execEvcTgtClaimRead core s) := by simp [execEvcTgtClaimRead, hok]

theorem ok_execEvcTgtCompleteWrite (core : Nat) (value : Word) (s : State) (hok : s.bytes.Ok) :
    OutOk (execEvcTgtCompleteWrite core value s) := by simp [execEvcTgtCompleteWrite, hok]

theorem ok_execSwHistClear (c : Ctx) (value : Word) (s : State) (hok : s.bytes.Ok) :
    OutOk (execSwHistClear c value s) := by
  refine outOk_nirod (fun u hu => ?_) hok
  simp [hu]

theorem ok_execSwQShaperWrite (c : Ctx) (addr : Nat) (value : Word) (s : State) (hok : s.bytes.Ok) :
    OutOk (execSwQShaperWrite c addr value s) := by
  refine outOk_nirod (fun u hu => ?_) hok
  simp [hu]

theorem ok_execFurrowSlotWrite (c : Ctx) (slot : Nat) (value : Word) (s : State) (hok : s.bytes.Ok) :
    OutOk (execFurrowSlotWrite c slot value s) := by
  refine outOk_nirod (fun u hu => ?_) hok
  split <;> simp [hu]

theorem ok_execJrnClearPaths (c : Ctx) (value : Word) (s : State) (hok : s.bytes.Ok) :
    OutOk (execJrnClearPaths c value s) := by
  refine outOk_nirod (fun u hu => ?_) hok
  simp [hu]

theorem ok_execJrnSelWrite (c : Ctx) (value : Word) (s : State) (hok : s.bytes.Ok) :
    OutOk (execJrnSelWrite c value s) := by
  refine outOk_nirod (fun u hu => ?_) hok
  simp [hu]

theorem ok_execRecClogSelWrite (c : Ctx) (value : Word) (s : State) (hok : s.bytes.Ok) :
    OutOk (execRecClogSelWrite c value s) := by
  refine outOk_nirod (fun u hu => ?_) hok
  simp [hu]

theorem ok_execLkPortEnable (c : Ctx) (value : Word) (s : State) (hok : s.bytes.Ok) :
    OutOk (execLkPortEnable c value s) := by
  refine outOk_nirod (fun u hu => ?_) hok
  simp [hu]

theorem ok_execLkPortDisable (c : Ctx) (value : Word) (s : State) (hok : s.bytes.Ok) :
    OutOk (execLkPortDisable c value s) := by
  refine outOk_nirod (fun u hu => ?_) hok
  simp [hu]

theorem ok_execLkSplitSet (c : Ctx) (value : Word) (s : State) (hok : s.bytes.Ok) :
    OutOk (execLkSplitSet c value s) := by
  refine outOk_nirod (fun u hu => ?_) hok
  simp [hu]

/-! ### Requests of agents -/

theorem ok_execChReadShared (h : Hdr) (s : State) (hok : s.bytes.Ok) :
    OutOk (execChReadShared h s) := by simp [execChReadShared, hok]

theorem ok_execChReadOwn (h : Hdr) (s : State) (hok : s.bytes.Ok) :
    OutOk (execChReadOwn h s) := by simp [execChReadOwn, hok]

theorem ok_execChUpgrade (h : Hdr) (s : State) (hok : s.bytes.Ok) :
    OutOk (execChUpgrade h s) := by simp [execChUpgrade, hok]

theorem ok_execChWriteback (h : Hdr) (data : List Byte) (s : State) (hok : s.bytes.Ok) :
    OutOk (execChWriteback h data s) := by simp [execChWriteback, hok]

theorem ok_execChEvictClean (h : Hdr) (s : State) (hok : s.bytes.Ok) :
    OutOk (execChEvictClean h s) := by simp [execChEvictClean, hok]

theorem ok_execSnpInvalidateResp (d agent line : Nat) (data : List Byte) (s : State) (hok : s.bytes.Ok) :
    OutOk (execSnpInvalidateResp d agent line data s) := by simp [execSnpInvalidateResp, hok]

theorem ok_execSnpShareResp (d agent line : Nat) (data : List Byte) (s : State) (hok : s.bytes.Ok) :
    OutOk (execSnpShareResp d agent line data s) := by simp [execSnpShareResp, hok]

theorem ok_execSnpOwnResp (d agent line : Nat) (data : List Byte) (s : State) (hok : s.bytes.Ok) :
    OutOk (execSnpOwnResp d agent line data s) := by simp [execSnpOwnResp, hok]

theorem ok_execSnoopTimeout (d agent line : Nat) (s : State) (hok : s.bytes.Ok) :
    OutOk (execSnoopTimeout d agent line s) := by
  unfold execSnoopTimeout
  dsimp only
  repeat' split
  all_goals simp [hok]

/-! ### Commands (Table CH-1) -/

theorem ok_execCohDomainCreate (c : Ctx) (h onchip overflow : Nat) (s : State) (hok : s.bytes.Ok) :
    OutOk (execCohDomainCreate c h onchip overflow s) := by
  refine outOk_nirod (fun u hu => ?_) hok
  dsimp only
  repeat' split
  all_goals simp [hu]

theorem ok_execCohRecallDone (d : Nat) (s : State) (hok : s.bytes.Ok) : OutOk (execCohRecallDone d s) := by
  unfold execCohRecallDone
  dsimp only
  repeat' split
  all_goals simp [hok]

theorem ok_execCohDomainDestroy (c : Ctx) (d : Nat) (s : State) (hok : s.bytes.Ok) :
    OutOk (execCohDomainDestroy c d s) := by
  refine outOk_nirod (fun u hu => ?_) hok
  refine ok_withDomain _ _ _ (fun x => ?_) hu
  split <;> simp [hu]

theorem ok_execCohAgentAdd (c : Ctx) (d idx node lport hops : Nat) (s : State) (hok : s.bytes.Ok) :
    OutOk (execCohAgentAdd c d idx node lport hops s) := by
  refine outOk_nirod (fun u hu => ok_withDomain _ _ _ (fun x => ?_) hu) hok
  repeat' split
  all_goals simp [hu]

theorem ok_execCohAgentRemove (c : Ctx) (d idx : Nat) (reclaim : Bool) (s : State) (hok : s.bytes.Ok) :
    OutOk (execCohAgentRemove c d idx reclaim s) := by
  refine outOk_nirod (fun u hu => ?_) hok
  refine ok_withDomain _ _ _ (fun x => ?_) hu
  dsimp only
  repeat' split
  all_goals simp [hu]

theorem ok_execCohExtentAttach (c : Ctx) (d e : Nat) (s : State) (hok : s.bytes.Ok) :
    OutOk (execCohExtentAttach c d e s) := by
  refine outOk_nirod (fun u hu => ok_withDomain _ _ _ (fun x => ?_) hu) hok
  split
  · simp [hu]
  · repeat' split
    all_goals simp [hu]

theorem ok_execCohExtentDetach (c : Ctx) (d e : Nat) (s : State) (hok : s.bytes.Ok) :
    OutOk (execCohExtentDetach c d e s) := by
  refine outOk_nirod (fun u hu => ok_withDomain _ _ _ (fun x => ?_) hu) hok
  repeat' split
  all_goals simp [hu]

theorem ok_execCohReclaimClear (c : Ctx) (d e : Nat) (s : State) (hok : s.bytes.Ok) :
    OutOk (execCohReclaimClear c d e s) := by
  refine outOk_nirod (fun u hu => ?_) hok
  refine ok_withDomain _ _ _ (fun x => ?_) hu
  split <;> simp [hu]

theorem ok_execCohDomainInfo (c : Ctx) (d : Nat) (s : State) (hok : s.bytes.Ok) :
    OutOk (execCohDomainInfo c d s) := by
  refine outOk_nirod (fun u hu => ?_) hok
  refine ok_withDomain _ _ _ (fun x => ?_) hu
  simp [hu]

/-! ### Reads (R75 to R80) -/

theorem ok_execPageReadResult (tray sheaf : Nat) (failed : List Nat) (s : State) (hok : s.bytes.Ok) :
    OutOk (execPageReadResult tray sheaf failed s) := by
  unfold execPageReadResult
  split
  · exact outOk_next.2 hok
  · extract_lets t u bad v
    split
    · exact outOk_next.2 hok
    · have hv : v.bytes.Ok := by
        unfold v
        rw [bytes_foldl]
        · simp [u, hok]
        · intro s p
          split <;> simp
      refine outOk_next.2 (ok_foldl _ (fun s k hs => ?_) _ _ hv)
      simp [hs]

theorem ok_execRetryStepResult (tray sheaf page : Nat) (ok : Bool) (s : State) (hok : s.bytes.Ok) :
    OutOk (execRetryStepResult tray sheaf page ok s) := by
  unfold execRetryStepResult
  split <;> simp [hok]

theorem ok_execSoftReadResult (tray sheaf page : Nat) (ok : Bool) (s : State) (hok : s.bytes.Ok) :
    OutOk (execSoftReadResult tray sheaf page ok s) := by
  unfold execSoftReadResult
  split <;> simp [hok]

/-! ### Programs, relocations and erasures -/

theorem ok_execPageProgramResult (tray sheaf : Nat) (failedDie : Option Nat) (s : State) (hok : s.bytes.Ok) :
    OutOk (execPageProgramResult tray sheaf failedDie s) := by
  unfold execPageProgramResult
  split
  · exact outOk_next.2 hok
  · have slotKept := bytes_nextSlot tray false s
    split
    next t e =>
      rw [e] at slotKept
      simp_all
    next n slot t e =>
      rw [e] at slotKept
      split
      · simp_all
      · extract_lets u v
        split <;> simp_all [u, v]

theorem ok_execPageRelocateResult (tray sheaf : Nat) (failedPage : Option Nat) (s : State) (hok : s.bytes.Ok) :
    OutOk (execPageRelocateResult tray sheaf failedPage s) := by
  unfold execPageRelocateResult
  split
  · exact outOk_next.2 hok
  · extract_lets s1 s2
    have h2 : s2.bytes.Ok := by
      unfold s2 s1
      split
      · extract_lets s3
        split <;> simp [s3, hok]
      · simp [hok]
    have slotKept := bytes_nextSlot tray true s2
    split
    next t e =>
      rw [e] at slotKept
      simp_all
    next n slot t e =>
      rw [e] at slotKept
      have ht : t.bytes.Ok := by rw [slotKept]; exact h2
      extract_lets m s4
      have h4 : s4.bytes.Ok := by
        unfold s4
        split <;> simp [ht]
      simp [h4]

theorem ok_execBlockEraseResult (tray sb : Nat) (failedDie : Option Nat) (s : State) (hok : s.bytes.Ok) :
    OutOk (execBlockEraseResult tray sb failedDie s) := by
  unfold execBlockEraseResult
  split <;> simp [hok]

/-! ### Age, patrol and checkpoints -/

theorem ok_execTempReadPoll (tray deciC : Nat) (s : State) (hok : s.bytes.Ok) :
    OutOk (execTempReadPoll tray deciC s) := by simp [execTempReadPoll, hok]

theorem ok_execPatrolDue (tray sb : Nat) (s : State) (hok : s.bytes.Ok) : OutOk (execPatrolDue tray sb s) := by
  unfold execPatrolDue
  split <;> simp [hok]

theorem ok_execCheckpointDue (tray : Nat) (s : State) (hok : s.bytes.Ok) :
    OutOk (execCheckpointDue tray s) := by simp [execCheckpointDue, hok]

/-! ### Tray attach (R65, R69, R75) -/

theorem ok_execTrayAttach (tray : Nat) (g : Geometry) (s : State) (hok : s.bytes.Ok) :
    OutOk (execTrayAttach tray g s) := by
  unfold execTrayAttach
  split <;> simp [hok]

/-! ### Training (R250 to R252) -/

theorem ok_execSignalDetect (lport : Nat) (s : State) (hok : s.bytes.Ok) :
    OutOk (execSignalDetect lport s) := by simp [execSignalDetect, hok]

theorem ok_execSignalLoss (lport : Nat) (s : State) (hok : s.bytes.Ok) :
    OutOk (execSignalLoss lport s) := by simp [execSignalLoss, hok]

theorem ok_execDetectDone (lport : Nat) (s : State) (hok : s.bytes.Ok) :
    OutOk (execDetectDone lport s) := by simp [execDetectDone, hok]

theorem ok_execLaneLockDone (lport : Nat) (polInv : BitVec 8) (s : State) (hok : s.bytes.Ok) :
    OutOk (execLaneLockDone lport polInv s) := by simp [execLaneLockDone, hok]

theorem ok_execAlignDone (lport : Nat) (linkId : Word64) (farPort : Nat) (reversed orderOk : Bool) (s : State)
    (hok : s.bytes.Ok) :
    OutOk (execAlignDone lport linkId farPort reversed orderOk s) := by
  unfold execAlignDone
  dsimp only
  repeat' split
  all_goals simp [hok]

theorem ok_execEqualizeDone (lport preset : Nat) (s : State) (hok : s.bytes.Ok) :
    OutOk (execEqualizeDone lport preset s) := by simp [execEqualizeDone, hok]

theorem ok_execFastEqualizeFail (lport : Nat) (s : State) (hok : s.bytes.Ok) :
    OutOk (execFastEqualizeFail lport s) := by
  unfold execFastEqualizeFail
  split <;> simp [hok]

theorem ok_execTrainingStepTimeout (lport : Nat) (s : State) (hok : s.bytes.Ok) :
    OutOk (execTrainingStepTimeout lport s) := by
  unfold execTrainingStepTimeout
  split
  · exact outOk_next.2 hok
  · split
    · split <;> simp [hok]
    all_goals simp [hok]

theorem ok_execLinkInitDone (lport : Nat) (far : FarEnd) (s : State) (hok : s.bytes.Ok) :
    OutOk (execLinkInitDone lport far s) := by
  unfold execLinkInitDone
  split <;> simp [hok]

/-! ### Flits (R255 to R260) -/

theorem ok_execDataFlitReceive (lport : Nat) (t : Trailer) (packets : List Packet) (s : State) (hok : s.bytes.Ok) :
    OutOk (execDataFlitReceive lport t packets s) := by
  unfold execDataFlitReceive
  dsimp only
  repeat' split
  all_goals simp [hok]

theorem ok_execIdleFlitReceive (lport : Nat) (t : Trailer) (s : State) (hok : s.bytes.Ok) :
    OutOk (execIdleFlitReceive lport t s) := by simp [execIdleFlitReceive, hok]

theorem ok_execNakReceive (lport ackSeq : Nat) (s : State) (hok : s.bytes.Ok) :
    OutOk (execNakReceive lport ackSeq s) := by simp [execNakReceive, hok]

theorem ok_execAckStallTimeout (lport : Nat) (s : State) (hok : s.bytes.Ok) :
    OutOk (execAckStallTimeout lport s) := by simp [execAckStallTimeout, hok]

theorem ok_execNakResendTimeout (lport : Nat) (s : State) (hok : s.bytes.Ok) :
    OutOk (execNakResendTimeout lport s) := by
  unfold execNakResendTimeout
  split <;> simp [hok]

/-! ### Link keys (R262 to R264) -/

theorem ok_execLinkKeyEstablished (lport : Nat) (s : State) (hok : s.bytes.Ok) :
    OutOk (execLinkKeyEstablished lport s) := by
  unfold execLinkKeyEstablished
  split <;> simp [hok]

theorem ok_execRekeyDue (lport : Nat) (s : State) (hok : s.bytes.Ok) :
    OutOk (execRekeyDue lport s) := by simp [execRekeyDue, hok]

theorem ok_execKeySwitchReceive (lport keyClass : Nat) (s : State) (hok : s.bytes.Ok) :
    OutOk (execKeySwitchReceive lport keyClass s) := by simp [execKeySwitchReceive, hok]

/-! ### Fallow and wake (R265) -/

theorem ok_execPortIdleTimeout (lport : Nat) (s : State) (hok : s.bytes.Ok) :
    OutOk (execPortIdleTimeout lport s) := by simp [execPortIdleTimeout, hok]

theorem ok_execFallowReqReceive (lport : Nat) (s : State) (hok : s.bytes.Ok) :
    OutOk (execFallowReqReceive lport s) := by
  unfold execFallowReqReceive
  split <;> simp [hok]

theorem ok_execFallowAckReceive (lport : Nat) (s : State) (hok : s.bytes.Ok) :
    OutOk (execFallowAckReceive lport s) := by simp [execFallowAckReceive, hok]

theorem ok_execFallowLockBurst (lport : Nat) (s : State) (hok : s.bytes.Ok) :
    OutOk (execFallowLockBurst lport s) := by simp [execFallowLockBurst, hok]

theorem ok_execWakeToneReceive (lport : Nat) (s : State) (hok : s.bytes.Ok) :
    OutOk (execWakeToneReceive lport s) := by simp [execWakeToneReceive, hok]

theorem ok_execPortWakeDone (lport : Nat) (s : State) (hok : s.bytes.Ok) :
    OutOk (execPortWakeDone lport s) := by simp [execPortWakeDone, hok]

theorem ok_execPortWakeTimeout (lport : Nat) (s : State) (hok : s.bytes.Ok) :
    OutOk (execPortWakeTimeout lport s) := by simp [execPortWakeTimeout, hok]

theorem ok_execTransmitterHoldOffEnd (lport : Nat) (s : State) (hok : s.bytes.Ok) :
    OutOk (execTransmitterHoldOffEnd lport s) := by simp [execTransmitterHoldOffEnd, hok]

/-! ### Health scores (R352) -/

theorem ok_execHealthScoreTick (s : State) (hok : s.bytes.Ok) :
    OutOk (execHealthScoreTick s) := by simp [execHealthScoreTick, hok]

theorem ok_execFtHealthGet (c : Ctx) (s : State) (hok : s.bytes.Ok) : OutOk (execFtHealthGet c s) := by
  refine outOk_nirod (fun u hu => ?_) hok
  simp [hu]

/-! ### Fault managers (R353) -/

theorem ok_execFtManagerSet (c : Ctx) (digests : List Digest) (quorum : Nat) (sigs : List Signed) (s : State)
    (hok : s.bytes.Ok) :
    OutOk (execFtManagerSet c digests quorum sigs s) := by
  refine outOk_nirod (fun u hu => ?_) hok
  dsimp only
  repeat' split
  all_goals simp [hu]

/-! ### EXPEL and READMIT (R354, R355) -/

theorem ok_expelCheck (action : Nat) (r : ExpelReq) (s : State) (x : Res) (hx : expelCheck action r s = some x)
    (hok : s.bytes.Ok) : x.1.bytes.Ok := by
  unfold expelCheck at hx
  repeat' split at hx
  all_goals simp only [Option.some.injEq, reduceCtorEq] at hx
  all_goals subst hx; simp [hok]

theorem ok_execExpel (c : Ctx) (r : ExpelReq) (s : State) (hok : s.bytes.Ok) : OutOk (execExpel c r s) := by
  refine outOk_nirod (fun u hu => ?_) hok
  split
  next x refused => exact ok_expelCheck _ _ _ _ refused hu
  next => split <;> simp [hu]

theorem ok_execReadmit (c : Ctx) (r : ExpelReq) (s : State) (hok : s.bytes.Ok) : OutOk (execReadmit c r s) := by
  refine outOk_nirod (fun u hu => ?_) hok
  split
  next x refused => exact ok_expelCheck _ _ _ _ refused hu
  next => simp [hu]

theorem ok_execFtExpelList (c : Ctx) (s : State) (hok : s.bytes.Ok) : OutOk (execFtExpelList c s) := by
  refine outOk_nirod (fun u hu => ?_) hok
  simp [hu]

/-! ### Rehearsal (R356, Table FT-7) -/

theorem ok_execFtInject (c : Ctx) (cls unit leaf start count interval : Nat) (s : State) (hok : s.bytes.Ok) :
    OutOk (execFtInject c cls unit leaf start count interval s) := by
  refine outOk_nirod (fun u hu => ?_) hok
  dsimp only
  repeat' split
  all_goals simp [hu]

theorem ok_execRehearsalInjection (handle : Nat) (s : State) (hok : s.bytes.Ok) :
    OutOk (execRehearsalInjection handle s) := by
  unfold execRehearsalInjection
  split <;> simp [hok]

/-! ### Reduce operations -/

theorem ok_execReduceSegment (h : Hdr) (seg data : List Byte) (s : State) (hok : s.bytes.Ok) :
    OutOk (execReduceSegment h seg data s) := by
  unfold execReduceSegment
  dsimp only
  repeat' split
  all_goals simp [hok]

theorem ok_execReduceBlockDone (op block : Nat) (s : State) (hok : s.bytes.Ok) :
    OutOk (execReduceBlockDone op block s) := by
  unfold execReduceBlockDone
  split <;> simp [hok]

theorem ok_execReduceInstanceTimeout (op : Nat) (s : State) (hok : s.bytes.Ok) :
    OutOk (execReduceInstanceTimeout op s) := by
  unfold execReduceInstanceTimeout
  dsimp only
  repeat' split
  all_goals simp [hok]

/-! ### EXTENT_CREATE -/

theorem ok_execExtentCreate (c : Ctx) (h : Nat) (r : ExtentReq) (s : State) (hok : s.bytes.Ok) :
    OutOk (execExtentCreate c h r s) := by
  refine outOk_nirod (fun u hu => ?_) hok
  refine ok_withComp _ _ _ (fun x => ?_) hu
  dsimp only
  repeat' split
  all_goals simp [hu]

/-! ### EXTENT_DESTROY and EXTENT_INFO -/

theorem ok_execExtentDestroy (c : Ctx) (e : Nat) (s : State) (hok : s.bytes.Ok) :
    OutOk (execExtentDestroy c e s) := by
  refine outOk_nirod (fun u hu => ok_withExtent _ _ _ (fun x => ?_) hu) hok
  split
  · simp [hu]
  · split <;> simp [hu]

theorem ok_execExtentInfo (c : Ctx) (e : Nat) (s : State) (hok : s.bytes.Ok) : OutOk (execExtentInfo c e s) := by
  refine outOk_nirod (fun u hu => ?_) hok
  refine ok_withExtent _ _ _ (fun x => ?_) hu
  simp [hu]

/-! ### Hints (R42 to R45) -/

theorem ok_execExtentHint (c : Ctx) (e first count hint : Nat) (s : State) (hok : s.bytes.Ok) :
    OutOk (execExtentHint c e first count hint s) := by
  refine outOk_nirod (fun u hu => ?_) hok
  refine ok_withExtent _ _ _ (fun x => ?_) hu
  split <;> simp [hu]

/-! ### Seal (R48) -/

theorem ok_execExtentSeal (c : Ctx) (e : Nat) (s : State) (hok : s.bytes.Ok) : OutOk (execExtentSeal c e s) := by
  refine outOk_nirod (fun u hu => ?_) hok
  refine ok_withExtent _ _ _ (fun x => ?_) hu
  dsimp only
  repeat' split
  all_goals simp [hu]

theorem ok_execExtentSealDone (e : Nat) (replicaDigest : Digest) (s : State) (hok : s.bytes.Ok) :
    OutOk (execExtentSealDone e replicaDigest s) := by
  unfold execExtentSealDone
  dsimp only
  repeat' split
  all_goals simp [hok]

/-! ### Revocation (R296, R297) -/

theorem ok_execExtentRevoke (c : Ctx) (e : Nat) (s : State) (hok : s.bytes.Ok) : OutOk (execExtentRevoke c e s) := by
  refine outOk_nirod (fun u hu => ?_) hok
  refine ok_withExtent _ _ _ (fun x => ?_) hu
  split <;> simp [hu]

theorem ok_execExtentDrain (c : Ctx) (e : Nat) (s : State) (hok : s.bytes.Ok) : OutOk (execExtentDrain c e s) := by
  refine outOk_nirod (fun u hu => ?_) hok
  refine ok_withExtent _ _ _ (fun x => ?_) hu
  split <;> simp [hu]

theorem ok_execExtentDrainDone (e : Nat) (s : State) (hok : s.bytes.Ok) :
    OutOk (execExtentDrainDone e s) := by simp [execExtentDrainDone, hok]

/-! ### Adoption (R298) -/

theorem ok_adoptRefused (s u : State) (x : Extent) (h : Nat) (y : Comp) (f : State → Res)
    (hf : s.adoptRefused x h y = some f) (hok : u.bytes.Ok) : (f u).1.bytes.Ok := by
  revert hf
  fun_cases State.adoptRefused s x h y
  all_goals rintro ⟨⟩ <;> simp [hok]

theorem ok_execExtentAdopt (c : Ctx) (e h : Nat) (s : State) (hok : s.bytes.Ok) :
    OutOk (execExtentAdopt c e h s) := by
  refine outOk_nirod (fun u hu => ok_withExtent _ _ _ (fun x => ok_withComp _ _ _ (fun y => ?_) hu) hu) hok
  split
  next f refused => exact ok_adoptRefused _ _ _ _ _ _ refused hu
  next => simp [hu]

/-! ### KV objects -/

theorem ok_execKvCreate (c : Ctx) (r : KvReq) (s : State) (hok : s.bytes.Ok) : OutOk (execKvCreate c r s) := by
  refine outOk_nirod (fun u hu => ok_withExtent _ _ _ (fun x => ?_) hu) hok
  extract_lets k unit
  iterate 8
    refine iteInduction (motive := fun r : Res => r.1.bytes.Ok) (fun _ => by simp [hu]) fun _ => ?_
  split <;> simp [hu]

theorem ok_execKvPublish (c : Ctx) (k : Nat) (s : State) (hok : s.bytes.Ok) : OutOk (execKvPublish c k s) := by
  refine outOk_nirod (fun u hu => ?_) hok
  refine ok_withKv _ _ _ (fun o x => ?_) hu
  simp [hu]

theorem ok_execKvLookup (c : Ctx) (h : Nat) (key : BitVec 128) (s : State) (hok : s.bytes.Ok) :
    OutOk (execKvLookup c h key s) := by
  refine outOk_nirod (fun u hu => ok_withComp _ _ _ (fun x => ?_) hu) hok
  split
  · simp [hu]
  · refine ok_withKv _ _ _ (fun o x => ?_) hu
    split <;> simp [hu]

theorem ok_execKvAcquire (c : Ctx) (k : Nat) (s : State) (hok : s.bytes.Ok) : OutOk (execKvAcquire c k s) := by
  refine outOk_nirod (fun u hu => ok_withKv _ _ _ (fun o x => ?_) hu) hok
  repeat' split
  all_goals simp [hu]

theorem ok_execKvRelease (c : Ctx) (k : Nat) (s : State) (hok : s.bytes.Ok) : OutOk (execKvRelease c k s) := by
  refine outOk_nirod (fun u hu => ?_) hok
  split
  · simp [hu]
  · split <;> simp [hu]

theorem ok_execKvRenew (c : Ctx) (k leaseS : Nat) (s : State) (hok : s.bytes.Ok) :
    OutOk (execKvRenew c k leaseS s) := by
  refine outOk_nirod (fun u hu => ?_) hok
  refine ok_withKv _ _ _ (fun o x => ?_) hu
  split <;> simp [hu]

theorem ok_execKvHint (c : Ctx) (k hint : Nat) (s : State) (hok : s.bytes.Ok) : OutOk (execKvHint c k hint s) := by
  refine outOk_nirod (fun u hu => ?_) hok
  refine ok_withKv _ _ _ (fun o x => ?_) hu
  simp [hu]

theorem ok_execKvDestroy (c : Ctx) (k : Nat) (s : State) (hok : s.bytes.Ok) : OutOk (execKvDestroy c k s) := by
  refine outOk_nirod (fun u hu => ?_) hok
  split
  · simp [hu]
  · split <;> simp [hu]

theorem ok_execKvLeaseExpiry (k : Nat) (s : State) (hok : s.bytes.Ok) : OutOk (execKvLeaseExpiry k s) := by
  unfold execKvLeaseExpiry
  split <;> simp [hok]

/-! ### Codebooks and slots -/

theorem ok_execVqCodebookSet (c : Ctx) (h cb addr : Nat) (s : State) (hok : s.bytes.Ok) :
    OutOk (execVqCodebookSet c h cb addr s) := by
  refine outOk_nirod (fun u hu => ok_withComp _ _ _ (fun x => ?_) hu) hok
  iterate 3
    refine iteInduction (motive := fun r : Res => r.1.bytes.Ok) (fun _ => by simp [hu]) fun _ => ?_
  split
  · simp [hu]
  · split
    · simp [hu]
    · extract_lets b old had g v
      iterate 6
        refine iteInduction (motive := fun r : Res => r.1.bytes.Ok) (fun _ => by simp [hu]) fun _ => ?_
      simp [v, hu]

theorem ok_execVqCodebookClear (c : Ctx) (h cb : Nat) (s : State) (hok : s.bytes.Ok) :
    OutOk (execVqCodebookClear c h cb s) := by
  refine outOk_nirod (fun u hu => ok_withComp _ _ _ (fun x => ?_) hu) hok
  split
  · simp [hu]
  · split
    · simp [hu]
    · split
      · simp [hu]
      · split <;> simp [hu]

theorem ok_execVqCodebookInfo (c : Ctx) (h : Nat) (s : State) (hok : s.bytes.Ok) :
    OutOk (execVqCodebookInfo c h s) := by
  refine outOk_nirod (fun u hu => ?_) hok
  refine ok_withComp _ _ _ (fun x => ?_) hu
  simp [hu]

theorem ok_execVqSlotStatus (c : Ctx) (e first count : Nat) (s : State) (hok : s.bytes.Ok) :
    OutOk (execVqSlotStatus c e first count s) := by
  refine outOk_nirod (fun u hu => ?_) hok
  refine ok_withExtent _ _ _ (fun x => ?_) hu
  dsimp only
  repeat' split
  all_goals simp [hu]

/-! ### Acceptance -/

theorem ok_execFill (h : Hdr) (d : List Byte) (s : State) (hok : s.bytes.Ok) :
    OutOk (execFill h d s) := by simp [execFill, hok]

theorem ok_execCopy (h : Hdr) (d : List Byte) (s : State) (hok : s.bytes.Ok) :
    OutOk (execCopy h d s) := by simp [execCopy, hok]

theorem ok_execCompare (h : Hdr) (d : List Byte) (s : State) (hok : s.bytes.Ok) :
    OutOk (execCompare h d s) := by simp [execCompare, hok]

theorem ok_execNmReduce (h : Hdr) (d : List Byte) (s : State) (hok : s.bytes.Ok) :
    OutOk (execNmReduce h d s) := by simp [execNmReduce, hok]

theorem ok_execAllReduce (h : Hdr) (d : List Byte) (s : State) (hok : s.bytes.Ok) :
    OutOk (execAllReduce h d s) := by simp [execAllReduce, hok]

theorem ok_execReduceScatter (h : Hdr) (d : List Byte) (s : State) (hok : s.bytes.Ok) :
    OutOk (execReduceScatter h d s) := by simp [execReduceScatter, hok]

theorem ok_execReduceToMem (h : Hdr) (d : List Byte) (s : State) (hok : s.bytes.Ok) :
    OutOk (execReduceToMem h d s) := by simp [execReduceToMem, hok]

theorem ok_execGather (h : Hdr) (d : List Byte) (s : State) (hok : s.bytes.Ok) :
    OutOk (execGather h d s) := by simp [execGather, hok]

theorem ok_execScatter (h : Hdr) (d : List Byte) (s : State) (hok : s.bytes.Ok) :
    OutOk (execScatter h d s) := by simp [execScatter, hok]

theorem ok_execFilterPredicate (h : Hdr) (d : List Byte) (s : State) (hok : s.bytes.Ok) :
    OutOk (execFilterPredicate h d s) := by simp [execFilterPredicate, hok]

theorem ok_execFilterThreshold (h : Hdr) (d : List Byte) (s : State) (hok : s.bytes.Ok) :
    OutOk (execFilterThreshold h d s) := by simp [execFilterThreshold, hok]

theorem ok_execFilterTopk (h : Hdr) (d : List Byte) (s : State) (hok : s.bytes.Ok) :
    OutOk (execFilterTopk h d s) := by simp [execFilterTopk, hok]

theorem ok_execFilterBlockSelect (h : Hdr) (d : List Byte) (s : State) (hok : s.bytes.Ok) :
    OutOk (execFilterBlockSelect h d s) := by simp [execFilterBlockSelect, hok]

theorem ok_execAttend (h : Hdr) (d : List Byte) (s : State) (hok : s.bytes.Ok) :
    OutOk (execAttend h d s) := by simp [execAttend, hok]

theorem ok_execEncode (h : Hdr) (d : List Byte) (s : State) (hok : s.bytes.Ok) :
    OutOk (execEncode h d s) := by simp [execEncode, hok]

theorem ok_execOpSubmitDequeue (op : Nat) (s : State) (hok : s.bytes.Ok) : OutOk (execOpSubmitDequeue op s) := by
  unfold execOpSubmitDequeue
  split
  · exact outOk_next.2 hok
  · split
    · exact outOk_next.2 hok
    · split
      · simp [hok]
      · split <;> simp [hok]

/-! ### Timeout and deadline -/

theorem ok_execOpTimeout (op : Nat) (s : State) (hok : s.bytes.Ok) : OutOk (execOpTimeout op s) := by
  unfold execOpTimeout
  dsimp only
  repeat' split
  all_goals simp [hok]

theorem ok_execStepDeadlineExpiry (step : Nat) (s : State) (hok : s.bytes.Ok) :
    OutOk (execStepDeadlineExpiry step s) := by simp [execStepDeadlineExpiry, hok]

/-! ### Seeds -/

theorem ok_execSeedActivate (press : Nat) (s : State) (hok : s.bytes.Ok) : OutOk (execSeedActivate press s) := by
  unfold execSeedActivate
  dsimp only
  repeat' split
  all_goals simp [hok]

theorem ok_execSeedCompletionReceive (press op index : Nat) (s : State) (hok : s.bytes.Ok) :
    OutOk (execSeedCompletionReceive press op index s) := by simp [execSeedCompletionReceive, hok]

theorem ok_execDrillLeafArrive (seed : Nat) (answer : Answer) (s : State) (hok : s.bytes.Ok) :
    OutOk (execDrillLeafArrive seed answer s) := by
  unfold execDrillLeafArrive
  refine outOk_next.2 ?_
  split
  · exact hok
  · split
    · split
      · exact hok
      · extract_lets lit ls slot u forced read bad
        have hu : u.bytes.Ok := by
          have kept : u.bytes = s.bytes := bytes_foldl _ (fun s _ => bytes_touch _ _ s) _ _
          exact kept ▸ hok
        iterate 3
          refine iteInduction (motive := fun t : State => t.bytes.Ok) (fun _ => by simp [hok]) fun _ => ?_
        clear_value bad
        cases bad with
        | none =>
          simp only
          split
          · simp [hu]
          · simp [hu]
        | some l =>
          refine iteInduction (motive := fun t : State => t.bytes.Ok) (fun _ => ?_) fun _ => ?_
          · rw [bytes_leafIn]
            refine ok_drillError _ _ _ _ _ _ ?_
            split <;> simp [hu]
          · refine ok_drillError _ _ _ _ _ _ ?_
            split <;> simp [hu]
    · exact hok

theorem ok_execBlockRefetchDone (seed : Nat) (copy : List Byte) (s : State) (hok : s.bytes.Ok) :
    OutOk (execBlockRefetchDone seed copy s) := by
  unfold execBlockRefetchDone
  dsimp only
  repeat' split
  all_goals simp [hok]

theorem ok_execCodebookLoadDone (press cb : Nat) (s : State) (hok : s.bytes.Ok) :
    OutOk (execCodebookLoadDone press cb s) := by
  unfold execCodebookLoadDone
  split <;> simp [hok]

/-! ### Chains -/

theorem ok_execChainStart (press : Nat) (s : State) (hok : s.bytes.Ok) : OutOk (execChainStart press s) := by
  unfold execChainStart
  dsimp only
  repeat' split
  all_goals simp [hok]

theorem ok_execVerdictReady (press engine : Nat) (isMatch : Bool) (s : State) (hok : s.bytes.Ok) :
    OutOk (execVerdictReady press engine isMatch s) := by
  unfold execVerdictReady
  dsimp only
  repeat' split
  all_goals simp [hok]

theorem ok_execTieBreakDone (press engine : Nat) (r : TieResult) (s : State) (hok : s.bytes.Ok) :
    OutOk (execTieBreakDone press engine r s) := by
  unfold execTieBreakDone
  dsimp only
  repeat' split
  all_goals simp [hok]

theorem ok_execChainCommit (press engine : Nat) (s : State) (hok : s.bytes.Ok) :
    OutOk (execChainCommit press engine s) := by
  unfold execChainCommit
  dsimp only
  repeat' split
  all_goals simp [hok]

theorem ok_execSeedDone (seed : Nat) (s : State) (hok : s.bytes.Ok) : OutOk (execSeedDone seed s) := by
  unfold execSeedDone
  split <;> simp [hok]

theorem ok_execSeedFailed (seed : Nat) (s : State) (hok : s.bytes.Ok) : OutOk (execSeedFailed seed s) := by
  unfold execSeedFailed
  dsimp only
  repeat' split
  all_goals simp [hok]

/-! ### The step ledger -/

theorem ok_execLedgerWriteApplied (op : Nat) (lost : Bool) (s : State) (hok : s.bytes.Ok) :
    OutOk (execLedgerWriteApplied op lost s) := by
  unfold execLedgerWriteApplied
  dsimp only
  repeat' split
  all_goals simp [hok]

/-! ### Parity (R90, R336) -/

theorem ok_execScratchpadParityError (press port slot : Nat) (again : Bool) (s : State) (hok : s.bytes.Ok) :
    OutOk (execScratchpadParityError press port slot again s) := by
  unfold execScratchpadParityError
  dsimp only
  repeat' split
  all_goals simp [hok]

/-! ### Time sharing (R105 to R108) -/

theorem ok_execQuantumExpiry (press : Nat) (s : State) (hok : s.bytes.Ok) : OutOk (execQuantumExpiry press s) := by
  unfold execQuantumExpiry
  split <;> simp [hok]

theorem ok_execSwitchWindowExpiry (press : Nat) (s : State) (hok : s.bytes.Ok) :
    OutOk (execSwitchWindowExpiry press s) := by
  unfold execSwitchWindowExpiry
  split <;> simp [hok]

theorem ok_execContextScrubDone (press : Nat) (s : State) (hok : s.bytes.Ok) :
    OutOk (execContextScrubDone press s) := by
  unfold execContextScrubDone
  dsimp only
  repeat' split
  all_goals simp [hok]

theorem ok_execPressIdleTimeout (press : Nat) (s : State) (hok : s.bytes.Ok) :
    OutOk (execPressIdleTimeout press s) := by simp [execPressIdleTimeout, hok]

theorem ok_execPressFallowDone (press : Nat) (s : State) (hok : s.bytes.Ok) :
    OutOk (execPressFallowDone press s) := by simp [execPressFallowDone, hok]

theorem ok_execPressWakeDone (press : Nat) (s : State) (hok : s.bytes.Ok) :
    OutOk (execPressWakeDone press s) := by simp [execPressWakeDone, hok]

/-! ### Sweeps (R347, R348) -/

theorem ok_execSweepPeriodStart (s : State) (hok : s.bytes.Ok) :
    OutOk (execSweepPeriodStart s) := by simp [execSweepPeriodStart, hok]

theorem ok_execSweepPassDone (press engine : Nat) (pass : Bool) (s : State) (hok : s.bytes.Ok) :
    OutOk (execSweepPassDone press engine pass s) := by
  unfold execSweepPassDone
  split <;> simp [hok]

/-! ### Resets (R342) -/

theorem ok_execPressReset (c : Ctx) (press : Nat) (s : State) (hok : s.bytes.Ok) :
    OutOk (execPressReset c press s) := by
  refine outOk_nirod (fun u hu => ?_) hok
  split <;> simp [hu]

theorem ok_execPressResetDone (press : Nat) (microOk : Bool) (failed : BitVec 5) (s : State) (hok : s.bytes.Ok) :
    OutOk (execPressResetDone press microOk failed s) := by
  unfold execPressResetDone
  split <;> simp [hok]

theorem ok_execFtUnfence (c : Ctx) (press engine : Nat) (sweepOk : Bool) (s : State) (hok : s.bytes.Ok) :
    OutOk (execFtUnfence c press engine sweepOk s) := by
  refine outOk_nirod (fun u hu => ?_) hok
  dsimp only
  repeat' split
  all_goals simp [hu]

/-! ### Attestation (R307 to R311). A reply's first item is the SPDM response code (log entry 33). -/

theorem ok_execSpdmGetVersion (c : Ctx) (s : State) (hok : s.bytes.Ok) : OutOk (execSpdmGetVersion c s) := by
  refine outOk_nirod (fun u hu => ?_) hok
  simp [hu]

theorem ok_execSpdmGetCapabilities (c : Ctx) (s : State) (hok : s.bytes.Ok) :
    OutOk (execSpdmGetCapabilities c s) := by
  refine outOk_nirod (fun u hu => ?_) hok
  simp [hu]

theorem ok_execSpdmNegotiateAlgorithms (c : Ctx) (common : Bool) (s : State) (hok : s.bytes.Ok) :
    OutOk (execSpdmNegotiateAlgorithms c common s) := by
  refine outOk_nirod (fun u hu => ?_) hok
  split <;> simp [hu]

theorem ok_execSpdmGetDigests (c : Ctx) (s : State) (hok : s.bytes.Ok) : OutOk (execSpdmGetDigests c s) := by
  refine outOk_nirod (fun u hu => ?_) hok
  refine ok_attest _ _ ?_ hu
  simp [hu]

theorem ok_execSpdmGetCertificate (c : Ctx) (s : State) (hok : s.bytes.Ok) : OutOk (execSpdmGetCertificate c s) := by
  refine outOk_nirod (fun u hu => ?_) hok
  refine ok_attest _ _ ?_ hu
  simp [hu]

theorem ok_execSpdmChallenge (c : Ctx) (nonce : Digest) (s : State) (hok : s.bytes.Ok) :
    OutOk (execSpdmChallenge c nonce s) := by
  refine outOk_nirod (fun u hu => ?_) hok
  refine ok_attest _ _ ?_ hu
  simp [hu]

theorem ok_execSpdmGetMeasurements (c : Ctx) (nonce : Digest) (s : State) (hok : s.bytes.Ok) :
    OutOk (execSpdmGetMeasurements c nonce s) := by
  refine outOk_nirod (fun u hu => ?_) hok
  refine ok_attest _ _ ?_ hu
  simp [hu]

theorem ok_execSpdmKeyExchange (c : Ctx) (s : State) (hok : s.bytes.Ok) : OutOk (execSpdmKeyExchange c s) := by
  refine outOk_nirod (fun u hu => ?_) hok
  split <;> simp [hu]

theorem ok_execSpdmFinish (c : Ctx) (spdm : Nat) (sig : Signed) (s : State) (hok : s.bytes.Ok) :
    OutOk (execSpdmFinish c spdm sig s) := by
  refine outOk_nirod (fun u hu => ?_) hok
  refine ok_onSession _ _ _ _ ?_ hu
  split <;> simp [hu]

theorem ok_execSpdmKeyUpdate (c : Ctx) (spdm : Nat) (toDevice : Bool) (s : State) (hok : s.bytes.Ok) :
    OutOk (execSpdmKeyUpdate c spdm toDevice s) := by
  refine outOk_nirod (fun u hu => ?_) hok
  refine ok_onSession _ _ _ _ ?_ hu
  simp [hu]

theorem ok_execSpdmHeartbeat (c : Ctx) (spdm : Nat) (s : State) (hok : s.bytes.Ok) :
    OutOk (execSpdmHeartbeat c spdm s) := by
  refine outOk_nirod (fun u hu => ?_) hok
  refine ok_onSession _ _ _ _ ?_ hu
  simp [hu]

theorem ok_execSpdmEndSession (c : Ctx) (spdm : Nat) (s : State) (hok : s.bytes.Ok) :
    OutOk (execSpdmEndSession c spdm s) := by
  refine outOk_nirod (fun u hu => ?_) hok
  split <;> simp [hu]

/-! ### Status, binding keys and manager keys -/

theorem ok_execSecStatus (c : Ctx) (s : State) (hok : s.bytes.Ok) : OutOk (execSecStatus c s) := by
  refine outOk_nirod (fun u hu => ?_) hok
  simp [hu]

theorem ok_execSecBindkeyGet (c : Ctx) (level : Nat) (s : State) (hok : s.bytes.Ok) :
    OutOk (execSecBindkeyGet c level s) := by
  refine outOk_nirod (fun u hu => ok_attest _ _ ?_ hu) hok
  split
  · simp [hu]
  · split <;> simp [hu]

theorem ok_execFmKeySet (c : Ctx) (slot : Nat) (digest : Digest) (s : State) (hok : s.bytes.Ok) :
    OutOk (execFmKeySet c slot digest s) := by
  refine outOk_nirod (fun u hu => ?_) hok
  split <;> simp [hu]

/-! ### Weight binding (R322, R323) -/

theorem ok_execWeightBind (c : Ctx) (h addr : Nat) (sigOk unwrapOk : Bool) (s : State) (hok : s.bytes.Ok) :
    OutOk (execWeightBind c h addr sigOk unwrapOk s) := by
  refine outOk_nirod (fun u hu => ?_) hok
  refine ok_withComp _ _ _ (fun x => ?_) hu
  dsimp only
  repeat' split
  all_goals simp [hu]

theorem ok_execWeightUnbind (c : Ctx) (h slot : Nat) (s : State) (hok : s.bytes.Ok) :
    OutOk (execWeightUnbind c h slot s) := by
  refine outOk_nirod (fun u hu => ok_withComp _ _ _ (fun x => ?_) hu) hok
  split
  · simp [hu]
  · split <;> simp [hu]

/-! ### Imports and exports (R312, R313) -/

theorem ok_execSecImport (c : Ctx) (h bounce len dest : Nat) (slot : Option Nat) (tags : List Bool) (s : State)
    (hok : s.bytes.Ok) :
    OutOk (execSecImport c h bounce len dest slot tags s) := by
  refine outOk_nirod (fun u hu => ok_withComp _ _ _ (fun x => ?_) hu) hok
  split
  · simp [hu]
  · split
    · simp [hu]
    · refine ok_withExtent _ _ _ (fun x => ?_) hu
      iterate 5
        refine iteInduction (motive := fun r : Res => r.1.bytes.Ok) (fun _ => by simp [hu]) fun _ => ?_
      simp [hu]

theorem ok_exportChunk (se so len be bo : Nat) (key : Digest) (m : Exporting) (hok : m.state.bytes.Ok) :
    (exportChunk se so len be bo key m).state.bytes.Ok := by
  unfold exportChunk
  extract_lets
  split
  · exact hok
  · exact ok_writeBytes _ _ _ _ hok

theorem ok_exportChunks (se so len be bo : Nat) (key : Digest) (l : List Nat) (m : Exporting) (hok : m.state.bytes.Ok) :
    (l.foldl (fun m _ => exportChunk se so len be bo key m) m).state.bytes.Ok :=
  List.foldlRecOn (motive := fun m : Exporting => m.state.bytes.Ok) _ _ hok fun m hm _ _ => ok_exportChunk se so len be bo key m hm

theorem ok_execSecExport (c : Ctx) (h src len bounce : Nat) (s : State) (hok : s.bytes.Ok) :
    OutOk (execSecExport c h src len bounce s) := by
  refine outOk_nirod (fun u hu => ok_withComp _ _ _ (fun x => ?_) hu) hok
  extract_lets k seq0
  split
  · simp [hu]
  · split
    · simp [hu]
    · refine ok_withExtent _ _ _ (fun x => ?_) hu
      iterate 2
        refine iteInduction (motive := fun r : Res => r.1.bytes.Ok) (fun _ => by simp [hu]) fun _ => ?_
      split
      · simp [hu]
      · iterate 2
          refine iteInduction (motive := fun r : Res => r.1.bytes.Ok) (fun _ => by simp [hu]) fun _ => ?_
        simpa using ok_exportChunks _ _ _ _ _ _ _ ⟨u, 0, 0, seq0⟩ hu

theorem ok_execSecImportExportDone (s : State) (hok : s.bytes.Ok) : OutOk (execSecImportExportDone s) := by
  unfold execSecImportExportDone
  split <;> simp [hok]

theorem ok_execMacRekeyDone (e : Nat) (s : State) (hok : s.bytes.Ok) : OutOk (execMacRekeyDone e s) := by
  unfold execMacRekeyDone
  split <;> simp [hok]

/-! ### Debug states (R326 to R330) -/

theorem ok_execDebugEnter (c : Ctx) (t : Token) (s : State) (hok : s.bytes.Ok) : OutOk (execDebugEnter c t s) := by
  refine outOk_nirod (fun u hu => ?_) hok
  simp [hu]

theorem ok_execDebugExit (c : Ctx) (s : State) (hok : s.bytes.Ok) : OutOk (execDebugExit c s) := by
  refine outOk_nirod (fun u hu => ?_) hok
  split <;> simp [hu]

theorem ok_execReprovision (c : Ctx) (t : Token) (s : State) (hok : s.bytes.Ok) : OutOk (execReprovision c t s) := by
  refine outOk_nirod (fun u hu => ?_) hok
  repeat' split
  all_goals simp [hu]

/-! ### Sampling and flushing -/

theorem ok_execRecorderSample (rec : Nat) (value : Int) (s : State) (hok : s.bytes.Ok) :
    OutOk (execRecorderSample rec value s) := by simp [execRecorderSample, hok]

theorem ok_execRecorderFlush (s : State) (hok : s.bytes.Ok) :
    OutOk (execRecorderFlush s) := by simp [execRecorderFlush, hok]

theorem ok_execExtremeFlush (s : State) (hok : s.bytes.Ok) :
    OutOk (execExtremeFlush s) := by simp [execExtremeFlush, hok]

/-! ### Commands -/

theorem ok_execRecList (c : Ctx) (s : State) (hok : s.bytes.Ok) : OutOk (execRecList c s) := by
  refine outOk_nirod (fun u hu => ?_) hok
  simp [hu]

theorem ok_execRecRead (c : Ctx) (ids : List Nat) (s : State) (hok : s.bytes.Ok) : OutOk (execRecRead c ids s) := by
  refine outOk_nirod (fun u hu => ?_) hok
  split <;> simp [hu]

theorem ok_execRecClear (c : Ctx) (ids : List Nat) (t : Token) (s : State) (hok : s.bytes.Ok) :
    OutOk (execRecClear c ids t s) := by
  refine outOk_nirod (fun u hu => ?_) hok
  repeat' split
  all_goals simp [hu]

/-! ### The colophon -/

theorem ok_execColophon (c : Ctx) (snap offset : Nat) (s : State) (hok : s.bytes.Ok) :
    OutOk (execColophon c snap offset s) := by
  refine outOk_nirod (fun u hu => ?_) hok
  dsimp only
  repeat' split
  all_goals simp [hu]

/-! ### Compositions -/

theorem ok_execCompCreate (c : Ctx) (r : CompReq) (s : State) (hok : s.bytes.Ok) : OutOk (execCompCreate c r s) := by
  refine outOk_nirod (fun u hu => ?_) hok
  split
  · simp [hu]
  · iterate 2
      refine iteInduction (motive := fun r : Res => r.1.bytes.Ok) (fun _ => by simp [hu]) fun _ => ?_
    split
    · simp [hu]
    · refine iteInduction (motive := fun r : Res => r.1.bytes.Ok) (fun _ => by simp [hu]) fun _ => ?_
      extract_lets v w x
      have hv : v.bytes.Ok := by simp [v, hu]
      have hw : w.bytes.Ok := by unfold w; split <;> simp [hv]
      have hx : x.bytes.Ok := by unfold x; split <;> simp [hw]
      exact iteInduction (motive := fun r : Res => r.1.bytes.Ok) (fun _ => by simp [hx]) fun _ => by simp [hx]

theorem ok_execSliceEvictionDone (h : Nat) (s : State) (hok : s.bytes.Ok) : OutOk (execSliceEvictionDone h s) := by
  unfold execSliceEvictionDone
  dsimp only
  repeat' split
  all_goals simp [hok]

theorem ok_execCompDestroy (c : Ctx) (h : Nat) (s : State) (hok : s.bytes.Ok) : OutOk (execCompDestroy c h s) := by
  refine outOk_nirod (fun u hu => ok_withComp _ _ _ (fun x => ?_) hu) hok
  extract_lets s1 s2 s3 go
  have h1 : s1.bytes = u.bytes := by
    unfold s1
    split <;> simp
  have h3 : s3.bytes.Ok := ok_unbindAll _ _ (by simp [s2, h1, hu])
  rw [wait_fst]
  refine ok_foldl go (fun s e hs => ?_) _ _ h3
  unfold go
  split <;> simp [hs]

theorem ok_execCompDestroyDone (h : Nat) (s : State) (hok : s.bytes.Ok) : OutOk (execCompDestroyDone h s) := by
  unfold execCompDestroyDone
  split
  · exact outOk_next.2 hok
  · split
    · exact outOk_next.2 hok
    · extract_lets xs s1 s2 s3 s4 final
      split
      · exact outOk_next.2 hok
      · have h1 : s1.bytes.Ok := ok_foldl _ (fun s q hs => by simp [hs]) _ _ hok
        have h2 : s2.bytes.Ok := ok_foldl _ (fun s q hs => by simp [hs]) _ _ h1
        have h3 : s3.bytes = s2.bytes := by
          refine bytes_foldl _ (fun s d => ?_) _ _
          split
          · split <;> simp
          · rfl
        simp [s4, h3, h2]

theorem ok_execCompMemberAdd (c : Ctx) (h lport node : Nat) (s : State) (hok : s.bytes.Ok) :
    OutOk (execCompMemberAdd c h lport node s) := by
  refine outOk_nirod (fun u hu => ?_) hok
  refine ok_withComp _ _ _ (fun x => ?_) hu
  dsimp only
  repeat' split
  all_goals simp [hu]

theorem ok_execCompMemberRemove (c : Ctx) (h lport : Nat) (reclaim : Bool) (s : State) (hok : s.bytes.Ok) :
    OutOk (execCompMemberRemove c h lport reclaim s) := by
  refine outOk_nirod (fun u hu => ?_) hok
  refine ok_withComp _ _ _ (fun x => ?_) hu
  dsimp only
  repeat' split
  all_goals simp [hu]

theorem ok_execCompRenew (c : Ctx) (h : Nat) (member : Option Nat) (s : State) (hok : s.bytes.Ok) :
    OutOk (execCompRenew c h member s) := by
  refine outOk_nirod (fun u hu => ?_) hok
  refine ok_withComp _ _ _ (fun x => ?_) hu
  dsimp only
  repeat' split
  all_goals simp [hu]

theorem ok_execCompPressSet (c : Ctx) (h : Nat) (mask : BitVec 8) (s : State) (hok : s.bytes.Ok) :
    OutOk (execCompPressSet c h mask s) := by
  refine outOk_nirod (fun u hu => ok_withComp _ _ _ (fun x => ?_) hu) hok
  repeat' split
  all_goals simp [hu]

theorem ok_execCompInfo (c : Ctx) (h : Nat) (s : State) (hok : s.bytes.Ok) : OutOk (execCompInfo c h s) := by
  refine outOk_nirod (fun u hu => ?_) hok
  refine ok_withComp _ _ _ (fun x => ?_) hu
  simp [hu]

theorem ok_execCompMeterRead (c : Ctx) (h : Nat) (s : State) (hok : s.bytes.Ok) :
    OutOk (execCompMeterRead c h s) := by
  refine outOk_nirod (fun u hu => ?_) hok
  refine ok_withComp _ _ _ (fun x => ?_) hu
  simp [hu]

theorem ok_execCompStats (c : Ctx) (h : Nat) (s : State) (hok : s.bytes.Ok) : OutOk (execCompStats c h s) := by
  refine outOk_nirod (fun u hu => ?_) hok
  refine ok_withComp _ _ _ (fun x => ?_) hu
  simp [hu]

theorem ok_execCompObserverSet (c : Ctx) (h : Nat) (digests : List Digest) (s : State) (hok : s.bytes.Ok) :
    OutOk (execCompObserverSet c h digests s) := by
  refine outOk_nirod (fun u hu => ?_) hok
  refine ok_withComp _ _ _ (fun x => ?_) hu
  split <;> simp [hu]

/-! ### Leases and windows -/

theorem ok_execCompLeaseExpiry (h : Nat) (s : State) (hok : s.bytes.Ok) : OutOk (execCompLeaseExpiry h s) := by
  unfold execCompLeaseExpiry
  split <;> simp [hok]

theorem ok_execMemberLeaseExpiry (h lport : Nat) (s : State) (hok : s.bytes.Ok) :
    OutOk (execMemberLeaseExpiry h lport s) := by
  unfold execMemberLeaseExpiry
  dsimp only
  repeat' split
  all_goals simp [hok]

theorem ok_execDrainWindowClose (h : Nat) (s : State) (hok : s.bytes.Ok) : OutOk (execDrainWindowClose h s) := by
  unfold execDrainWindowClose
  dsimp only
  repeat' split
  all_goals simp [hok]

/-! ### Boot steps -/

theorem ok_execBootStepDone (ok : Bool) (unit detail : Nat) (s : State) (hok : s.bytes.Ok) :
    OutOk (execBootStepDone ok unit detail s) := by simp [execBootStepDone, hok]

theorem ok_execBootStepTimeout (s : State) (hok : s.bytes.Ok) :
    OutOk (execBootStepTimeout s) := by simp [execBootStepTimeout, hok]

theorem ok_execDeviceReset (c : Ctx) (s : State) (hok : s.bytes.Ok) : OutOk (execDeviceReset c s) := by
  refine outOk_nirod (fun u hu => ?_) hok
  simp [hu]

/-! ### Updates (R407 to R411) -/

theorem ok_execFwUpdateBegin (c : Ctx) (m : Manifest) (s : State) (hok : s.bytes.Ok) :
    OutOk (execFwUpdateBegin c m s) := by
  refine outOk_nirod (fun u hu => ?_) hok
  dsimp only
  repeat' split
  all_goals simp [hu]

theorem ok_execFwUpdateBlock (c : Ctx) (handle comp offset : Nat) (data : List Byte) (s : State) (hok : s.bytes.Ok) :
    OutOk (execFwUpdateBlock c handle comp offset data s) := by
  refine outOk_nirod (fun u hu => ?_) hok
  refine ok_withUpdate _ _ _ ?_ hu
  dsimp only
  repeat' split
  all_goals simp [hu]

theorem ok_execFwUpdateVerify (c : Ctx) (handle : Nat) (s : State) (hok : s.bytes.Ok) :
    OutOk (execFwUpdateVerify c handle s) := by
  refine outOk_nirod (fun u hu => ?_) hok
  refine ok_withUpdate _ _ _ ?_ hu
  dsimp only
  repeat' split
  all_goals simp [hu]

theorem ok_execFwUpdateAbort (c : Ctx) (handle : Nat) (s : State) (hok : s.bytes.Ok) :
    OutOk (execFwUpdateAbort c handle s) := by
  refine outOk_nirod (fun u hu => ?_) hok
  refine ok_withUpdate _ _ _ ?_ hu
  split <;> simp [hu]

theorem ok_execFwStatus (c : Ctx) (s : State) (hok : s.bytes.Ok) : OutOk (execFwStatus c s) := by
  refine outOk_nirod (fun u hu => ?_) hok
  simp [hu]

/-! ### Activation and revert (R412 to R415) -/

theorem ok_execFwActivate (c : Ctx) (handle : Nat) (s : State) (hok : s.bytes.Ok) :
    OutOk (execFwActivate c handle s) := by
  refine outOk_nirod (fun u hu => ?_) hok
  refine ok_withUpdate _ _ _ ?_ hu
  split <;> simp [hu]

theorem ok_execShadowLoadDone (badComponent : Option Nat) (s : State) (hok : s.bytes.Ok) :
    OutOk (execShadowLoadDone badComponent s) := by
  unfold execShadowLoadDone
  dsimp only
  repeat' split
  all_goals simp [hok]

theorem ok_execUnitSwitchDone (u : SwUnit) (s : State) (hok : s.bytes.Ok) :
    OutOk (execUnitSwitchDone u s) := by simp [execUnitSwitchDone, hok]

theorem ok_execSwitchPhaseTimeout (u : SwUnit) (s : State) (hok : s.bytes.Ok) :
    OutOk (execSwitchPhaseTimeout u s) := by simp [execSwitchPhaseTimeout, hok]

theorem ok_execRevertDone (u : SwUnit) (s : State) (hok : s.bytes.Ok) :
    OutOk (execRevertDone u s) := by simp [execRevertDone, hok]

theorem ok_execHealthConfirm (c : Ctx) (s : State) (hok : s.bytes.Ok) : OutOk (execHealthConfirm c s) := by
  refine outOk_nirod (fun u hu => ?_) hok
  split <;> simp [hu]

theorem ok_execConfirmWindowExpiry (s : State) (hok : s.bytes.Ok) : OutOk (execConfirmWindowExpiry s) := by
  unfold execConfirmWindowExpiry
  split <;> simp [hok]

/-! ### Management cores (R21, R336) -/

theorem ok_execWatchdogExpiry (core : Nat) (s : State) (hok : s.bytes.Ok) :
    OutOk (execWatchdogExpiry core s) := by simp [execWatchdogExpiry, hok]

theorem ok_execCoreRestartDone (core : Nat) (s : State) (hok : s.bytes.Ok) :
    OutOk (execCoreRestartDone core s) := by simp [execCoreRestartDone, hok]

theorem ok_execBridgeFailure (s : State) (hok : s.bytes.Ok) :
    OutOk (execBridgeFailure s) := by simp [execBridgeFailure, hok]

/-! ### Reduce groups -/

theorem ok_execReduceGroupCreate (c : Ctx) (h gid press : Nat) (members : List (Nat × Nat)) (parent : Option
    (Nat × Nat)) (s : State) (hok : s.bytes.Ok) :
    OutOk (execReduceGroupCreate c h gid press members parent s) := by
  refine outOk_nirod (fun u hu => ?_) hok
  refine ok_withComp _ _ _ (fun x => ?_) hu
  dsimp only
  repeat' split
  all_goals simp [hu]

theorem ok_execReduceGroupDestroy (c : Ctx) (h gid : Nat) (s : State) (hok : s.bytes.Ok) :
    OutOk (execReduceGroupDestroy c h gid s) := by
  refine outOk_nirod (fun u hu => ?_) hok
  refine ok_withComp _ _ _ (fun x => ?_) hu
  split <;> simp [hu]

theorem ok_execLedgerOpen (c : Ctx) (h node ring entries depth : Nat) (copy : Option (Nat × Nat)) (s : State)
    (hok : s.bytes.Ok) :
    OutOk (execLedgerOpen c h node ring entries depth copy s) := by
  refine outOk_nirod (fun u hu => ?_) hok
  refine ok_withComp _ _ _ (fun x => ?_) hu
  extract_lets
  iterate 5
    refine iteInduction (motive := fun r : Res => r.1.bytes.Ok) (fun _ => by simp [hu]) fun _ => ?_
  split
  · exact iteInduction (motive := fun r : Res => r.1.bytes.Ok) (fun _ => by simp [hu]) fun _ => by simp [hu]
  · simp [hu]

theorem ok_execLedgerClose (c : Ctx) (job : Nat) (s : State) (hok : s.bytes.Ok) :
    OutOk (execLedgerClose c job s) := by
  refine outOk_nirod (fun u hu => ?_) hok
  dsimp only
  repeat' split
  all_goals simp [hu]

/-! ### Supplies, RESET_N, WAKE_N, rails -/

theorem ok_execPowerOn (s : State) (hok : s.bytes.Ok) : OutOk (execPowerOn s) := by simp [execPowerOn, hok]

theorem ok_execPowerLoss (s : State) (hok : s.bytes.Ok) : OutOk (execPowerLoss s) := by simp [execPowerLoss, hok]

theorem ok_execResetNAssert (lowNs : Nat) (s : State) (hok : s.bytes.Ok) :
    OutOk (execResetNAssert lowNs s) := by simp [execResetNAssert, hok]

theorem ok_execResetNRelease (s : State) (hok : s.bytes.Ok) :
    OutOk (execResetNRelease s) := by simp [execResetNRelease, hok]

theorem ok_execWakeNAssert (lowNs : Nat) (s : State) (hok : s.bytes.Ok) :
    OutOk (execWakeNAssert lowNs s) := by simp [execWakeNAssert, hok]

theorem ok_execRailsInRange (s : State) (hok : s.bytes.Ok) :
    OutOk (execRailsInRange s) := by simp [execRailsInRange, hok]

theorem ok_execRailsRestoreTimeout (s : State) (hok : s.bytes.Ok) : OutOk (execRailsRestoreTimeout s) := by
  unfold execRailsRestoreTimeout
  split <;> simp [hok]

theorem ok_execRailUndervoltage (rail lowNs : Nat) (s : State) (hok : s.bytes.Ok) :
    OutOk (execRailUndervoltage rail lowNs s) := by simp [execRailUndervoltage, hok]

/-! ### PPS_IN (R428) -/

theorem ok_execPpsInEdge (stamp : Nat) (s : State) (hok : s.bytes.Ok) :
    OutOk (execPpsInEdge stamp s) := by simp [execPpsInEdge, hok]

theorem ok_execPpsLost (s : State) (hok : s.bytes.Ok) : OutOk (execPpsLost s) := by
  unfold execPpsLost
  split <;> simp [hok]

/-! ### Throttling and the thermal trip (R325, R435) -/

theorem ok_execThrottleLevelRise (d0 d1 : Nat) (s : State) (hok : s.bytes.Ok) :
    OutOk (execThrottleLevelRise d0 d1 s) := by simp [execThrottleLevelRise, hok]

theorem ok_execThrottleLevelFall (d0 d1 : Nat) (s : State) (hok : s.bytes.Ok) :
    OutOk (execThrottleLevelFall d0 d1 s) := by simp [execThrottleLevelFall, hok]

theorem ok_execThermalTrip (heldNs : Nat) (s : State) (hok : s.bytes.Ok) :
    OutOk (execThermalTrip heldNs s) := by simp [execThermalTrip, hok]

/-! ### JTAG (R328, R430) -/

theorem ok_execJtagInstruction (i : Jtag) (s : State) (hok : s.bytes.Ok) :
    OutOk (execJtagInstruction i s) := by simp [execJtagInstruction, hok]

theorem ok_execTrstNAssert (s : State) (hok : s.bytes.Ok) :
    OutOk (execTrstNAssert s) := by simp [execTrstNAssert, hok]

/-! ### The event controller's rows -/

theorem ok_execEvtInChange (pin : Nat) (high : Bool) (s : State) (hok : s.bytes.Ok) :
    OutOk (execEvtInChange pin high s) := by simp [execEvtInChange, hok]

theorem ok_execEventOffer (s : State) (hok : s.bytes.Ok) : OutOk (execEventOffer s) := by simp [execEventOffer, hok]

theorem ok_execClaimTimeout (ev : Nat) (s : State) (hok : s.bytes.Ok) : OutOk (execClaimTimeout ev s) := by
  unfold execClaimTimeout
  dsimp only
  repeat' split
  all_goals simp [hok]

theorem ok_execEvcIdleTimeout (s : State) (hok : s.bytes.Ok) :
    OutOk (execEvcIdleTimeout s) := by simp [execEvcIdleTimeout, hok]

theorem ok_execEvcWake (s : State) (hok : s.bytes.Ok) : OutOk (execEvcWake s) := by simp [execEvcWake, hok]

theorem ok_execEvtSubscribe (c : Ctx) (mask : List Nat) (address port : Nat) (s : State) (hok : s.bytes.Ok) :
    OutOk (execEvtSubscribe c mask address port s) := by
  refine outOk_nirod (fun u hu => ?_) hok
  dsimp only
  repeat' split
  all_goals simp [hu]

theorem ok_execEvtUnsubscribe (c : Ctx) (sub : Nat) (s : State) (hok : s.bytes.Ok) :
    OutOk (execEvtUnsubscribe c sub s) := by
  refine outOk_nirod (fun u hu => ?_) hok
  refine ok_withSub _ _ _ _ ?_ hu
  simp [hu]

theorem ok_execEvtClaim (c : Ctx) (sub ev : Nat) (s : State) (hok : s.bytes.Ok) :
    OutOk (execEvtClaim c sub ev s) := by
  refine outOk_nirod (fun u hu => ?_) hok
  refine ok_withSub _ _ _ _ ?_ hu
  simp [hu]

theorem ok_execEvtComplete (c : Ctx) (sub ev : Nat) (s : State) (hok : s.bytes.Ok) :
    OutOk (execEvtComplete c sub ev s) := by
  refine outOk_nirod (fun u hu => ?_) hok
  refine ok_withSub _ _ _ _ ?_ hu
  simp [hu]

/-! ### HBM stacks (R19, R390) -/

theorem ok_execHbmIdleTimeout (stack : Nat) (s : State) (hok : s.bytes.Ok) :
    OutOk (execHbmIdleTimeout stack s) := by simp [execHbmIdleTimeout, hok]

theorem ok_execHbmWakeDone (stack : Nat) (s : State) (hok : s.bytes.Ok) :
    OutOk (execHbmWakeDone stack s) := by simp [execHbmWakeDone, hok]

/-! ### STANDBY and DEEP_STANDBY (R391 to R394) -/

theorem ok_execPowerStateSet (c : Ctx) (target : Nat) (s : State) (hok : s.bytes.Ok) :
    OutOk (execPowerStateSet c target s) := by
  refine outOk_nirodFull (fun u hu => ?_) hok
  split
  · simp [hu]
  · split <;> simp [hu]

theorem ok_execQuiesceComplete (s : State) (hok : s.bytes.Ok) : OutOk (execQuiesceComplete s) := by
  unfold execQuiesceComplete
  split <;> simp [hok]

theorem ok_execQuiesceTimeout (s : State) (hok : s.bytes.Ok) : OutOk (execQuiesceTimeout s) := by
  unfold execQuiesceTimeout
  split <;> simp [hok]

/-! ### Fabric transactions (chapter 08) -/

theorem ok_execLoad (h : Hdr) (s : State) (hok : s.bytes.Ok) : OutOk (execLoad h s) := by simp [execLoad, hok]

theorem ok_execStore (h : Hdr) (data : List Byte) (s : State) (hok : s.bytes.Ok) :
    OutOk (execStore h data s) := by simp [execStore, hok]

theorem ok_execAtAdd32 (h : Hdr) (data : List Byte) (s : State) (hok : s.bytes.Ok) :
    OutOk (execAtAdd32 h data s) := by simp [execAtAdd32, hok]

theorem ok_execAtAdd64 (h : Hdr) (data : List Byte) (s : State) (hok : s.bytes.Ok) :
    OutOk (execAtAdd64 h data s) := by simp [execAtAdd64, hok]

theorem ok_execAtSwap32 (h : Hdr) (data : List Byte) (s : State) (hok : s.bytes.Ok) :
    OutOk (execAtSwap32 h data s) := by simp [execAtSwap32, hok]

theorem ok_execAtSwap64 (h : Hdr) (data : List Byte) (s : State) (hok : s.bytes.Ok) :
    OutOk (execAtSwap64 h data s) := by simp [execAtSwap64, hok]

theorem ok_execAtCas32 (h : Hdr) (data : List Byte) (s : State) (hok : s.bytes.Ok) :
    OutOk (execAtCas32 h data s) := by simp [execAtCas32, hok]

theorem ok_execAtCas64 (h : Hdr) (data : List Byte) (s : State) (hok : s.bytes.Ok) :
    OutOk (execAtCas64 h data s) := by simp [execAtCas64, hok]

theorem ok_execAtMin32 (h : Hdr) (data : List Byte) (s : State) (hok : s.bytes.Ok) :
    OutOk (execAtMin32 h data s) := by simp [execAtMin32, hok]

theorem ok_execAtMin64 (h : Hdr) (data : List Byte) (s : State) (hok : s.bytes.Ok) :
    OutOk (execAtMin64 h data s) := by simp [execAtMin64, hok]

theorem ok_execAtMax32 (h : Hdr) (data : List Byte) (s : State) (hok : s.bytes.Ok) :
    OutOk (execAtMax32 h data s) := by simp [execAtMax32, hok]

theorem ok_execAtMax64 (h : Hdr) (data : List Byte) (s : State) (hok : s.bytes.Ok) :
    OutOk (execAtMax64 h data s) := by simp [execAtMax64, hok]

/-! ### FENCE (R203, R204) -/

theorem ok_execFence (h : Hdr) (data : List Byte) (s : State) (hok : s.bytes.Ok) : OutOk (execFence h data s) := by
  unfold execFence
  dsimp only
  repeat' split
  all_goals simp [hok]

theorem ok_execFenceDequeue (lport : Nat) (s : State) (hok : s.bytes.Ok) : OutOk (execFenceDequeue lport s) := by
  unfold execFenceDequeue
  dsimp only
  repeat' split
  all_goals simp [hok]

theorem ok_execFenceComplete (lport tag : Nat) (s : State) (hok : s.bytes.Ok) :
    OutOk (execFenceComplete lport tag s) := by
  unfold execFenceComplete
  split <;> simp [hok]

theorem ok_execFenceDeadline (lport tag : Nat) (s : State) (hok : s.bytes.Ok) :
    OutOk (execFenceDeadline lport tag s) := by
  unfold execFenceDeadline
  split <;> simp [hok]

/-! ### Responses and forwarding -/

theorem ok_execGfpResponseReceive (p : Packet) (s : State) (hok : s.bytes.Ok) :
    OutOk (execGfpResponseReceive p s) := by
  unfold execGfpResponseReceive
  extract_lets h u
  have hu : u.bytes.Ok := by simp [u, hok]
  refine outOk_next.2 ?_
  split
  · exact hok
  · refine iteInduction (motive := fun t : State => t.bytes.Ok) (fun _ => hok) fun _ => ?_
    iterate 7
      refine iteInduction (motive := fun t : State => t.bytes.Ok) (fun _ => by simp [hu]) fun _ => ?_
    split
    · simp [hu]
    · refine iteInduction (motive := fun t : State => t.bytes.Ok) (fun _ => by simp [hu]) fun _ => ?_
      refine iteInduction (motive := fun t : State => t.bytes.Ok) (fun _ => ?_) fun _ => ?_
      · split <;> simp [hu]
      · repeat' split
        all_goals simp [hu]

theorem ok_execPacketForward (p : Packet) (s : State) (hok : s.bytes.Ok) :
    OutOk (execPacketForward p s) := by simp [execPacketForward, hok]

theorem ok_execResponseTimeout (tag : Nat) (s : State) (hok : s.bytes.Ok) : OutOk (execResponseTimeout tag s) := by
  unfold execResponseTimeout
  split <;> simp [hok]

theorem ok_execAtomicHoldExpiry (src comp seq : Nat) (s : State) (hok : s.bytes.Ok) :
    OutOk (execAtomicHoldExpiry src comp seq s) := by
  unfold execAtomicHoldExpiry
  split <;> simp [hok]

end Sys2Proof.Machine

end

section

/-! Settling O5, the step: the command at the front of the queue, a deferred one, or an idle cycle. -/

namespace Sys2Proof.Machine

theorem ok_exec (i : Instr) (s : State) (hok : s.bytes.Ok) : OutOk (exec i s) :=
  match i with
  | .powerOn => ok_execPowerOn s hok
  | .powerLoss => ok_execPowerLoss s hok
  | .resetNAssert lowNs => ok_execResetNAssert lowNs s hok
  | .resetNRelease => ok_execResetNRelease s hok
  | .bootStepTimeout => ok_execBootStepTimeout s hok
  | .wakeNAssert lowNs => ok_execWakeNAssert lowNs s hok
  | .railsInRange => ok_execRailsInRange s hok
  | .railsRestoreTimeout => ok_execRailsRestoreTimeout s hok
  | .railUndervoltage rail lowNs => ok_execRailUndervoltage rail lowNs s hok
  | .ppsInEdge stamp => ok_execPpsInEdge stamp s hok
  | .ppsLost => ok_execPpsLost s hok
  | .evtInChange pin high => ok_execEvtInChange pin high s hok
  | .throttleLevelRise d0 d1 => ok_execThrottleLevelRise d0 d1 s hok
  | .throttleLevelFall d0 d1 => ok_execThrottleLevelFall d0 d1 s hok
  | .thermalTrip heldNs => ok_execThermalTrip heldNs s hok
  | .nirodPartReceive p => ok_execNirodPartReceive p s hok
  | .partTimeout session seq => ok_execPartTimeout session seq s hok
  | .sessionIdleTimeout session => ok_execSessionIdleTimeout session s hok
  | .snapshotExpiry session snap => ok_execSnapshotExpiry session snap s hok
  | .sessionOpen c cls compId spdm partBytes => ok_execSessionOpen c cls compId spdm partBytes s hok
  | .sessionClose c => ok_execSessionClose c s hok
  | .nop c => ok_execNop c s hok
  | .deviceInfo c => ok_execDeviceInfo c s hok
  | .deviceStateSet c target => ok_execDeviceStateSet c target s hok
  | .deviceReset c => ok_execDeviceReset c s hok
  | .csrRead c addrs => ok_execCsrRead c addrs s hok
  | .csrWrite c pairs => ok_execCsrWrite c pairs s hok
  | .colophon c snap offset => ok_execColophon c snap offset s hok
  | .compCreate c r => ok_execCompCreate c r s hok
  | .sliceEvictionDone h => ok_execSliceEvictionDone h s hok
  | .compDestroy c h => ok_execCompDestroy c h s hok
  | .compDestroyDone h => ok_execCompDestroyDone h s hok
  | .compMemberAdd c h lport node => ok_execCompMemberAdd c h lport node s hok
  | .compMemberRemove c h lport reclaim => ok_execCompMemberRemove c h lport reclaim s hok
  | .compRenew c h member => ok_execCompRenew c h member s hok
  | .compPressSet c h mask => ok_execCompPressSet c h mask s hok
  | .compInfo c h => ok_execCompInfo c h s hok
  | .compMeterRead c h => ok_execCompMeterRead c h s hok
  | .compStats c h => ok_execCompStats c h s hok
  | .compObserverSet c h digests => ok_execCompObserverSet c h digests s hok
  | .cohDomainCreate c h onchip overflow => ok_execCohDomainCreate c h onchip overflow s hok
  | .cohDomainDestroy c d => ok_execCohDomainDestroy c d s hok
  | .cohAgentAdd c d idx node lport hops => ok_execCohAgentAdd c d idx node lport hops s hok
  | .cohAgentRemove c d idx reclaim => ok_execCohAgentRemove c d idx reclaim s hok
  | .cohExtentAttach c d e => ok_execCohExtentAttach c d e s hok
  | .cohExtentDetach c d e => ok_execCohExtentDetach c d e s hok
  | .cohRecallDone d => ok_execCohRecallDone d s hok
  | .cohReclaimClear c d e => ok_execCohReclaimClear c d e s hok
  | .cohDomainInfo c d => ok_execCohDomainInfo c d s hok
  | .extentCreate c h r => ok_execExtentCreate c h r s hok
  | .extentDestroy c e => ok_execExtentDestroy c e s hok
  | .extentHint c e first count hint => ok_execExtentHint c e first count hint s hok
  | .extentSeal c e => ok_execExtentSeal c e s hok
  | .extentSealDone e replicaDigest => ok_execExtentSealDone e replicaDigest s hok
  | .extentRevoke c e => ok_execExtentRevoke c e s hok
  | .extentDrain c e => ok_execExtentDrain c e s hok
  | .extentDrainDone e => ok_execExtentDrainDone e s hok
  | .extentAdopt c e h => ok_execExtentAdopt c e h s hok
  | .extentInfo c e => ok_execExtentInfo c e s hok
  | .kvCreate c r => ok_execKvCreate c r s hok
  | .kvPublish c k => ok_execKvPublish c k s hok
  | .kvLookup c h key => ok_execKvLookup c h key s hok
  | .kvAcquire c k => ok_execKvAcquire c k s hok
  | .kvRelease c k => ok_execKvRelease c k s hok
  | .kvRenew c k leaseS => ok_execKvRenew c k leaseS s hok
  | .kvHint c k hint => ok_execKvHint c k hint s hok
  | .kvDestroy c k => ok_execKvDestroy c k s hok
  | .kvLeaseExpiry k => ok_execKvLeaseExpiry k s hok
  | .vqCodebookSet c h cb addr => ok_execVqCodebookSet c h cb addr s hok
  | .vqCodebookClear c h cb => ok_execVqCodebookClear c h cb s hok
  | .vqCodebookInfo c h => ok_execVqCodebookInfo c h s hok
  | .vqSlotStatus c e first count => ok_execVqSlotStatus c e first count s hok
  | .reduceGroupCreate c h gid press members parent => ok_execReduceGroupCreate c h gid press members parent s hok
  | .reduceGroupDestroy c h gid => ok_execReduceGroupDestroy c h gid s hok
  | .ledgerOpen c h node ring entries depth copy => ok_execLedgerOpen c h node ring entries depth copy s hok
  | .ledgerClose c job => ok_execLedgerClose c job s hok
  | .nodeIdSet c node => ok_execNodeIdSet c node s hok
  | .routeSet c first entries => ok_execRouteSet c first entries s hok
  | .routeGet c first count => ok_execRouteGet c first count s hok
  | .neighbourList c => ok_execNeighbourList c s hok
  | .neighbourAccept c lport => ok_execNeighbourAccept c lport s hok
  | .ftManagerSet c digests quorum sigs => ok_execFtManagerSet c digests quorum sigs s hok
  | .expel c r => ok_execExpel c r s hok
  | .readmit c r => ok_execReadmit c r s hok
  | .ftExpelList c => ok_execFtExpelList c s hok
  | .ftHealthGet c => ok_execFtHealthGet c s hok
  | .spdmGetVersion c => ok_execSpdmGetVersion c s hok
  | .spdmGetCapabilities c => ok_execSpdmGetCapabilities c s hok
  | .spdmNegotiateAlgorithms c common => ok_execSpdmNegotiateAlgorithms c common s hok
  | .spdmGetDigests c => ok_execSpdmGetDigests c s hok
  | .spdmGetCertificate c => ok_execSpdmGetCertificate c s hok
  | .spdmChallenge c nonce => ok_execSpdmChallenge c nonce s hok
  | .spdmGetMeasurements c nonce => ok_execSpdmGetMeasurements c nonce s hok
  | .spdmKeyExchange c => ok_execSpdmKeyExchange c s hok
  | .spdmFinish c spdm sig => ok_execSpdmFinish c spdm sig s hok
  | .spdmKeyUpdate c spdm toDevice => ok_execSpdmKeyUpdate c spdm toDevice s hok
  | .spdmHeartbeat c spdm => ok_execSpdmHeartbeat c spdm s hok
  | .spdmEndSession c spdm => ok_execSpdmEndSession c spdm s hok
  | .secStatus c => ok_execSecStatus c s hok
  | .secBindkeyGet c level => ok_execSecBindkeyGet c level s hok
  | .weightBind c h addr sigOk unwrapOk => ok_execWeightBind c h addr sigOk unwrapOk s hok
  | .weightUnbind c h slot => ok_execWeightUnbind c h slot s hok
  | .secImport c h bounce len dest slot tags => ok_execSecImport c h bounce len dest slot tags s hok
  | .secExport c h src len bounce => ok_execSecExport c h src len bounce s hok
  | .debugEnter c t => ok_execDebugEnter c t s hok
  | .debugExit c => ok_execDebugExit c s hok
  | .reprovision c t => ok_execReprovision c t s hok
  | .fmKeySet c slot digest => ok_execFmKeySet c slot digest s hok
  | .evtSubscribe c mask address port => ok_execEvtSubscribe c mask address port s hok
  | .evtUnsubscribe c sub => ok_execEvtUnsubscribe c sub s hok
  | .evtClaim c sub ev => ok_execEvtClaim c sub ev s hok
  | .evtComplete c sub ev => ok_execEvtComplete c sub ev s hok
  | .powerStateSet c target => ok_execPowerStateSet c target s hok
  | .quiesceComplete => ok_execQuiesceComplete s hok
  | .quiesceTimeout => ok_execQuiesceTimeout s hok
  | .fwUpdateBegin c m => ok_execFwUpdateBegin c m s hok
  | .fwUpdateBlock c handle comp offset data => ok_execFwUpdateBlock c handle comp offset data s hok
  | .fwUpdateVerify c handle => ok_execFwUpdateVerify c handle s hok
  | .fwActivate c handle => ok_execFwActivate c handle s hok
  | .unitSwitchDone u => ok_execUnitSwitchDone u s hok
  | .switchPhaseTimeout u => ok_execSwitchPhaseTimeout u s hok
  | .healthConfirm c => ok_execHealthConfirm c s hok
  | .confirmWindowExpiry => ok_execConfirmWindowExpiry s hok
  | .fwUpdateAbort c handle => ok_execFwUpdateAbort c handle s hok
  | .revertDone u => ok_execRevertDone u s hok
  | .fwStatus c => ok_execFwStatus c s hok
  | .recList c => ok_execRecList c s hok
  | .recRead c ids => ok_execRecRead c ids s hok
  | .recClear c ids t => ok_execRecClear c ids t s hok
  | .ftUnfence c press engine sweepOk => ok_execFtUnfence c press engine sweepOk s hok
  | .ftInject c cls unit leaf start count interval => ok_execFtInject c cls unit leaf start count interval s hok
  | .rehearsalInjection handle => ok_execRehearsalInjection handle s hok
  | .pressReset c press => ok_execPressReset c press s hok
  | .pressResetDone press microOk failed => ok_execPressResetDone press microOk failed s hok
  | .lockSet c addr value => ok_execLockSet c addr value s hok
  | .evcSoftSetWrite c value => ok_execEvcSoftSetWrite c value s hok
  | .evcPendingClear c value setInSameCycle => ok_execEvcPendingClear c value setInSameCycle s hok
  | .evcTgtClaimRead core => ok_execEvcTgtClaimRead core s hok
  | .evcTgtCompleteWrite core value => ok_execEvcTgtCompleteWrite core value s hok
  | .swHistClear c value => ok_execSwHistClear c value s hok
  | .swQShaperWrite c addr value => ok_execSwQShaperWrite c addr value s hok
  | .furrowSlotWrite c slot value => ok_execFurrowSlotWrite c slot value s hok
  | .jrnClearPaths c value => ok_execJrnClearPaths c value s hok
  | .jrnSelWrite c value => ok_execJrnSelWrite c value s hok
  | .recClogSelWrite c value => ok_execRecClogSelWrite c value s hok
  | .lkPortEnable c value => ok_execLkPortEnable c value s hok
  | .lkPortDisable c value => ok_execLkPortDisable c value s hok
  | .lkSplitSet c value => ok_execLkSplitSet c value s hok
  | .signalDetect lport => ok_execSignalDetect lport s hok
  | .signalLoss lport => ok_execSignalLoss lport s hok
  | .detectDone lport => ok_execDetectDone lport s hok
  | .laneLockDone lport polInv => ok_execLaneLockDone lport polInv s hok
  | .alignDone lport linkId farPort reversed orderOk => ok_execAlignDone lport linkId farPort reversed orderOk s hok
  | .equalizeDone lport preset => ok_execEqualizeDone lport preset s hok
  | .fastEqualizeFail lport => ok_execFastEqualizeFail lport s hok
  | .linkInitDone lport far => ok_execLinkInitDone lport far s hok
  | .trainingStepTimeout lport => ok_execTrainingStepTimeout lport s hok
  | .dataFlitReceive lport t packets => ok_execDataFlitReceive lport t packets s hok
  | .idleFlitReceive lport t => ok_execIdleFlitReceive lport t s hok
  | .fallowReqReceive lport => ok_execFallowReqReceive lport s hok
  | .fallowAckReceive lport => ok_execFallowAckReceive lport s hok
  | .keySwitchReceive lport keyClass => ok_execKeySwitchReceive lport keyClass s hok
  | .nakReceive lport ackSeq => ok_execNakReceive lport ackSeq s hok
  | .ackStallTimeout lport => ok_execAckStallTimeout lport s hok
  | .nakResendTimeout lport => ok_execNakResendTimeout lport s hok
  | .linkKeyEstablished lport => ok_execLinkKeyEstablished lport s hok
  | .rekeyDue lport => ok_execRekeyDue lport s hok
  | .portIdleTimeout lport => ok_execPortIdleTimeout lport s hok
  | .fallowLockBurst lport => ok_execFallowLockBurst lport s hok
  | .wakeToneReceive lport => ok_execWakeToneReceive lport s hok
  | .portWakeDone lport => ok_execPortWakeDone lport s hok
  | .portWakeTimeout lport => ok_execPortWakeTimeout lport s hok
  | .pressIdleTimeout press => ok_execPressIdleTimeout press s hok
  | .pressFallowDone press => ok_execPressFallowDone press s hok
  | .pressWakeDone press => ok_execPressWakeDone press s hok
  | .hbmIdleTimeout stack => ok_execHbmIdleTimeout stack s hok
  | .hbmWakeDone stack => ok_execHbmWakeDone stack s hok
  | .evcIdleTimeout => ok_execEvcIdleTimeout s hok
  | .evcWake => ok_execEvcWake s hok
  | .eventOffer => ok_execEventOffer s hok
  | .claimTimeout ev => ok_execClaimTimeout ev s hok
  | .watchdogExpiry core => ok_execWatchdogExpiry core s hok
  | .escapeWaitExpiry lport vc => ok_execEscapeWaitExpiry lport vc s hok
  | .spillFetchDone lport queue => ok_execSpillFetchDone lport queue s hok
  | .shaperRefill => ok_execShaperRefill s hok
  | .queueSample => ok_execQueueSample s hok
  | .egressSend lport => ok_execEgressSend lport s hok
  | .furrowSlotChange => ok_execFurrowSlotChange s hok
  | .load h => ok_execLoad h s hok
  | .store h data => ok_execStore h data s hok
  | .atAdd32 h data => ok_execAtAdd32 h data s hok
  | .atAdd64 h data => ok_execAtAdd64 h data s hok
  | .atSwap32 h data => ok_execAtSwap32 h data s hok
  | .atSwap64 h data => ok_execAtSwap64 h data s hok
  | .atCas32 h data => ok_execAtCas32 h data s hok
  | .atCas64 h data => ok_execAtCas64 h data s hok
  | .atMin32 h data => ok_execAtMin32 h data s hok
  | .atMin64 h data => ok_execAtMin64 h data s hok
  | .atMax32 h data => ok_execAtMax32 h data s hok
  | .atMax64 h data => ok_execAtMax64 h data s hok
  | .fence h data => ok_execFence h data s hok
  | .fenceDequeue lport => ok_execFenceDequeue lport s hok
  | .fenceComplete lport tag => ok_execFenceComplete lport tag s hok
  | .fenceDeadline lport tag => ok_execFenceDeadline lport tag s hok
  | .chReadShared h => ok_execChReadShared h s hok
  | .chReadOwn h => ok_execChReadOwn h s hok
  | .chUpgrade h => ok_execChUpgrade h s hok
  | .chWriteback h data => ok_execChWriteback h data s hok
  | .chEvictClean h => ok_execChEvictClean h s hok
  | .snpInvalidateResp d agent line data => ok_execSnpInvalidateResp d agent line data s hok
  | .snpShareResp d agent line data => ok_execSnpShareResp d agent line data s hok
  | .snpOwnResp d agent line data => ok_execSnpOwnResp d agent line data s hok
  | .snoopTimeout d agent line => ok_execSnoopTimeout d agent line s hok
  | .gfpResponseReceive p => ok_execGfpResponseReceive p s hok
  | .packetForward p => ok_execPacketForward p s hok
  | .responseTimeout tag => ok_execResponseTimeout tag s hok
  | .atomicHoldExpiry src comp seq => ok_execAtomicHoldExpiry src comp seq s hok
  | .noRouteWaitExpiry held => ok_execNoRouteWaitExpiry held s hok
  | .heldRequestSend held => ok_execHeldRequestSend held s hok
  | .probe lport r => ok_execProbe lport r s hok
  | .probeAnswer lport r => ok_execProbeAnswer lport r s hok
  | .probeInterval => ok_execProbeInterval s hok
  | .labNodeCandidate => ok_execLabNodeCandidate s hok
  | .routeUpdateWithdraw h epoch count resv nodes => ok_execRouteUpdateWithdraw h epoch count resv nodes s hok
  | .routeUpdateRestore h epoch count resv nodes => ok_execRouteUpdateRestore h epoch count resv nodes s hok
  | .routeUpdateAck h => ok_execRouteUpdateAck h s hok
  | .fill h d => ok_execFill h d s hok
  | .copy h d => ok_execCopy h d s hok
  | .compare h d => ok_execCompare h d s hok
  | .nmReduce h d => ok_execNmReduce h d s hok
  | .nmLeafDone op leaf => ok_execNmLeafDone op leaf s hok
  | .allReduce h d => ok_execAllReduce h d s hok
  | .reduceScatter h d => ok_execReduceScatter h d s hok
  | .reduceToMem h d => ok_execReduceToMem h d s hok
  | .reduceSegment h seg data => ok_execReduceSegment h seg data s hok
  | .reduceBlockDone op block => ok_execReduceBlockDone op block s hok
  | .reduceInstanceTimeout op => ok_execReduceInstanceTimeout op s hok
  | .gather h d => ok_execGather h d s hok
  | .scatter h d => ok_execScatter h d s hok
  | .filterPredicate h d => ok_execFilterPredicate h d s hok
  | .filterThreshold h d => ok_execFilterThreshold h d s hok
  | .filterTopk h d => ok_execFilterTopk h d s hok
  | .filterBlockSelect h d => ok_execFilterBlockSelect h d s hok
  | .attend h d => ok_execAttend h d s hok
  | .encode h d => ok_execEncode h d s hok
  | .opSubmitDequeue op => ok_execOpSubmitDequeue op s hok
  | .opTimeout op => ok_execOpTimeout op s hok
  | .seedActivate press => ok_execSeedActivate press s hok
  | .seedCompletionReceive press op index => ok_execSeedCompletionReceive press op index s hok
  | .drillLeafArrive seed answer => ok_execDrillLeafArrive seed answer s hok
  | .blockRefetchDone seed copy => ok_execBlockRefetchDone seed copy s hok
  | .codebookLoadDone press cb => ok_execCodebookLoadDone press cb s hok
  | .chainStart press => ok_execChainStart press s hok
  | .verdictReady press engine isMatch => ok_execVerdictReady press engine isMatch s hok
  | .tieBreakDone press engine r => ok_execTieBreakDone press engine r s hok
  | .chainCommit press engine => ok_execChainCommit press engine s hok
  | .seedDone seed => ok_execSeedDone seed s hok
  | .seedFailed seed => ok_execSeedFailed seed s hok
  | .ledgerWriteApplied op lost => ok_execLedgerWriteApplied op lost s hok
  | .scratchpadParityError press port slot again => ok_execScratchpadParityError press port slot again s hok
  | .quantumExpiry press => ok_execQuantumExpiry press s hok
  | .switchWindowExpiry press => ok_execSwitchWindowExpiry press s hok
  | .contextScrubDone press => ok_execContextScrubDone press s hok
  | .sweepPeriodStart => ok_execSweepPeriodStart s hok
  | .sweepPassDone press engine pass => ok_execSweepPassDone press engine pass s hok
  | .healthScoreTick => ok_execHealthScoreTick s hok
  | .t1AccessDone e leaf mirror a => ok_execT1AccessDone e leaf mirror a s hok
  | .t1LateThreshold e leaf => ok_execT1LateThreshold e leaf s hok
  | .t2LateThreshold e leaf => ok_execT2LateThreshold e leaf s hok
  | .stepDeadlineExpiry step => ok_execStepDeadlineExpiry step s hok
  | .leafCopyDone e leaf => ok_execLeafCopyDone e leaf s hok
  | .writeBackDone e leaf => ok_execWriteBackDone e leaf s hok
  | .backgroundMoveStart tray => ok_execBackgroundMoveStart tray s hok
  | .mirrorRebuildDone e chunk => ok_execMirrorRebuildDone e chunk s hok
  | .replicaFetchDone e leaf ok => ok_execReplicaFetchDone e leaf ok s hok
  | .replicaFetchRetry e leaf => ok_execReplicaFetchRetry e leaf s hok
  | .recencyTick => ok_execRecencyTick s hok
  | .agePass => ok_execAgePass s hok
  | .trayAttach tray g => ok_execTrayAttach tray g s hok
  | .pageReadResult tray sheaf failed => ok_execPageReadResult tray sheaf failed s hok
  | .retryStepResult tray sheaf page ok => ok_execRetryStepResult tray sheaf page ok s hok
  | .softReadResult tray sheaf page ok => ok_execSoftReadResult tray sheaf page ok s hok
  | .pageProgramResult tray sheaf failedDie => ok_execPageProgramResult tray sheaf failedDie s hok
  | .blockEraseResult tray sb failedDie => ok_execBlockEraseResult tray sb failedDie s hok
  | .pageRelocateResult tray sheaf failedPage => ok_execPageRelocateResult tray sheaf failedPage s hok
  | .checkpointDue tray => ok_execCheckpointDue tray s hok
  | .tempReadPoll tray deciC => ok_execTempReadPoll tray deciC s hok
  | .patrolDue tray sb => ok_execPatrolDue tray sb s hok
  | .compLeaseExpiry h => ok_execCompLeaseExpiry h s hok
  | .memberLeaseExpiry h lport => ok_execMemberLeaseExpiry h lport s hok
  | .drainWindowClose h => ok_execDrainWindowClose h s hok
  | .recorderSample rec value => ok_execRecorderSample rec value s hok
  | .recorderFlush => ok_execRecorderFlush s hok
  | .extremeFlush => ok_execExtremeFlush s hok
  | .coreRestartDone core => ok_execCoreRestartDone core s hok
  | .bridgeFailure => ok_execBridgeFailure s hok
  | .jtagInstruction what => ok_execJtagInstruction what s hok
  | .trstNAssert => ok_execTrstNAssert s hok
  | .neighbourDiscoveryEchoArp k => ok_execNeighbourDiscoveryEchoArp k s hok
  | .bootStepDone ok unit detail => ok_execBootStepDone ok unit detail s hok
  | .shadowLoadDone badComponent => ok_execShadowLoadDone badComponent s hok
  | .secImportExportDone => ok_execSecImportExportDone s hok
  | .macRekeyDone e => ok_execMacRekeyDone e s hok
  | .transmitterHoldOffEnd lport => ok_execTransmitterHoldOffEnd lport s hok

/-- Settles O5: a step is one command, a deferred one, or an idle cycle, and each keeps the form. -/
theorem stepKeepsMemoryCanonical : Obligations.StepKeepsMemoryCanonical := by
  intro s t hs ht
  have hok : s.bytes.Ok := (memOk_iff s).1 hs
  unfold step at ht
  split at ht
  · split at ht
    · exact ok_exec _ _ (by simpa using hok) t ht
    · obtain rfl : idle s = t := by simpa using ht
      exact (congrArg Bytes.Ok (bytes_idle s)).mpr hok
  next c rest _ => exact ok_exec c { s with pending := rest } hok t ht

end Sys2Proof.Machine

end

section

/-! Near-memory operations: what one leaf does. -/

namespace Sys2Proof.Machine

theorem mem_of_bytes {s t : State} (h : t.bytes = s.bytes) : t.pool.mem = s.pool.mem := congrArg Bytes.mem h

/-- What the K9 records of a leaf that has run. -/
def Op.leafRan (y : Op) (kind : OpKind) (l n : Nat) (r : Bool × Option Nat) : Op :=
  { y with
    todo := y.todo.filter (· != l)
    lost := if r.1 then y.lost ++ [l] else y.lost
    result := match r.2 with
      | some v => min y.result v
      | none => if kind = .compare ∨ r.1 then y.result else y.result + n }

/-- A leaf that is ready runs, and the operation finishes behind its last one. -/
theorem nmLeafDone_runs (s : State) (o l : Nat) (x : Op) (hx : s.work.ops.look o = some x) (running : x.phase = .running)
    (todo : x.todo.contains l = true) (ready : s.nmReady x l = true) :
    exec (.nmLeafDone o l) s = .next
      (let r := s.nmRun x.comp x.kind x.desc l
       let t := r.1.modOp o (·.leafRan x.kind l (s.nmPiece x.comp x.desc l).2 r.2)
       if x.todo.all (· == l) then t.nmFinish o else t) := by
  change Host.Outcome.next (s.nmLeaf o l) = _
  rw [State.nmLeaf, hx]
  exact congrArg Host.Outcome.next (if_neg (by simp only [running, todo, ready]; decide))

theorem nmLeafDone_mem (s : State) (o l : Nat) (x : Op) (hx : s.work.ops.look o = some x) (running : x.phase = .running)
    (todo : x.todo.contains l = true) (ready : s.nmReady x l = true) :
    ∃ t, exec (.nmLeafDone o l) s = .next t ∧ t.pool.mem = (s.nmRun x.comp x.kind x.desc l).1.pool.mem := by
  refine ⟨_, nmLeafDone_runs s o l x hx running todo ready, mem_of_bytes ?_⟩
  dsimp only
  split <;> simp

theorem nmRun_fill (s : State) (c l : Nat) (d : List Byte) :
    (s.nmRun c .fill d l).1 = s.writeRange c (nmA d + (s.nmPiece c d l).1) (fillBytes d (s.nmPiece c d l).1 (s.nmPiece c d l).2) := by
  simp [State.nmRun, nmSources]

theorem nmRun_copy (s : State) (c l : Nat) (d : List Byte)
    (clean : s.rangePoisoned c (nmSrc d 0 + (s.nmPiece c d l).1) (s.nmPiece c d l).2 = false) :
    (s.nmRun c .copy d l).1 = s.writeRange c (nmA d + (s.nmPiece c d l).1)
      (s.readRange c (nmSrc d 0 + (s.nmPiece c d l).1) (s.nmPiece c d l).2) := by
  simp [State.nmRun, nmSources, clean]

theorem nmRun_compare (s : State) (c l : Nat) (d : List Byte) : (s.nmRun c .compare d l).1 = s := by
  unfold State.nmRun
  extract_lets
  split <;> rfl

theorem fillBytes_length (d : List Byte) (o n : Nat) : (fillBytes d o n).length = n := by
  simp [fillBytes]

theorem fillBytes_getElem? (d : List Byte) (o n i : Nat) (hi : i < n) :
    (fillBytes d o n)[i]? = some (BitVec.ofNat 8 (leAt d (56 + (o + i) % 8) 1)) := by
  simp [fillBytes, hi]

/-- Settles O46: each near-memory operation by what a leaf of it writes. -/
theorem nearMemoryLeavesComplete : Obligations.NearMemoryLeavesComplete := by
  refine ⟨fun s o l x p hx running todo ready hp => ?_, fun d o n i hi => ⟨fillBytes_length d o n, fillBytes_getElem? d o n i hi⟩⟩
  subst hp
  have mem := nmLeafDone_mem s o l x hx running todo ready
  refine ⟨fun srcClean _ => ⟨fun fill => ?_, fun copy => ?_, fun compare => ?_⟩, fun r hr goesOn => ?_⟩
  · rw [fill, nmRun_fill] at mem
    exact mem
  · rw [copy, nmRun_copy s _ _ _ srcClean] at mem
    exact mem
  · rw [compare, nmRun_compare] at mem
    exact mem
  · subst hr
    rw [nmLeafDone_runs s o l x hx running todo ready]
    exact congrArg Host.Outcome.next (if_neg (by simp [goesOn]))

end Sys2Proof.Machine

end

section

/-! Reduction segments, blocks and timeouts. -/

namespace Sys2Proof.Machine

theorem reduceSegment_joins (s u : State) (h : Hdr) (seg data : List Byte) (c o i : Nat) (x : Op) (g : Group) (p : Press)
    (ing : s.ingress { opcode := 0x30, hdr := h, data := seg ++ data } = (u, some c)) (epoch : (u.epochFor c h.epoch).isSome = true)
    (crc : descCrcOk seg 64 = true) (op : u.work.ops.look o = some x) (group : u.work.groups.look x.group = some g)
    (press : u.presses.look g.press = some p) (room : u.reduceSlotsUsed g.press < p.reduceSlots)
    (slot : (u.work.ops.findSome? fun q => if q.2.comp = c ∧ q.2.phase = .running then
        (q.2.contribs.find? fun z => z.opId == opId seg && z.hdr.any fun g => g.src == h.src).map fun z => (q.1, z.index)
      else none) = some (o, i)) :
    exec (.reduceSegment h seg data) s = .next (u.takeSegment o i seg data) := by
  change execReduceSegment h seg data s = _
  have epoch' : (u.epochFor c h.epoch).isNone = false := by simpa using epoch
  have room' : ¬ p.reduceSlots ≤ u.reduceSlotsUsed g.press := by omega
  simp [execReduceSegment, ing, epoch', crc, slot, op, group, press, room']

theorem reduceSegment_waits (s u : State) (h : Hdr) (seg data : List Byte) (c : Nat)
    (ing : s.ingress { opcode := 0x30, hdr := h, data := seg ++ data } = (u, some c)) (epoch : (u.epochFor c h.epoch).isSome = true)
    (crc : descCrcOk seg 64 = true) (noOps : u.work.ops = [])
    (fresh : (u.work.groups.vals.all fun g => g.comp != c || (g.done.isEmpty && g.aborted.isEmpty)) = true) :
    exec (.reduceSegment h seg data) s = .next (u.modWork fun w => { w with
      early := w.early ++ [(c, h.src, opId seg, seg, data)] }) := by
  change execReduceSegment h seg data s = _
  have epoch' : (u.epochFor c h.epoch).isNone = false := by simpa using epoch
  have notEnded : (u.work.groups.vals.any fun g =>
      (g.comp == c && g.members.any fun m => m.1 == h.src) && (!g.done.isEmpty || !g.aborted.isEmpty)) = false := by
    refine List.any_eq_false.mpr fun g hg => ?_
    have this := List.all_eq_true.mp fresh g hg
    grind
  simp [execReduceSegment, ing, epoch', crc, noOps, notEnded]

theorem reduceBlockDone_goesOn (s : State) (o b : Nat) (x : Op) (q : Nat × Seed) (hx : s.work.ops.look o = some x)
    (running : x.phase = .running) (todo : x.todo.contains b = true) (ready : redReady x b = true)
    (seed : s.redSeed x b = some q) (active : q.2.state = .active) (left : x.todo.all (· == b) = false) :
    exec (.reduceBlockDone o b) s = .next
      (((s.redDeliver o b).modOp o fun y => { y with todo := y.todo.filter (· != b) }).redSeeds o b) := by
  change execReduceBlockDone o b s = _
  unfold execReduceBlockDone
  rw [hx]
  refine congrArg Host.Outcome.next ((if_neg ?_).trans (if_neg ?_))
  · simp only [running, todo, ready, seed, active, Option.any_some]; decide
  · simp [left]

theorem redDeliver_toMem (s : State) (o b : Nat) (x : Op) (hx : s.work.ops.look o = some x) (kind : x.kind = .reduceToMem)
    (noParent : (s.work.groups.look x.group).bind Group.parent = none) :
    s.redDeliver o b = s.writeRange x.comp (redDest x.desc + b * 8192 * elemBytes (redOut x.desc)) (redOutput x b) := by
  simp only [State.redDeliver, hx, noParent, kind]

theorem reduceInstanceTimeout_aborts (s : State) (o n low : Nat) (rest : List Nat) (x : Op) (hx : s.work.ops.look o = some x)
    (running : x.phase = .running) (contribs : x.contribs ≠ []) (timeout : x.timeoutAt = some n)
    (missing : redMissing x = low :: rest) :
    exec (.reduceInstanceTimeout o) s = .next
      (((s.advanceTo n).bumpComp x.comp Reg.CCNT_OP_TIMEOUT).redAbort o St.OP_TIMEOUT (some low) (some (rest.length + 1))) := by
  change execReduceInstanceTimeout o s = _
  simp [execReduceInstanceTimeout, hx, running, contribs, timeout, missing]

/-- Settles O47: a segment by where its contributor is found, a block by its delivery, an open reduction by its timeout. -/
theorem reductionsComplete : Obligations.ReductionsComplete :=
  ⟨reduceSegment_joins, reduceSegment_waits, reduceBlockDone_goesOn, redDeliver_toMem, reduceInstanceTimeout_aborts⟩

end Sys2Proof.Machine

end

section

/-! Tier answers, leaf copies, write-backs and placement. -/

namespace Sys2Proof.Machine

/-! ### Answers and late answers -/

theorem t1AccessDone_uncorrectable (s : State) (e l i : Nat) (m : Bool) (x : Extent) (hx : s.extent e = some x)
    (hi : i = 2 * l + b2n m) (clean : x.leafPoisoned l = false) (unforced : s.ft.forcedUe = []) :
    exec (.t1AccessDone e l m .uncorrectable) s = .next (s.ueT1 e i false).settle := by
  change execT1AccessDone e l m .uncorrectable s = _
  simp [execT1AccessDone, hx, hi, clean, unforced]

theorem t1AccessDone_ok (s : State) (e l i : Nat) (m : Bool) (x : Extent) (hx : s.extent e = some x)
    (hi : i = 2 * l + b2n m) (clean : x.leafPoisoned l = false) (unforced : s.ft.forcedUe = [])
    (atHome : (m && x.tier.isT2 && !x.inT1 l) = false) :
    exec (.t1AccessDone e l m .ok) s = .next (((s.dropItem e i).settle).arrived e l) := by
  change execT1AccessDone e l m .ok s = _
  have noLanding : ¬(m = true ∧ x.tier.isT2 = true ∧ (!x.inT1 l) = true) := by
    grind
  simp only [execT1AccessDone, hx, hi, clean, unforced, noLanding]
  simp

theorem t1LateThreshold_counts (s t u : State) (e l : Nat) (x : Extent) (hx : s.extent e = some x)
    (steps : s.stepsOnLeaf e l ≠ []) (noOps : s.opsOnLeaf e l = [])
    (ht : t = s.advanceTo (s.firstStallOf (s.stepsOnLeaf e l) [] + 1000 * s.field Reg.POOL_T1_LATE_US 15 0))
    (single : x.otherCopy (2 * l) = none) (atHome : (x.tier.isT2 && !x.inT1 l) = false) (up : t.itemDown e (2 * l) = false)
    (waiting : t.stepsOnItem e (2 * l) ≠ []) (hu : u = t.causeSteps Reg.POOL_CNT_TIER_LATE_T1 (t.stepsOnItem e (2 * l)))
    (odd : u.stepsOnItem e (2 * l + 1) = []) :
    exec (.t1LateThreshold e l) s = .next u.settle := by
  change execT1LateThreshold e l s = _
  simp [execT1LateThreshold, hx, steps, noOps, ← ht, atHome, up, waiting, single, ← hu, odd, State.causeOps]

theorem t2LateThreshold_counts (s : State) (e l : Nat) (x : Extent) (hx : s.extent e = some x) (t2 : x.tier.isT2 = true)
    (notInT1 : x.inT1 l = false) (steps : s.stepsOnLeaf e l ≠ []) :
    exec (.t2LateThreshold e l) s = .next (State.causeOps Reg.POOL_CNT_TIER_LATE_T2 (s.opsOnLeaf e l)
      ((s.advanceTo (s.firstStallOf (s.stepsOnLeaf e l) (s.opsOnLeaf e l) + 1000 * s.field Reg.POOL_T2_LATE_US 23 0)).causeSteps
        Reg.POOL_CNT_TIER_LATE_T2 (s.stepsOnLeaf e l))) := by
  change execT2LateThreshold e l s = _
  simp [execT2LateThreshold, hx, t2, notInT1, steps]

/-! ### Leaf copies and background moves -/

theorem leafCopyDone_switches (s : State) (e l : Nat) (x : Extent) (m : Move) (hm : s.moveOf e l = some m)
    (kind : m.kind = .promote) (hx : s.extent e = some x) (inT1 : x.inT1 l = true) (clean : x.leafPoisoned l = false)
    (unmarked : m.marked = []) :
    exec (.leafCopyDone e l) s = .next (s.switchLeaf m) := by
  change execLeafCopyDone e l s = _
  simp [execLeafCopyDone, hm, kind, hx, inT1, clean, State.copyDone, unmarked]

theorem writeBackDone_copies (s : State) (e l : Nat) (m : Move) (hm : s.moveOf e l = some m) (kind : m.kind ≠ .promote)
    (up : s.itemDown e (2 * l) = false) : exec (.writeBackDone e l) s = .next (s.copyDone m).settle := by
  change execWriteBackDone e l s = _
  simp [execWriteBackDone, hm, kind, up]

theorem backgroundMoveStart_starts (s : State) (n : Nat) (b : Background) (up : s.trayUp n = true)
    (hb : (s.pool.background.find? fun b => b.tray == n) = some b) :
    exec (.backgroundMoveStart n) s = .next
      ((s.modPool fun p => { p with background := p.background.erase b }).startMove b) := by
  change execBackgroundMoveStart n s = _
  simp [execBackgroundMoveStart, up, hb]

theorem mirrorRebuildDone_replaces (s : State) (e c t m o n : Nat) (x : Extent) (k : Chunk) (hx : s.extent e = some x)
    (hk : x.chunk c = some k) (stale : k.stale = some t) (mirror : k.mirror = some m)
    (ho : o = (if t = k.tray then m else k.tray)) (hn : n = s.rebuildTray x t o) (up : s.trayUp n = true)
    (otherUp : s.trayUp o = true) :
    exec (.mirrorRebuildDone e c) s = .next (((s.modPool fun p => { p with
      background := p.background.filter fun b => !(b.extent == e && b.leaf / 64 == c && b.tray == o) }).modChunk e c fun c =>
        if t = c.tray then { c with tray := n, stale := none } else { c with mirror := some n, stale := none }).settle) := by
  change execMirrorRebuildDone e c s = _
  simp only [execMirrorRebuildDone, hx, Option.bind_some, hk, stale, mirror, ← ho, ← hn, up, otherUp]
  rfl

/-! ### Replicas -/

theorem replicaFetchDone_lands (s t : State) (e l : Nat) (x : Extent) (hx : s.extent e = some x)
    (fetching : x.replicaFetch.look l = some true) (t1 : x.tier.isT2 = false)
    (ht : t = (s.closeReplica e l).modExtent e (fun x => { x with replicaFetch := x.replicaFetch.del l })) :
    exec (.replicaFetchDone e l true) s = .next (((((t.landLeaf e l).dropLeaf e l).settle).arrived e l)) := by
  change execReplicaFetchDone e l true s = _
  simp [execReplicaFetchDone, hx, fetching, t1, ht]

theorem replicaFetchDone_waits (s : State) (e l : Nat) (x : Extent) (hx : s.extent e = some x)
    (fetching : x.replicaFetch.look l = some true) :
    exec (.replicaFetchDone e l false) s = .next
      ((s.closeReplica e l).modExtent e fun x => { x with replicaFetch := x.replicaFetch.put l false }) := by
  change execReplicaFetchDone e l false s = _
  simp [execReplicaFetchDone, hx, fetching]

theorem replicaFetchRetry_asks (s : State) (e l : Nat) (x : Extent) (hx : s.extent e = some x)
    (waiting : x.replicaFetch.look l = some false) :
    exec (.replicaFetchRetry e l) s = .next
      ((s.modExtent e fun x => { x with replicaFetch := x.replicaFetch.put l true }).askReplica e l) := by
  change execReplicaFetchRetry e l s = _
  simp [execReplicaFetchRetry, hx, waiting]

/-! ### The placement tick -/

theorem age_clampStamp (tick stamp : BitVec 16) : (tick - clampStamp tick stamp).toNat ≤ 32768 := by
  unfold clampStamp
  split <;> bv_omega

theorem agePass_clamps (s : State) : ∃ t, exec .agePass s = .next t ∧ t.clk = s.clk ∧ t.pool.mem = s.pool.mem
    ∧ ∀ e x c k, t.extent e = some x → x.chunks.look c = some k → (t.clk.tick - k.stamp).toNat ≤ 32768 := by
  refine ⟨_, rfl, rfl, rfl, fun e x c k hx hk => ?_⟩
  obtain ⟨x0, -, rfl⟩ : ∃ x0, s.extent e = some x0 ∧ { x0 with
      chunks := x0.chunks.each fun _ c => { c with stamp := clampStamp s.clk.tick c.stamp } } = x := by
    simpa [State.extent, State.modPool, NMap.look_each] using hx
  obtain ⟨k0, -, rfl⟩ : ∃ k0, x0.chunks.look c = some k0 ∧ { k0 with stamp := clampStamp s.clk.tick k0.stamp } = k := by
    simpa [NMap.look_each] using hk
  exact age_clampStamp _ _

/-! ### The switch of a leaf's translation -/

theorem extent_modChunk (s : State) (e c : Nat) (f : Chunk → Chunk) :
    (s.modChunk e c f).extent e = (s.extent e).map fun x => { x with chunks := x.chunks.change c f } :=
  NMap.look_change _ _ _

theorem extent_modChunk_ne (s : State) (e c j : Nat) (f : Chunk → Chunk) (h : j ≠ e) :
    (s.modChunk e c f).extent j = s.extent j :=
  NMap.look_change_ne _ _ _ _ h

theorem moveOf_endMove (s : State) (e l : Nat) : (s.endMove e l).moveOf e l = none := by
  refine List.find?_eq_none.mpr fun m hm => ?_
  obtain ⟨-, other⟩ := List.mem_filter.mp hm
  simpa using (Bool.not_eq_true' _).mp other

theorem switchLeaf_promote (s : State) (m : Move) (x : Extent) (c : Chunk) (hx : s.extent m.extent = some x)
    (hc : x.chunkOf m.leaf = some c) (kind : m.kind = .promote) :
    ∃ y d, (s.switchLeaf m).extent m.extent = some y ∧ y.chunkOf m.leaf = some d
      ∧ d.t0.look (m.leaf % 64) = some { stack := m.stack, dirty := false }
      ∧ (∀ k, k ≠ m.leaf % 64 → d.t0.look k = c.t0.look k)
      ∧ (∀ l, l / 64 ≠ m.leaf / 64 → y.chunkOf l = x.chunkOf l)
      ∧ (∀ e, e ≠ m.extent → (s.switchLeaf m).extent e = s.extent e)
      ∧ (s.switchLeaf m).moveOf m.extent m.leaf = none := by
  have switched : s.switchLeaf m = (s.endMove m.extent m.leaf).modChunk m.extent (m.leaf / 64) fun c =>
      { c with t0 := c.t0.put (m.leaf % 64) { stack := m.stack, dirty := false } } := by
    simp only [State.switchLeaf, kind]
  have extents (e : Nat) : (s.endMove m.extent m.leaf).extent e = s.extent e := rfl
  rw [switched]
  refine ⟨_, _, (extent_modChunk _ _ _ _).trans (congrArg _ ((extents _).trans hx)),
    (NMap.look_change _ _ _).trans (congrArg _ hc), NMap.look_put _ _ _, fun k hk => NMap.look_put_ne _ _ _ _ hk,
    fun l hl => NMap.look_change_ne _ _ _ _ hl, fun e he => (extent_modChunk_ne _ _ _ _ _ he).trans (extents e),
    moveOf_endMove s m.extent m.leaf⟩

/-- Settles O55: each tier event by the branch its conditions choose, and the switch of a translation by the maps it
changes. -/
theorem tierEventsComplete : Obligations.TierEventsComplete :=
  ⟨fun s e l i m x hx hi clean unforced => ⟨t1AccessDone_uncorrectable s e l i m x hx hi clean unforced,
      t1AccessDone_ok s e l i m x hx hi clean unforced⟩,
    t1LateThreshold_counts, t2LateThreshold_counts,
    fun s e l x m hm kind hx inT1 clean unmarked => ⟨leafCopyDone_switches s e l x m hm kind hx inT1 clean unmarked,
      mem_of_bytes (bytes_switchLeaf m s)⟩,
    writeBackDone_copies, backgroundMoveStart_starts, mirrorRebuildDone_replaces,
    fun s t e l x hx fetching t1 ht => ⟨replicaFetchDone_lands s t e l x hx fetching t1 ht, replicaFetchDone_waits s e l x hx fetching⟩,
    replicaFetchRetry_asks, fun _ => rfl, agePass_clamps, switchLeaf_promote⟩

end Sys2Proof.Machine

end

section

/-! How an admitted Nirod command ends: with its answer, or waiting. -/

namespace Sys2Proof.Machine

variable {c : Ctx} {k : Cmd} {tg : Target} {body : State → Res} {s t u : State} {st : Nat} {items : List Item}

theorem nirodFull_answers {i : Instr} {legalNow : State → Nat} (h : s.admits c k tg legalNow = true) (ht : t = s.taken c k.op tg)
    (hb : body t = (u, some (st, items))) : nirodFull i c k tg legalNow body s = u.reply c k.op st items := by
  rw [nirodFull_admitted i c k tg legalNow body s h, ← ht, hb]
  rfl

theorem nirodFull_waits {i : Instr} {legalNow : State → Nat} (h : s.admits c k tg legalNow = true) (ht : t = s.taken c k.op tg)
    (hb : body t = (u, none)) : nirodFull i c k tg legalNow body s = u := by
  rw [nirodFull_admitted i c k tg legalNow body s h, ← ht, hb]
  rfl

theorem nirod_answers {i : Instr} (h : s.starts t c k tg) (hb : body t = (u, some (st, items))) :
    Host.Outcome.next (nirod i c k tg body s) = (.next (u.reply c k.op st items) : Out) :=
  congrArg Host.Outcome.next (nirodFull_answers h.1 h.2 hb)

theorem nirod_waits {i : Instr} (h : s.starts t c k tg) (hb : body t = (u, none)) :
    Host.Outcome.next (nirod i c k tg body s) = (.next u : Out) :=
  congrArg Host.Outcome.next (nirodFull_waits h.1 h.2 hb)

end Sys2Proof.Machine

end

section

/-! The session commands. -/

namespace Sys2Proof.Machine

theorem sessionOpenBody_opens {t : State} {cls compId spdm partBytes : Nat} {x : Session} {k : Digest} {a : Cls} (hcls : cls ≤ 2)
    (hlo : 1024 ≤ partBytes) (hhi : partBytes ≤ 8192) (hmod : partBytes % 64 = 0) (hx : t.nirod.sessions.look spdm = some x)
    (unbound : x.cls = none) (finished : x.signer = some k)
    (ha : a = (if cls = 0 then .fabricManager else if cls = 1 then .owner else .observer))
    (admits : t.keyAdmits k a (if cls = 0 then none else t.handleOf compId) = true) :
    sessionOpenBody cls compId spdm partBytes t = ok [.num spdm, .num (t.field Reg.CM_SESSION_CFG 15 0)]
      (t.modSession spdm fun x => { x with
          cls := some a
          comp := (if cls = 0 then none else t.handleOf compId).getD 256
          compId := compId
          partBytes := partBytes
          idleS := t.field Reg.CM_SESSION_CFG 15 0
          lastCmdNs := t.clk.timeNs }) := by
  have parts : ¬(partBytes < 1024 ∨ 8192 < partBytes ∨ partBytes % 64 ≠ 0) := by omega
  rw [sessionOpenBody, if_neg (by omega), if_neg parts, hx]
  simp only [unbound, finished, ← ha, admits]
  rfl

/-- Settles O7: each session command by its body. -/
theorem sessionCommandsComplete : Obligations.SessionCommandsComplete := by
  refine ⟨fun s t c hs => nirod_answers hs rfl, fun s t c hs => nirod_answers hs rfl, fun s t c hs => nirod_waits hs rfl,
    fun s t c cls compId spdm partBytes x k a hs hcls hlo hhi hmod hx unbound finished ha admits =>
      nirod_answers hs (sessionOpenBody_opens hcls hlo hhi hmod hx unbound finished ha admits),
    fun s t c target d hadm ht htarget up hd => congrArg Host.Outcome.next (nirodFull_answers hadm ht ?_)⟩
  rw [deviceStateBody, if_neg (by omega), if_neg up, ← hd]
  rfl

end Sys2Proof.Machine

end

section

/-! Packets and timers of the control port. -/

namespace Sys2Proof.Machine

theorem partTimeout_discards (s : State) (a : Assembly)
    (ha : s.nirod.asm.find? (fun b => b.session == a.session && b.seq == a.seq) = some a) :
    exec (.partTimeout a.session a.seq) s = .next
      (((s.advanceTo (a.firstNs + 100000000)).modNirod fun n => { n with
        asm := n.asm.filter fun b => !(b.session == a.session && b.seq == a.seq) }).bump Reg.CM_CNT_PART_TIMEOUT) := by
  change execPartTimeout a.session a.seq s = _
  rw [execPartTimeout, ha]

theorem sessionIdleTimeout_ends (s : State) (i : Nat) (x : Session) (hx : s.nirod.sessions.look i = some x) :
    exec (.sessionIdleTimeout i) s = .next ((s.advanceTo (x.lastCmdNs + x.idleS * 1000000000)).endSession i) := by
  change execSessionIdleTimeout i s = _
  rw [execSessionIdleTimeout, hx]

theorem snapshotExpiry_frees (s : State) (i : Nat) (x : Session) (p : Snapshot) (hx : s.nirod.sessions.look i = some x)
    (hp : x.snaps.find? (fun q => q.id == p.id) = some p) :
    exec (.snapshotExpiry i p.id) s = .next
      ((s.advanceTo (p.readNs + 10000000000)).modSession i fun x => { x with snaps := x.snaps.filter fun q => q.id != p.id }) := by
  change execSnapshotExpiry i p.id s = _
  rw [execSnapshotExpiry, hx, Option.bind_some, hp]

theorem nirodPartReceive_joins (s : State) (p : NirodPart) (up : s.controlUp = true) (crc : p.hdrCrcOk = true)
    (wellFormed : partWellFormed (s.partBytes p.session) p = true) (named : p.session ≠ 0)
    (known : s.nirod.sessions.has p.session = true) (encrypted : p.encrypted = true) (tag : p.tagOk = true) :
    exec (.nirodPartReceive p) s = .next (s.assemble p) := by
  change execNirodPartReceive p s = _
  simp [execNirodPartReceive, up, crc, wellFormed, named, known, encrypted, tag]

theorem nirodPartReceive_badCrc (s : State) (p : NirodPart) (up : s.controlUp = true) (crc : p.hdrCrcOk = false) :
    exec (.nirodPartReceive p) s = .next (s.bump Reg.CM_CNT_HDR_CRC) := by
  change execNirodPartReceive p s = _
  simp [execNirodPartReceive, up, crc]

/-- Settles O8: a timer by what it finds, a packet by the checks it passes. -/
theorem controlPortCompletes : Obligations.ControlPortCompletes := by
  refine ⟨partTimeout_discards, sessionIdleTimeout_ends, snapshotExpiry_frees, nirodPartReceive_joins, nirodPartReceive_badCrc,
    fun s k up hk => ?_, fun s up => ?_⟩
  · change execNeighbourDiscoveryEchoArp k s = _
    rcases hk with rfl | rfl <;> simp [execNeighbourDiscoveryEchoArp, up, State.emit]
  · change execNeighbourDiscoveryEchoArp .other s = _
    simp [execNeighbourDiscoveryEchoArp, up]

end Sys2Proof.Machine

end

section

/-! The colophon and the SPDM messages. -/

namespace Sys2Proof.Machine

/-- Settles O21: COLOPHON by the session's snapshots. -/
theorem colophonCompletes : Obligations.ColophonCompletes := by
  refine ⟨fun s t c off x p hs hx hp hoff => nirod_answers hs ?_, fun s t c off x p hs hx named hp hoff => nirod_answers hs ?_⟩
  · subst hp
    simp [hx, Nat.not_lt.mpr hoff, ok, coloReply]
  · simp [hx, named, hp, Nat.not_lt.mpr hoff, ok, coloReply]

theorem onSession_of_look {t : State} {i : Nat} {finished : Bool} {x : Session} (f : State → Res)
    (hx : t.nirod.sessions.look i = some x) (hf : x.signer.isSome = finished) : onSession i finished f t = f t := by
  simp [onSession, hx, hf]

/-- Settles O22: each SPDM message by its body, behind the identity or the session it needs. -/
theorem spdmCompletes : Obligations.SpdmCompletes := by
  refine ⟨fun s t c hs => ⟨nirod_answers hs rfl, nirod_answers hs rfl, nirod_answers hs rfl⟩,
    fun s t c n hs hv => ⟨nirod_answers hs (attest_of_identity _ hv), nirod_answers hs (attest_of_identity _ hv),
      nirod_answers hs (attest_of_identity _ hv), nirod_answers hs (attest_of_identity _ hv)⟩,
    fun s t c i hs room hi => nirod_answers hs ?_, fun s t c i g x hs hx unsigned good => nirod_answers hs ?_,
    fun s t c i k x hs hx signed => ?_, fun s t c i hs known => nirod_waits hs ?_⟩
  · subst hi
    exact if_neg (by omega)
  · exact (onSession_of_look _ hx (by simp [unsigned])).trans (if_pos good)
  · have finished : x.signer.isSome = true := by simp [signed]
    exact ⟨nirod_answers hs (onSession_of_look _ hx finished), nirod_answers hs (onSession_of_look _ hx finished),
      nirod_answers hs (onSession_of_look _ hx finished)⟩
  · exact if_pos known

/-- Settles O23: each change of the debug state by the checks that its command passes. -/
theorem debugStatesComplete : Obligations.DebugStatesComplete := by
  refine ⟨fun s t c k hs target fresh signer sealed => nirod_answers hs ?_,
    fun s t c k hs target fresh signer st noneSecret => nirod_answers hs ?_,
    fun s t c k hs target fresh signer empty => nirod_waits hs ?_,
    fun s t c hs diag => nirod_answers hs (if_pos (.inl diag)),
    fun s t c k hs fresh signer returning gen => nirod_answers hs ?_⟩
  · simp [debugEnterBody, target, fresh, signer, sealed, ok, State.modSec]
  · have noSecret : (List.any t.comps fun (q : Nat × Comp) => q.2.confidential) = false :=
      List.any_eq_false.mpr fun q hq => by simp [noneSecret q hq]
    have left : ¬(t.sec.debugSt ≠ .sealed ∧ t.sec.debugSt ≠ .diag) := by grind
    simp [debugEnterBody, target, fresh, signer, left, noSecret, ok]
  · simp [debugEnterBody, target, fresh, signer, empty, wait]
  · simp [fresh, signer, returning, Nat.not_le.mpr gen, ok, State.modSec]

end Sys2Proof.Machine

end

section

/-! Register reads and writes. -/

namespace Sys2Proof.Machine

/-! ### The registers that rows write -/

theorem regKind_jrnSel : regKind Reg.JRN_SEL = some (.cfg 0xFFF false 0) := by decide +kernel
theorem regKind_recClogSel : regKind Reg.REC_CLOG_SEL = some (.cfg 0x3FF false 0) := by decide +kernel
theorem regKind_jrnCtl : regKind Reg.JRN_CTL = some .own := by decide +kernel
theorem regKind_swHistCtl : regKind Reg.SW_HIST_CTL = some .own := by decide +kernel
theorem regKind_swQShaper : regKind Reg.SW_Q_SHAPER = some .own := by decide +kernel
theorem regKind_furrowSlot : ∀ n < 64, regKind (Reg.FURROW_SLOT + 4 * n) = some (.cfg 0x800000FF false 0) := by decide +kernel

theorem furrowSlot_ne {n : Nat} (hn : n < 64) (x : Nat) (hx : x < Reg.FURROW_SLOT ∨ Reg.FURROW_SLOT + 256 ≤ x) :
    Reg.FURROW_SLOT + 4 * n ≠ x := by
  omega

theorem furrowSlot_not_mirror (n : Nat) : ¬Reg.FURROW_SLOT + 4 * n < 0x400280 := by
  change ¬0x400400 + 4 * n < 0x400280
  omega

theorem cfgInRange_furrowSlot (n v : Nat) (hn : n < 64) : cfgInRange (Reg.FURROW_SLOT + 4 * n) v = true := by
  have other := furrowSlot_ne hn
  simp (disch := decide) only [cfgInRange, other, furrowSlot_not_mirror, false_and, and_false, if_false]

/-- The mask of a FURROW_SLOT keeps the handle in its low byte. -/
theorem furrowMask_mod (v : Nat) : (v &&& 0x800000FF) % 256 = v % 256 := by
  rw [show (256 : Nat) = 2 ^ 8 from rfl, Nat.and_mod_two_pow]
  exact (congrArg (v % 2 ^ 8 &&& ·) (show 0x800000FF % 2 ^ 8 = 2 ^ 8 - 1 from rfl)).trans
    ((Nat.and_two_pow_sub_one_eq_mod _ 8).trans (Nat.mod_mod _ _))

theorem cfgRefused_furrowSlot (s : State) (n v : Nat) (x : Comp) (hn : n < 64) (hx : s.comp (v % 256) = some x)
    (furrow : x.furrow = true) : s.cfgRefused (Reg.FURROW_SLOT + 4 * n) (v &&& 0x800000FF) = false := by
  have other := furrowSlot_ne hn
  have slot : Reg.FURROW_SLOT ≤ Reg.FURROW_SLOT + 4 * n ∧ Reg.FURROW_SLOT + 4 * n < Reg.FURROW_SLOT + 0x100 := by omega
  simp (disch := decide) only [State.cfgRefused, other, furrowSlot_not_mirror, false_and, and_false, if_false, if_pos slot,
    furrowMask_mod, hx, Option.any_some, furrow, Bool.not_true, Bool.and_false]

theorem cfgEffect_furrowSlot (s : State) (n v : Nat) (hn : n < 64) : s.cfgEffect (Reg.FURROW_SLOT + 4 * n) v = s := by
  rw [State.cfgEffect, if_neg (furrowSlot_ne hn _ (by decide)), if_neg (furrowSlot_ne hn _ (by decide))]

theorem csrReads_all {addrs : List Nat} (h : ∀ a ∈ addrs, (regKind a).isSome = true) :
    (addrs.findIdx? fun a => (regKind a).isNone) = none := by
  refine List.findIdx?_eq_none_iff.mpr fun a ha => ?_
  have := h a ha
  cases e : regKind a <;> simp_all

theorem csrWrite_lock {s : State} {a v : Nat} (hk : regKind a = some .lock) (set : bit v 0 = true) :
    s.csrWrite a v = (s.setReg a 1, Wr.WRITTEN) := by
  simp only [State.csrWrite, hk, set, if_true]

/-- What a write of a register with a rule of its own does, when it is taken. -/
theorem csrWriteBody_own {a : Nat} {v : Word} {s u : State} (hk : regKind a = some .own)
    (hw : s.writeOwn a v.toNat = (u, Wr.WRITTEN)) : csrWriteBody [(a, v)] s = ok [.num Wr.WRITTEN] (u.dropTrays s) := by
  simp only [csrWriteBody_one, State.csrWrite, hk, hw]
  rfl

theorem writeOwn_jrnCtl (s : State) (v : Nat) :
    s.writeOwn Reg.JRN_CTL v = (if bit v 0 then s.modFw fun f => { f with clearPaths := true } else s, Wr.WRITTEN) := by
  have selected : s.selected Reg.JRN_CTL = true := by
    simp +decide [State.selected]
  simp +decide [State.writeOwn, selected]

theorem selected_queue {s : State} {a : Nat} (queue : perQueue a = true) : s.selected a = s.links.has s.selQueue.1 := by
  simp [State.selected, queue]

theorem writeOwn_histCtl (s : State) (v : Nat) (port : s.links.has s.selQueue.1 = true) (clear : bit v 0 = true) :
    s.writeOwn Reg.SW_HIST_CTL v = (s.modSelQueue Queue.clearHist, Wr.WRITTEN) := by
  have selected : s.selected Reg.SW_HIST_CTL = true := (selected_queue (by decide)).trans port
  simp +decide [State.writeOwn, selected, State.writeQueueReg, clear]

theorem writeOwn_shaper (s : State) (v : Nat) (l : LPort) (port : s.links.look s.selQueue.1 = some l)
    (rate : bits v 18 0 ≤ 262144) (burst : bit v 31 = true → 4128 ≤ (l.queue s.selQueue.2).burst) :
    s.writeOwn Reg.SW_Q_SHAPER v = (s.modSelQueue fun q => { q with shapeOn := bit v 31, rate := bits v 18 0 }, Wr.WRITTEN) := by
  have selected : s.selected Reg.SW_Q_SHAPER = true := (selected_queue (by decide)).trans (by simp [NMap.has, port])
  have slow : ¬(bit v 31 && decide ((l.queue s.selQueue.2).burst < 4128)) = true := by
    simpa [Nat.not_lt] using burst
  simp +decide [State.writeOwn, selected, State.writeQueueReg, Nat.not_lt.mpr rate, port, slow]

/-- Settles O9: reads by the registers read, writes by the kind of the register. -/
theorem registerAccessesComplete : Obligations.RegisterAccessesComplete := by
  refine ⟨fun s t c addrs hs nonempty short known => nirod_answers hs ?_,
    fun s t c a v mask rwl r hs hk unlocked range free => nirod_answers hs (csrWriteBody_cfg a v mask r rwl t hk unlocked range free),
    fun s t c a v hs hk set => nirod_answers hs ?_,
    fun s t c v hs => nirod_answers hs ?_,
    fun s t c v hs => nirod_answers hs ?_,
    fun s t c v hs => nirod_answers hs ?_,
    fun s t c n v x hs hn hx furrow => nirod_answers hs ?_,
    fun s t c v hs port clear => nirod_answers hs (csrWriteBody_own regKind_swHistCtl (writeOwn_histCtl t v.toNat port clear)),
    fun s t c v l hs port rate burst =>
      nirod_answers hs (csrWriteBody_own regKind_swQShaper (writeOwn_shaper t v.toNat l port rate burst))⟩
  · simp [nonempty, Nat.not_lt.mpr short, csrReads_all known, ok]
  · rw [csrWriteBody_one, csrWrite_lock hk set, dropTrays_of_same t (t.setReg a 1) rfl rfl]
    rfl
  · refine (csrWriteBody_cfg _ v _ _ _ t regKind_jrnSel rfl (by rfl) (by rfl)).trans ?_
    rw [State.cfgEffect, if_pos rfl, Nat.and_two_pow_sub_one_eq_mod _ 12, Nat.mod_mod]
    rfl
  · refine (csrWriteBody_own regKind_jrnCtl (writeOwn_jrnCtl t v.toNat)).trans ?_
    rw [dropTrays_of_same _ _ (by split <;> rfl) (by split <;> rfl)]
    rfl
  · refine (csrWriteBody_cfg _ v _ _ _ t regKind_recClogSel rfl (by rfl) (by rfl)).trans ?_
    rw [State.cfgEffect, if_neg (by decide), if_pos rfl, Nat.and_two_pow_sub_one_eq_mod _ 10, Nat.mod_mod]
    rfl
  · rw [if_neg (by omega)]
    refine (csrWriteBody_cfg _ v _ _ _ t (regKind_furrowSlot n hn) rfl (cfgInRange_furrowSlot n _ hn)
      (cfgRefused_furrowSlot t n _ x hn hx furrow)).trans ?_
    rw [cfgEffect_furrowSlot _ _ _ hn]
    rfl

end Sys2Proof.Machine

end

section

/-! JTAG, the supplies and the pins. -/

namespace Sys2Proof.Machine

/-- Settles O14: an instruction by the grant, the drive of the pins, and IDCODE. -/
theorem jtagComplete : Obligations.JtagComplete := by
  refine ⟨fun s i powered refused => ?_, fun s i powered granted drives high state => ?_, fun s powered => ?_,
    fun s i powered granted notId safe => ?_, fun s powered => ?_⟩
  · change execJtagInstruction i s = _
    simp [execJtagInstruction, powered, refused, State.bump, State.bumpBy]
  · change execJtagInstruction i s = _
    simp [execJtagInstruction, powered, granted, drives, high, state]
  · change execJtagInstruction .idcode s = _
    simp [execJtagInstruction, powered, jtagGranted, jtagDrives, State.emit]
  · change execJtagInstruction i s = _
    have notDriven : ¬(jtagDrives i = true ∧ (!decide (s.pins.resetLow = true ∨ s.dev.state = .maintenance)) = true) := by
      rintro ⟨drives, unmet⟩
      simp [safe drives] at unmet
    simp only [execJtagInstruction, powered, granted, notDriven, notId]
    rfl
  · change execTrstNAssert s = _
    simp [execTrstNAssert, powered]

theorem startBoot_fields (deep : Bool) (s : State) :
    (s.startBoot deep).dev.state = .boot ∧ (s.startBoot deep).fw.step = 1 ∧ (s.startBoot deep).fw.fromDeep = deep
    ∧ (s.startBoot deep).clk = s.clk ∧ (s.startBoot deep).comps = s.comps ∧ (s.startBoot deep).nirod = s.nirod
    ∧ (s.startBoot deep).rcd = s.rcd ∧ (s.startBoot deep).ev = s.ev
    ∧ (s.startBoot deep).fw.bootCount = (s.fw.bootCount + 1) % 2 ^ 32
    ∧ (s.startBoot deep).fw.journal.head?.map JEntry.detail = some (s.pins.railDetail.getD 0)
    ∧ (s.startBoot deep).pins = { s.pins with railDetail := none, sleepLow := false } := by
  by_cases h : s.dev.state = .boot <;>
    simp [State.startBoot, State.started, State.enter, State.modDev, State.modFw, State.journal, h]

theorem bootFromOff_fields (s : State) :
    s.bootFromOff.dev.state = .boot ∧ s.bootFromOff.fw.step = 1 ∧ s.bootFromOff.fw.fromDeep = false
    ∧ s.bootFromOff.clk = s.clk ∧ s.bootFromOff.rcd = s.rcd ∧ s.bootFromOff.fw.bootCount = (s.fw.bootCount + 1) % 2 ^ 32
    ∧ s.bootFromOff.pins = { s.pins with railDetail := none, sleepLow := false } := by
  have dropped : ∃ u : State, s.bootFromOff = u.startBoot false ∧ u.clk = s.clk ∧ u.rcd = s.rcd ∧ u.fw = s.fw ∧ u.pins = s.pins := by
    refine ⟨if s.image.isSome then s.dropImage else s, rfl, ?_⟩
    split <;> exact ⟨rfl, rfl, rfl, rfl⟩
  obtain ⟨u, hu, hclk, hrcd, hfw, hpins⟩ := dropped
  obtain ⟨state, step, deep, clk, -, -, rcd, -, count, -, pins⟩ := startBoot_fields false u
  rw [hu]
  exact ⟨state, step, deep, clk.trans hclk, rcd.trans hrcd, by rw [count, hfw], by rw [pins, hpins]⟩

theorem standbyExit_fields (cause : Bool × Bool × Bool × Nat) (s : State) :
    (s.standbyExit cause).dev.state = s.dev.resume ∧ (s.standbyExit cause).dev.coresOn = 0xFF
    ∧ (s.standbyExit cause).dev.hbmSr = 0 ∧ (s.standbyExit cause).dev.ctrlListen = false
    ∧ (s.standbyExit cause).dev.wakeCause = cause ∧ (s.standbyExit cause).ev.fallow = false
    ∧ (s.standbyExit cause).dev.pausedAt = none := by
  have resumed : s.resumeLeases.dev.resume = s.dev.resume ∧ s.resumeLeases.dev.pausedAt = none := by
    unfold State.resumeLeases
    split
    · exact ⟨rfl, ‹_›⟩
    · exact ⟨rfl, rfl⟩
  have entered (d : DevState) (u : State) : (u.enter d).dev.state = d ∧ (u.enter d).dev.pausedAt = u.dev.pausedAt := by
    unfold State.enter
    split
    · exact ⟨‹_›, rfl⟩
    · exact ⟨rfl, rfl⟩
  obtain ⟨hresume, hpaused⟩ := resumed
  obtain ⟨state, paused⟩ := entered s.resumeLeases.dev.resume s.resumeLeases
  exact ⟨state.trans hresume, rfl, rfl, rfl, rfl, rfl, paused.trans hpaused⟩

theorem settled_journal (f : Firmware) : f.settled.journal = f.journal := by
  unfold Firmware.settled
  split <;> rfl

theorem filtered_long {s : State} {n : Nat} (h : 1000 ≤ n) : s.filtered n = true := by
  simp [State.filtered, h]

theorem filtered_short {s : State} {n : Nat} (h : n < 500) : s.filtered n = false := by
  simp only [State.filtered, Bool.or_eq_false_iff, Bool.and_eq_false_iff, decide_eq_false_iff_not]
  omega

theorem losePower_fields (s : State) :
    s.losePower.pins.powered = false ∧ s.losePower.dev.state = .poweredOff ∧ s.losePower.dev.coresOn = 0
    ∧ s.losePower.comps = [] ∧ s.losePower.nirod.sessions = [] ∧ s.losePower.pool = Pool.reset
    ∧ s.losePower.fw.journal = s.fw.journal ∧ s.losePower.rcd.flash = s.rcd.flash
    ∧ s.losePower.rcd.opSeconds = s.rcd.opSeconds ∧ s.losePower.image = s.image :=
  ⟨rfl, rfl, rfl, rfl, rfl, rfl, settled_journal s.fw, rfl, rfl, rfl⟩

/-- Settles O12: each event of the supplies and the pins by the state it leaves. -/
theorem suppliesComplete : Obligations.SuppliesComplete := by
  refine ⟨fun s off high => ?_, fun s powered => ?_, fun s n long powered trip on => ?_, fun s low powered trip on => ?_,
    fun s n long powered high standby => ?_, fun s n deep pending => ?_, fun s n pending => ?_,
    fun s r n hr long powered sleep rails on high => ?_, fun s r n h9 h12 powered => ?_, fun s n short => ⟨?_, ?_⟩⟩
  · let u : State := { s with
      pins := { s.pins with powered := true }
      rcd := { s.rcd with cycles := min (s.rcd.cycles + 1) 0xFFFFFFFF } }
    obtain ⟨state, step, deep, -, rcd, count, pins⟩ := bootFromOff_fields u
    refine ⟨u.bootFromOff, ?_, by rw [pins], state, step, deep, by rw [rcd], count⟩
    change execPowerOn s = _
    simp [execPowerOn, off, high, u]
  · refine ⟨s.losePower, ?_, losePower_fields s⟩
    change execPowerLoss s = _
    rw [execPowerLoss, if_pos powered]
  · refine ⟨{ s.drawn.clearAll false false with pins := { (s.drawn.clearAll false false).pins with resetLow := true, sleepLow := false } },
      ?_, rfl, rfl, rfl, rfl, rfl, rfl, settled_journal s.fw, rfl⟩
    change execResetNAssert n s = _
    have alive : s.drawn.pins.powered = true ∧ (!s.drawn.pins.thermtripLow) = true ∧ s.drawn.dev.state ≠ .poweredOff :=
      ⟨powered, by simp [State.drawn, trip], on⟩
    rw [execResetNAssert, filtered_long long]
    simp only [if_pos alive]
    rfl
  · obtain ⟨state, step, -, clk, -, -, -, -, -, -, pins⟩ :=
      startBoot_fields s.image.isSome { s with pins := { s.pins with resetLow := false } }
    refine ⟨_, ?_, by rw [pins], state, step, clk⟩
    change execResetNRelease s = _
    simp [execResetNRelease, low, powered, trip, on]
  · obtain ⟨state, cores, sr, listen, cause, fallow, paused⟩ := standbyExit_fields (true, false, false, 1023) s.drawn
    refine ⟨_, ?_, state, cores, sr, listen, cause, fallow, paused⟩
    change execWakeNAssert n s = _
    rw [execWakeNAssert, filtered_long long]
    simp [State.drawn, powered, high, standby]
  · obtain ⟨state, step, fromDeep, -, -, -, -, ev, -, -, pins⟩ := startBoot_fields true (s.clearAll true false)
    refine ⟨((s.clearAll true false).startBoot true).modDev fun d => { d with prior := .deepStandby }, ?_, state, rfl, step,
      fromDeep, (congrArg Evc.sources ev).trans rfl, (congrArg Pins.railsPending pins).trans rfl⟩
    change execRailsInRange s = _
    simp [execRailsInRange, deep, pending]
  · obtain ⟨u, hu⟩ : ∃ u, s.advanceTo (n + 100000000) = u := ⟨_, rfl⟩
    have time : u.clk.timeNs = max s.clk.timeNs (n + 100000000) := by rw [← hu, advanceTo_timeNs]
    refine ⟨{ u with pins := { u.pins with sleepLow := true, railsPending := none } }, ?_, rfl, rfl, time⟩
    change execRailsRestoreTimeout s = _
    simp only [execRailsRestoreTimeout, pending, hu]
  · let u : State := { s with pins := { s.pins with railDetail := some r } }
    obtain ⟨state, step, -, -, comps, nirod, -, -, -, journal, -⟩ := startBoot_fields u.image.isSome (u.clearAll false false)
    refine ⟨u.resetInto false, ?_, state, step, comps.trans rfl, (congrArg Nirod.sessions nirod).trans rfl, journal⟩
    change execRailUndervoltage r n s = _
    have inGroup : ¬12 ≤ r ∧ ¬9 ≤ r ∧ ¬n ≤ 10000 := by omega
    simp [execRailUndervoltage, powered, inGroup, sleep, rails, on, high, u]
  · refine ⟨s.losePower, ?_, rfl, rfl⟩
    change execRailUndervoltage r n s = _
    simp [execRailUndervoltage, powered, h9, Nat.not_le.mpr h12]
  · change execResetNAssert n s = _
    rw [execResetNAssert, filtered_short short]
    rfl
  · change execWakeNAssert n s = _
    rw [execWakeNAssert, filtered_short short]
    rfl

end Sys2Proof.Machine

end

section

/-! The power states. An entry into STANDBY is followed by the POWER_STATE_SET commands that waited for it: closing the ports
leaves them waiting as they were. -/

namespace Sys2Proof.Machine

/-- The POWER_STATE_SET commands that wait for the one in progress. -/
def State.powerWaiting (s : State) : List (Nat × Nat × Nat) := s.dev.powerWaiting

@[simp] theorem powerWaiting_mk (a1 a2 a3) (d : Device) (b1 b2 b3 b4 b5 b6 b7 b8 b9 b10 b11 b12 b13 b14 b15 b16 b17 b18 b19 b20 b21 b22 b23) :
    (State.mk a1 a2 a3 d b1 b2 b3 b4 b5 b6 b7 b8 b9 b10 b11 b12 b13 b14 b15 b16 b17 b18 b19 b20 b21 b22 b23).powerWaiting
      = d.powerWaiting := (rfl)

@[simp] theorem powerWaiting_eta (s : State) : s.dev.powerWaiting = s.powerWaiting := (rfl)

@[simp] theorem powerWaiting_ite {b : Prop} [Decidable b] {s t : State} :
    (if b then s else t).powerWaiting = if b then s.powerWaiting else t.powerWaiting := by
  split <;> rfl

@[simp] theorem powerWaiting_foldl {α : Type} (f : State → α → State) (h : ∀ s x, (f s x).powerWaiting = s.powerWaiting) (l : List α) (s : State) :
    (l.foldl f s).powerWaiting = s.powerWaiting := by
  induction l generalizing s with
  | nil => rfl
  | cons x l ih => exact (ih _).trans (h s x)

@[simp] theorem powerWaiting_modPort (p : Nat) (f : LPort → LPort) (s : State) : (s.modPort p f).powerWaiting = s.powerWaiting := (rfl)

@[simp] theorem powerWaiting_modTx (f : Tx → Tx) (s : State) : (s.modTx f).powerWaiting = s.powerWaiting := (rfl)

@[simp] theorem powerWaiting_modDev (f : Device → Device) (s : State) (h : (f s.dev).powerWaiting = s.dev.powerWaiting) :
    (s.modDev f).powerWaiting = s.powerWaiting := h

@[simp] theorem powerWaiting_modSw (f : Switch → Switch) (s : State) : (s.modSw f).powerWaiting = s.powerWaiting := (rfl)

@[simp] theorem powerWaiting_modEv (f : Evc → Evc) (s : State) : (s.modEv f).powerWaiting = s.powerWaiting := (rfl)

@[simp] theorem powerWaiting_bumpBy (a n : Nat) (s : State) : (s.bumpBy a n).powerWaiting = s.powerWaiting := (rfl)

@[simp] theorem powerWaiting_bump (a : Nat) (s : State) : (s.bump a).powerWaiting = s.powerWaiting := (rfl)

@[simp] theorem powerWaiting_bumpComp (h a : Nat) (s : State) : (s.bumpComp h a).powerWaiting = s.powerWaiting := (rfl)

@[simp] theorem powerWaiting_bumpPort (p a : Nat) (s : State) : (s.bumpPort p a).powerWaiting = s.powerWaiting := (rfl)

@[simp] theorem powerWaiting_emit (e : Emit) (s : State) : (s.emit e).powerWaiting = s.powerWaiting := (rfl)

@[simp] theorem powerWaiting_modSource (ev : Nat) (f : Source → Source) (s : State) :
    (s.modSource ev f).powerWaiting = s.powerWaiting := (rfl)

@[simp] theorem powerWaiting_logEvent (ev unit detail : Nat) (s : State) :
    (s.logEvent ev unit detail).powerWaiting = s.powerWaiting := by simp [State.logEvent]

@[simp] theorem powerWaiting_resumeLeases (s : State) : (s.resumeLeases).powerWaiting = s.powerWaiting := by
  unfold State.resumeLeases
  split <;> simp

@[simp] theorem powerWaiting_enter (d : DevState) (s : State) : (s.enter d).powerWaiting = s.powerWaiting := by simp [State.enter]

@[simp] theorem powerWaiting_trainAll (s : State) : (s.trainAll).powerWaiting = s.powerWaiting := (rfl)

@[simp] theorem powerWaiting_standbyExit (cause : Bool × Bool × Bool × Nat) (s : State) :
    (s.standbyExit cause).powerWaiting = s.powerWaiting := by simp [State.standbyExit]

@[simp] theorem powerWaiting_wakeOn (ev : Nat) (s : State) : (s.wakeOn ev).powerWaiting = s.powerWaiting := by simp [State.wakeOn]

@[simp] theorem powerWaiting_raise (ev unit detail : Nat) (s : State) :
    (s.raise ev unit detail).powerWaiting = s.powerWaiting := by simp [State.raise]

@[simp] theorem powerWaiting_occur (ev unit detail : Nat) (s : State) :
    (s.occur ev unit detail).powerWaiting = s.powerWaiting := by simp [State.occur]

@[simp] theorem powerWaiting_targetGone (k : Nat) (s : State) : (s.targetGone k).powerWaiting = s.powerWaiting := (rfl)

@[simp] theorem powerWaiting_checkSpillLimit (compId : Nat) (s : State) : (s.checkSpillLimit compId).powerWaiting = s.powerWaiting := by
  unfold State.checkSpillLimit
  split <;> simp

@[simp] theorem powerWaiting_setOvfFull (die : Nat) (full : Bool) (s : State) :
    (s.setOvfFull die full).powerWaiting = s.powerWaiting := by simp [State.setOvfFull]

@[simp] theorem powerWaiting_enqueue (lp : Nat) (p : Packet) (s : State) : (s.enqueue lp p).powerWaiting = s.powerWaiting := by
  simp only [State.enqueue]
  repeat' split
  all_goals simp

@[simp] theorem powerWaiting_ackTrack (lp : Nat) (p : Packet) (s : State) : (s.ackTrack lp p).powerWaiting = s.powerWaiting := by
  simp only [State.ackTrack]
  repeat' split
  all_goals simp

@[simp] theorem powerWaiting_sendBy (lp : Nat) (p : Packet) (s : State) : (s.sendBy lp p).powerWaiting = s.powerWaiting := by
  unfold State.sendBy
  dsimp only
  split <;> simp

@[simp] theorem powerWaiting_holdPacket (p : Packet) (s : State) : (s.holdPacket p).powerWaiting = s.powerWaiting := (rfl)

@[simp] theorem powerWaiting_route (p : Packet) (excl : Option Nat) (s : State) : (s.route p excl).powerWaiting = s.powerWaiting := by
  simp only [State.route]
  repeat' split
  all_goals simp

@[simp] theorem powerWaiting_sendRouteUpdate (action : Nat) (nodes : List Nat) (s : State) :
    (s.sendRouteUpdate action nodes).powerWaiting = s.powerWaiting := by simp [State.sendRouteUpdate]

@[simp] theorem powerWaiting_announceRoutes (s : State) :
    (s.announceRoutes).powerWaiting = s.powerWaiting := by simp [State.announceRoutes]

@[simp] theorem powerWaiting_resend (lp : Nat) (p : Packet) (s : State) : (s.resend lp p).powerWaiting = s.powerWaiting := by
  unfold State.resend
  split <;> simp

@[simp] theorem powerWaiting_leaveUp (lp : Nat) (st : LkState) (s : State) : (s.leaveUp lp st).powerWaiting = s.powerWaiting := by
  unfold State.leaveUp
  split <;> simp

@[simp] theorem powerWaiting_setRec (id : Nat) (r : Rec) (s : State) : (s.setRec id r).powerWaiting = s.powerWaiting := (rfl)

@[simp] theorem powerWaiting_distRec (t : Nat) (s : State) : (s.distRec t).powerWaiting = s.powerWaiting := by simp [State.distRec]

@[simp] theorem powerWaiting_flushRecords (s : State) : (s.flushRecords).powerWaiting = s.powerWaiting := by simp [State.flushRecords]

@[simp] theorem powerWaiting_portsOff (s : State) : (s.portsOff).powerWaiting = s.powerWaiting := by simp [State.portsOff]

@[simp] theorem powerWaiting_stopMoves (s : State) : (s.stopMoves).powerWaiting = s.powerWaiting := (rfl)


/-- What a reply to a session leaves alone. -/
theorem unsubscribe_frame (k : Nat) (s : State) :
    ((s.unsubscribe k).dev, (s.unsubscribe k).cnt, (s.unsubscribe k).ev.fallow) = (s.dev, s.cnt, s.ev.fallow) := by
  unfold State.unsubscribe
  split <;> rfl

theorem endSession_frame (i : Nat) (s : State) :
    ((s.endSession i).dev, (s.endSession i).cnt, (s.endSession i).ev.fallow) = (s.dev, s.cnt, s.ev.fallow) :=
  foldl_frame (fun s : State => (s.dev, s.cnt, s.ev.fallow)) (fun s k => s.unsubscribe k) (fun s k => unsubscribe_frame k s)
    ((s.ev.subs.filter fun (p : Nat × Subscriber) => p.2.session == i).map Prod.fst) s

theorem reply_frame (c : Ctx) (op st : Nat) (items : List Item) (s : State) :
    (s.reply c op st items).dev = s.dev ∧ (s.reply c op st items).cnt = s.cnt
    ∧ (s.reply c op st items).ev.fallow = s.ev.fallow := by
  unfold State.reply
  split
  · exact ⟨rfl, rfl, rfl⟩
  · split
    · exact ⟨rfl, rfl, rfl⟩
    · split
      · simpa using endSession_frame c.session s
      · exact ⟨rfl, rfl, rfl⟩

theorem nextPower_none (n : Nat) {s : State} (h : s.powerWaiting = []) : State.nextPower n s = s := by
  cases n with
  | zero => rfl
  | succ n =>
    unfold State.nextPower
    rw [show s.dev.powerWaiting = [] from h]

theorem endEntry_frame {s : State} (h : s.powerWaiting = []) :
    s.endEntry = s.modDev fun d => { d with quiesce := none, creditsWithheld := false } :=
  nextPower_none _ h

theorem advanceTo_cnt (s : State) (n : Nat) : (s.advanceTo n).cnt = s.cnt := by
  unfold State.advanceTo
  dsimp only
  split <;> rfl

theorem enter_dev (d : DevState) (s : State) :
    (s.enter d).dev = if s.dev.state = d then s.dev else { s.dev with prior := s.dev.state, state := d } := by
  unfold State.enter
  split <;> rfl

/-- What the answer to an entry leaves of the state it ends in. -/
theorem standby_answered (x : State) (i q : Nat) :
    (((x.enter .standby).bump Reg.PWR_CNT_STANDBY_ENTRIES).answerPower i q St.OK [.num 2]).dev = (x.enter .standby).dev
    ∧ (((x.enter .standby).bump Reg.PWR_CNT_STANDBY_ENTRIES).answerPower i q St.OK [.num 2]).ev.fallow = x.ev.fallow := by
  obtain ⟨dev, -, fallow⟩ := reply_frame { session := i, seq := q, badItem := none } 0x6101 St.OK [.num 2]
    ((x.enter .standby).bump Reg.PWR_CNT_STANDBY_ENTRIES)
  exact ⟨dev, fallow.trans (congrArg Evc.fallow (enter_kept .standby x).2)⟩

theorem enterStandby_fields (s : State) (q : Quiesce) (awake : q.wake = none) (empty : s.powerWaiting = []) :
    (s.enterStandby q).dev.state = .standby ∧ (s.enterStandby q).dev.coresOn = 1 ∧ (s.enterStandby q).dev.hbmSr = 0xFF
    ∧ (s.enterStandby q).dev.ctrlListen = true ∧ (s.enterStandby q).dev.quiesce = none
    ∧ (s.enterStandby q).ev.fallow = true := by
  unfold State.enterStandby
  extract_lets s1 s2 rest dev2 ev2 s3 s4 s5
  have waiting : s2.powerWaiting = [] := by simp [s2, s1, empty]
  obtain ⟨dev, fallow⟩ := standby_answered s3 q.session q.seq
  have s5_eq : s5 = s4 := by
    unfold s5
    rw [awake]
  have dev5 : s5.dev = (s3.enter .standby).dev := by rw [s5_eq]; exact dev
  have fallow5 : s5.ev.fallow = true := by
    rw [s5_eq]
    refine fallow.trans ?_
    simp only [s3]
  have waiting5 : s5.powerWaiting = [] := by
    rw [State.powerWaiting, dev5]
    have kept : s3.powerWaiting = s2.powerWaiting := by simp only [s3, dev2, powerWaiting_mk, powerWaiting_eta]
    exact (powerWaiting_enter .standby s3).trans (kept.trans waiting)
  rw [nextPower_none _ waiting5, dev5, enter_dev]
  split
  · exact ⟨‹_›, rfl, rfl, rfl, rfl, fallow5⟩
  · exact ⟨rfl, rfl, rfl, rfl, rfl, fallow5⟩

/-- Settles O17: the commands by what they ask for, the entry by its end. -/
theorem powerStatesComplete : Obligations.PowerStatesComplete := by
  refine ⟨fun s t c n hadm ht hn idle => congrArg Host.Outcome.next (nirodFull_waits hadm ht ?_),
    fun s t c hadm ht idle standby => ?_, fun s q hq entry quiet shallow awake empty => ?_,
    fun s q hq entry busy unflushed empty => ?_, fun s k running present => ?_, fun s k hk waking => ?_⟩
  · have short : ¬3 ≤ n ∧ n ≠ 0 := by omega
    simp [short, idle, State.beginPower, State.modDev, wait]
  · obtain ⟨state, cores, sr, -, cause, -, -⟩ := standbyExit_fields (false, true, false, 1023) t
    obtain ⟨u, hu⟩ : ∃ u, (t.standbyExit (false, true, false, 1023)).answerPower c.session c.seq St.OK
        [.num (t.standbyExit (false, true, false, 1023)).dev.state.code] = u := ⟨_, rfl⟩
    have dev : u.dev = (t.standbyExit (false, true, false, 1023)).dev := by
      rw [← hu]
      exact (reply_frame _ _ _ _ _).1
    refine ⟨u, congrArg Host.Outcome.next (nirodFull_waits hadm ht ?_), by rw [dev, state], by rw [dev, cores], by rw [dev, sr],
      by rw [dev, cause]⟩
    simp [idle, State.beginPower, standby, wait, hu]
  · refine ⟨s.enterStandby q, ?_, enterStandby_fields s q awake empty⟩
    change execQuiesceComplete s = _
    simp [execQuiesceComplete, hq, entry, quiet, shallow]
  · obtain ⟨u, hu⟩ : ∃ u, s.advanceTo (q.startNs + 1000000 * s.field Reg.PWR_QUIESCE 15 0) = u := ⟨_, rfl⟩
    have frame : u.dev = s.dev ∧ u.cnt = s.cnt := by
      rw [← hu]
      exact ⟨(advanceTo_frame s _).2.2.1, advanceTo_cnt s _⟩
    obtain ⟨dev, cnt⟩ := frame
    obtain ⟨v, hv⟩ : ∃ v, (u.bump Reg.PWR_CNT_QUIESCE_FAIL).answerPower q.session q.seq St.EXTENT_BUSY [.num u.openSteps] = v :=
      ⟨_, rfl⟩
    have answered : v.dev = s.dev ∧ v.cnt = addCtr s.cnt Reg.PWR_CNT_QUIESCE_FAIL 1 := by
      rw [← hv, ← dev, ← cnt]
      obtain ⟨hdev, hcnt, -⟩ := reply_frame { session := q.session, seq := q.seq, badItem := none } 0x6101 St.EXTENT_BUSY
        [.num u.openSteps] (u.bump Reg.PWR_CNT_QUIESCE_FAIL)
      exact ⟨hdev, hcnt⟩
    obtain ⟨hdev, hcnt⟩ := answered
    have ended : v.endEntry = v.modDev fun d => { d with quiesce := none, creditsWithheld := false } :=
      endEntry_frame (by rw [State.powerWaiting, hdev, empty])
    refine ⟨v.endEntry, ?_, by rw [ended, ← hdev]; rfl, by rw [ended]; rfl, by rw [ended]; rfl, by rw [ended, ← hcnt]; rfl⟩
    change execQuiesceTimeout s = _
    simp [execQuiesceTimeout, hq, entry, busy, unflushed, hu, hv]
  · change execHbmIdleTimeout k s = _
    have here : s.running = true ∧ k < (if s.dev.singleDie then 4 else 8) := by
      refine ⟨running, ?_⟩
      split <;> grind
    rw [execHbmIdleTimeout, if_pos here]
    rfl
  · change execHbmWakeDone k s = _
    rw [execHbmWakeDone, if_pos ⟨hk, waking⟩]
    rfl

end Sys2Proof.Machine

end

section

/-! Compositions begin and end, and the commands on them. -/

namespace Sys2Proof.Machine

/-! ### COMP_CREATE and COMP_DESTROY -/

theorem reply_kept (c : Ctx) (op st : Nat) (items : List Item) (s : State) :
    (s.reply c op st items).comps = s.comps ∧ (s.reply c op st items).pool = s.pool := by
  have h := core_reply c op st items s
  exact ⟨congrArg Core.comps h, congrArg Core.pool h⟩

theorem enter_kept_objects (d : DevState) (s : State) : (s.enter d).comps = s.comps ∧ (s.enter d).pool = s.pool := by
  unfold State.enter
  split <;> exact ⟨rfl, rfl⟩

/-- Settles O26: the command's body on a composition that is admitted, and the two events that end a command. -/
theorem compositionsBeginAndEnd : Obligations.CompositionsBeginAndEnd := by
  refine ⟨fun s t c r h hs items hret hopen hid free whole presses => ?_,
    fun s t u c r h hs items hret hopen hid free slice presses units serving hu => ?_,
    fun s h i q y hy evicting gone => ⟨_, rfl, ?_⟩, fun s t u c h y hs hy notEvicting hu => ?_,
    fun s h i q y hy destroyer destroying noExtents noDomains => ⟨_, rfl, ?_⟩⟩
  · have debug : ¬(t.sec.debugSt = .returning ∨ (r.confidential = 1 ∧ t.sec.debugSt = .opened)) := by grind
    have identity : ¬(r.confidential = 1 ∧ (!t.sec.identityValid) = true) := by grind
    let w : State := { t with comps := t.comps.put h (newComp r t.clk.timeNs) }
    let v : State := if w.dev.state = .ready then w.enter .serving else w
    have fields : v.comps = w.comps ∧ v.pool = w.pool ∧ v.dev.state = if t.dev.state = .ready then .serving else t.dev.state := by
      by_cases ready : t.dev.state = .ready <;> simp [v, w, ready, State.enter]
    obtain ⟨comps, pool, state⟩ := fields
    obtain ⟨hcomps, hpool⟩ := reply_kept c 0x1001 St.OK (v.createReply h) v
    refine ⟨v.reply c 0x1001 St.OK (v.createReply h), nirod_answers hs ?_, hcomps.trans comps, ?_, hpool.trans pool⟩
    · have notSlice : decide (r.form = 1) = false := by simp [whole]
      simp only [items, if_neg debug, if_neg identity, free, notSlice, presses, Bool.false_and, Bool.or_self, Bool.false_eq_true,
        if_false]
      rfl
    · rw [(reply_frame _ _ _ _ _).1, state]
  · have debug : ¬(t.sec.debugSt = .returning ∨ (r.confidential = 1 ∧ t.sec.debugSt = .opened)) := by grind
    have identity : ¬(r.confidential = 1 ∧ (!t.sec.identityValid) = true) := by grind
    have quiet : (t.pressesHeld none true r.pressMask || (true && t.unitsHeld r.stackMask r.fpMask)) = false := by
      simp [presses, units]
    have notReady : ¬t.dev.state = .ready := by simp [serving]
    by_cases clear : (u.foreignLeaves h r.stackMask).isEmpty = true
    · rw [if_pos clear]
      refine nirod_answers hs ?_
      simp only [items, if_neg debug, if_neg identity, free, slice, decide_true, quiet, if_neg notReady, ← hu]
      simp [clear, ok]
    · rw [if_neg clear]
      refine nirod_waits hs ?_
      simp only [items, if_neg debug, if_neg identity, free, slice, decide_true, quiet, if_neg notReady, ← hu]
      simp [clear, wait]
  · change execSliceEvictionDone h s = _
    simp [execSliceEvictionDone, hy, evicting, gone]
  · refine nirod_waits hs ((withComp_of_comp _ hy).trans ?_)
    simp only [notEvicting, ← hu]
    rfl
  · change execCompDestroyDone h s = _
    have noCoh : (s.coh.filter fun d => d.2.comp == h) = [] := by
      refine List.filter_eq_nil_iff.mpr fun d hd => ?_
      simpa using noDomains d hd
    simp [execCompDestroyDone, hy, destroyer, destroying, noExtents, noCoh, NMap.keys]

/-! ### The commands on a composition -/

/-- Settles O27: each command's body on the composition it names. -/
theorem compositionCommandsComplete : Obligations.CompositionCommandsComplete := by
  refine ⟨fun s t u c h p n y m hs hy bindable hn room closed hm hu => nirod_answers hs ((withComp_of_comp _ hy).trans ?_),
    fun s t u c h p y m reclaim hs hy member closed free hu => nirod_answers hs ((withComp_of_comp _ hy).trans ?_),
    fun s t c h e y hs hy he => nirod_answers hs ((withComp_of_comp _ hy).trans ?_),
    fun s t c h e p y hs hy live he => nirod_answers hs ((withComp_of_comp _ hy).trans ?_),
    fun s t c h k y hs hy free groups => nirod_answers hs ((withComp_of_comp _ hy).trans ?_),
    fun s t c h y hs hy => nirod_answers hs (withComp_of_comp _ hy),
    fun s t c h y hs hy => nirod_answers hs (withComp_of_comp _ hy),
    fun s t c h y hs hy => nirod_answers hs (withComp_of_comp _ hy),
    fun s t c h l y hs hy short => nirod_answers hs ((withComp_of_comp _ hy).trans (if_neg (by omega)))⟩
  · simp [bindable, Nat.not_le.mpr hn, Nat.not_le.mpr room, closed, ← hm, ← hu, ok]
  · have idle : (!reclaim && (t.agentsAt h p m.node).any fun a => (t.coh.look a.1).any fun d => d.recaller.isSome) = false := by
      cases reclaim with
      | true => rfl
      | false =>
        refine List.any_eq_false.mpr fun a ha => ?_
        have := List.all_eq_true.mp (free rfl) a ha
        cases e : t.coh.look a.1 <;> simp_all
    simp [member, closed, idle, ← hu, ok]
  · simp [← he, ok]
  · simp only [Option.any_some, live, Bool.not_true, Bool.false_eq_true, if_false, Option.some.injEq, ← he]
    rfl
  · have used : (t.work.groups.vals.any fun g => g.comp == h && !k.getLsbD g.press) = false := by
      refine List.any_eq_false.mpr fun g hg => ?_
      have := List.all_eq_true.mp groups g hg
      grind
    simp [free, used, ok]

end Sys2Proof.Machine

end

section

/-! Extents and KV objects. -/

namespace Sys2Proof.Machine

theorem giveHint_hints {t : State} {e a n k i : Nat} {x : Extent} (notRevoking : x.state ≠ .revoking)
    (notRevoked : x.state ≠ .revoked) (hlo : 1 ≤ k) (hhi : k ≤ 3) :
    t.giveHint e a n k i x = ok [] ((List.range' a n).foldl (fun s ch => s.hintChunk e k ch) t) := by
  have hot : k ≠ 0 := by omega
  simp [State.giveHint, notRevoking, notRevoked, hot, Nat.not_lt.mpr hhi]

/-- Settles O29: each extent command's body on the composition or the extent it names, and the end of a seal. -/
theorem extentCommandsComplete : Obligations.ExtentCommandsComplete := by
  refine ⟨fun s t c h r y x hs hy items layout apart room placed => nirod_answers hs ((withComp_of_comp _ hy).trans ?_),
    fun s t c e x y hs hx state hy closed => nirod_answers hs ((withExtent_of_extent _ hx).trans ?_),
    fun s t c e a n k x hs hx nonempty inside notRevoking notRevoked hlo hhi =>
      nirod_answers hs ((withExtent_of_extent _ hx).trans ?_),
    fun s t c e x hs hx replicated active unsealed elsewhere => nirod_waits hs ((withExtent_of_extent _ hx).trans ?_),
    fun s e i q x d hx sealer quiet hd => ?_,
    fun s t c e x hs hx => nirod_answers hs (withExtent_of_extent _ hx)⟩
  · have plain : ¬(r.layout = 1 ∧ r.protection = 1) := fun ⟨l, p⟩ => layout l p
    simp only [items, if_neg plain, apart, room, placed]
    rfl
  · have ended : ¬(x.state ≠ .revoked ∧ x.state ≠ .held) := by grind
    simp [ended, hy, closed, ok]
  · have range : ¬(n = 0 ∨ x.chunkCount < a + n) := by omega
    exact (if_neg range).trans (giveHint_hints notRevoking notRevoked hlo hhi)
  · simp [replicated, active, unsealed, elsewhere, wait]
  · change execExtentSealDone e d s = _
    simp [execExtentSealDone, hx, sealer, quiet, ← hd, NMap.vals]

theorem withKv_of_look {t : State} {k : Nat} {o : Kv} {x : Extent} (f : Kv → Extent → State → Res)
    (ho : t.pool.kv.look k = some o) (hx : t.extent o.extent = some x) (live : o.state ≠ .retiring) : withKv k f t = f o x t := by
  simp [withKv, ho, hx, live]

/-- Settles O31: each KV command's body on the object it names, and the end of a lease. -/
theorem kvObjectsComplete : Obligations.KvObjectsComplete := by
  refine ⟨fun s t c r x k hs hx hk layers heads pages dim lease aligned here inside new clean =>
      nirod_answers hs ((withExtent_of_extent _ hx).trans ?_),
    fun s t c k o x hs ho hx live => nirod_answers hs (withKv_of_look _ ho hx live),
    fun s t c h k key y o x hs hy found ho hx live here => nirod_answers hs ((withComp_of_comp _ hy).trans ?_),
    fun s t c k o x hs ho hx live here refs => nirod_answers hs ((withKv_of_look _ ho hx live).trans ?_),
    fun s t c k o hs ho refs => nirod_answers hs ?_,
    fun s t c k n e o x hs ho hx live hlo hhi he => nirod_answers hs ((withKv_of_look _ ho hx live).trans ?_),
    fun s t c k n a b o x hs ho hx live notRevoking notRevoked hlo hhi size ha hb =>
      nirod_answers hs ((withKv_of_look _ ho hx live).trans ?_),
    fun s t c k o hs ho refs implicit => nirod_answers hs ?_,
    fun s k o ho live running notHeld => ?_,
    fun s t c k o hs ho refs => nirod_answers hs ?_, fun s t c k o hs ho refs => nirod_answers hs ?_⟩
  · have inTime : (r.leaseS.any fun t => decide (t < 1 ∨ 3600 < t)) = false := by
      cases e : r.leaseS with
      | none => rfl
      | some n =>
        have := lease n e
        simp only [Option.any_some, decide_eq_false_iff_not]
        omega
    simp only [← hk, layers, heads, pages, dim, inTime, aligned, here, Nat.not_lt.mpr inside, new, clean]
    subst hk
    rfl
  · simp only [found]
    refine (withKv_of_look _ ho hx live).trans ?_
    simp [here, ok]
  · simp [here, Nat.not_le.mpr refs, ok]
  · simp [ho, refs, ok]
  · have known : ¬(n < 1 ∨ 3600 < n) := by omega
    rw [if_neg known, ← he]
    rfl
  · simp only [if_neg size, ← ha, ← hb]
    exact giveHint_hints notRevoking notRevoked hlo hhi
  · simp [ho, refs, implicit, ok]
  · change execKvLeaseExpiry k s = _
    have free : ((s.extent o.extent).any fun x => decide (x.state = .held)) = false := by
      cases e : s.extent o.extent with
      | none => rfl
      | some x => simp [notHeld x e]
    simp [execKvLeaseExpiry, ho, live, running, free]
  · simp [ho, refs, fail]
  · simp [ho, refs, invalid]

end Sys2Proof.Machine

end

section

/-! Codebooks, reduce groups and job ledgers. -/

namespace Sys2Proof.Machine

/-! ### Admission leaves the work of the presses alone -/

theorem unsubscribe_work (k : Nat) (s : State) : (s.unsubscribe k).work = s.work := by
  unfold State.unsubscribe
  split <;> rfl

theorem endSession_work (i : Nat) (s : State) : (s.endSession i).work = s.work :=
  foldl_frame State.work (fun s k => s.unsubscribe k) (fun s k => unsubscribe_work k s)
    ((s.ev.subs.filter fun (p : Nat × Subscriber) => p.2.session == i).map Prod.fst) s

theorem uncached_work (i seq op st : Nat) (s : State) : (s.uncached i seq op st).work = s.work := by
  fun_cases State.uncached i seq op st s
  · rfl
  · exact endSession_work i s
  · rfl

theorem stepSix_work (i seq op : Nat) (tg : Target) (s : State) : (s.stepSix i seq op tg).2.work = s.work := by
  fun_cases State.stepSix i seq op tg s <;>
    simp +zetaDelta [uncached_work, endSession_work, State.modSession, State.modNirod] <;> split <;> simp

theorem starts_work {s t : State} {c : Ctx} {k : Cmd} {tg : Target} (h : s.starts t c k tg) : t.work = s.work := by
  rw [h.2, State.taken]
  split
  · rfl
  · split
    · rfl
    · exact stepSix_work _ _ _ _ s

/-- Settles O32: each command's body on the composition, the extent or the job it names. -/
theorem codebooksGroupsLedgersComplete : Obligations.CodebooksGroupsLedgersComplete := by
  refine ⟨fun s t c h cb a e off g y x b hs hy hcb aligned small idle found hx hb here plain notVq finite room clean hg =>
      nirod_answers hs ((withComp_of_comp _ hy).trans ?_),
    fun s t c h cb y b hs hy hcb idle hb registered => nirod_answers hs ((withComp_of_comp _ hy).trans ?_),
    fun s t c h y hs hy => nirod_answers hs (withComp_of_comp _ hy),
    fun s t c e a n x hs hx vq hlo hhi inside => nirod_answers hs ((withExtent_of_extent _ hx).trans ?_),
    fun s t c h gid p l up y g hs hy hgid new hp masked alone hlo hhi hd contributors parent room hg =>
      nirod_answers hs ((withComp_of_comp _ hy).trans ?_),
    fun s t c h gid k y g hs hy found => nirod_answers hs ((withComp_of_comp _ hy).trans ?_),
    fun s t c h n ring entries depth y j hs hy member new elo ehi dpos dhi dle ranged safe hj =>
      nirod_answers hs ((withComp_of_comp _ hy).trans ?_),
    fun s t c k j hj hs opened => ?_⟩
  · have address : ¬(a % 128 ≠ 0 ∨ 2 ^ 57 ≤ a) := by omega
    have pins : ¬(((!(y.codebooks.look cb).any Codebook.registered) = true) ∧ (y.pinQuota < t.pinnedOf h + 2 ∨ t.t0Free < 2)) := by
      rintro ⟨fresh, short⟩
      rcases room with had | ⟨quota, frames⟩
      · simp [had] at fresh
      · omega
    simp only [Nat.not_lt.mpr hcb, if_neg address, idle, found, hx, ← hb, here, plain, notVq, finite, if_neg pins, clean, ← hg]
    rfl
  · simp [Nat.not_lt.mpr hcb, idle, hb, registered, ok]
  · have count : ¬(n = 0 ∨ 1024 < n) := by omega
    simp only [vq, if_neg count, Nat.not_lt.mpr inside]
    rfl
  · have notShared : (t.comps.any fun q => q.1 != h && q.2.pressMask.getLsbD p) = false := by
      refine List.any_eq_false.mpr fun q hq => ?_
      by_cases other : q.1 = h
      · simp [other]
      · simp [alone q hq other]
    have parents : (up.any fun p => decide (4096 ≤ p.1) || decide (256 ≤ p.2)) = false := by
      cases up with
      | none => rfl
      | some q =>
        obtain ⟨node, port⟩ := parent q rfl
        simp [node, port]
    simp [Nat.not_le.mpr hgid, new, Nat.not_le.mpr hp, masked, notShared, Nat.not_lt.mpr hlo, Nat.not_lt.mpr hhi, hd, contributors,
      parents, Nat.not_le.mpr room, ← hg, ok]
  · simp [found, ok]
  · have bounds : ¬(entries < 16 ∨ 1048576 < entries) ∧ ¬(depth = 0 ∨ 1024 < depth ∨ entries < depth) := by omega
    obtain ⟨count, deep⟩ := bounds
    have noOther : ¬((!y.members.any fun m => m.node == n) = true ∨ (t.jobFor h n).isSome = true) := by simp [member, new]
    have inExtent : (t.rangeOf h ring (64 * entries)).isNone = false := by simpa using ranged
    simp only [if_neg noOther, if_neg count, if_neg deep, inExtent, safe, State.copyBad, ← hj]
    rfl
  · change execLedgerClose c k s = _
    have job : t.work.jobs.look k = some j := by rw [starts_work hs, hj]
    rw [execLedgerClose, hj]
    refine nirod_waits hs ?_
    simp [job, opened, wait]

end Sys2Proof.Machine

end

section

/-! Coherence domains. -/

namespace Sys2Proof.Machine

theorem withDomain_of_look {t : State} {d : Nat} {x : Domain} (f : Domain → State → Res) (hx : t.coh.look d = some x) :
    withDomain d f t = f x t := by
  simp [withDomain, hx]

/-- Settles O33: each domain command's body on the domain it names, and the end of a recall. -/
theorem domainCommandsComplete : Obligations.DomainCommandsComplete := by
  refine ⟨fun s t c h a b d x hs hcomp hb free onchip overflow hx => nirod_answers hs ?_,
    fun s t c d x hs hx idle => ?_,
    fun s t c d i n p hops x a b hs hx hi hhops member agent hb => nirod_answers hs ((withDomain_of_look _ hx).trans ?_),
    fun s t c d i x hs hx known => ⟨nirod_answers hs ((withDomain_of_look _ hx).trans ?_), fun idle => ?_⟩,
    fun s t c d e x y hs hx hy same live plain free => nirod_answers hs ((withDomain_of_look _ hx).trans ?_),
    fun s t c d e x hs hx attached idle => ?_,
    fun s t d i q op what n x hx recaller settled ht hop => ?_,
    fun s t c d x hs hx => ?_,
    fun s t c d x hs hx => ⟨_, nirod_answers hs (withDomain_of_look _ hx), fun e he => ?_⟩⟩
  · have sizes : ¬2097152 < a ∧ ¬(b < 1024 ∨ 134217728 < b)
        ∧ ¬(2097152 < t.cohAllotted.1 + a ∨ 134217728 < t.cohAllotted.2 + b) := by omega
    obtain ⟨ha, hov, room⟩ := sizes
    have found : (t.comp h).isNone = false := by simpa using hcomp
    simp only [found, if_neg ha, if_neg hov, free, if_neg room, ← hx]
    rfl
  · refine congrArg Host.Outcome.next ((nirod_starts _ c _ _ _ s t hs).trans (congrArg (State.finish c 0x1102) ?_))
    refine (withDomain_of_look _ hx).trans ?_
    simp [idle]
  · simp only [Nat.not_lt.mpr hi, Nat.not_lt.mpr hhops, member]
    rcases agent with absent | ⟨present, node, port⟩
    · simp only [absent] at hb ⊢
      subst hb
      rfl
    · simp only [present] at hb ⊢
      subst hb node port
      simp [ok]
  · simp [known, ok]
  · refine congrArg Host.Outcome.next ((nirod_starts _ c _ _ _ s t hs).trans (congrArg (State.finish c 0x1104) ?_))
    refine (withDomain_of_look _ hx).trans ?_
    simp [known, idle]
  · have state : ¬(y.comp ≠ x.comp ∨ (y.state ≠ .active ∧ y.state ≠ .sealed)) := by grind
    simp only [hy, if_neg state, plain, free]
    rfl
  · refine congrArg Host.Outcome.next ((nirod_starts _ c _ _ _ s t hs).trans (congrArg (State.finish c 0x1106) ?_))
    refine (withDomain_of_look _ hx).trans ?_
    simp [attached, idle]
  · change execCohRecallDone d s = _
    simp [execCohRecallDone, hx, recaller, settled, ← ht, hop]
  · refine nirod_answers hs ((withDomain_of_look _ hx).trans ?_)
    simp [ok]
  · refine List.mem_append_left _ (List.mem_append_right _ (List.mem_map_of_mem he))

end Sys2Proof.Machine

end

section

/-! Node IDs, routes, neighbours and probes. -/

namespace Sys2Proof

theorem NMap.put_put {α : Type} (m : NMap α) (k : Nat) (v w : α) : (m.put k v).put k w = m.put k w := by
  induction m with
  | nil => simp [NMap.put]
  | cons q m ih =>
    obtain ⟨j, x⟩ := q
    by_cases lt : k < j
    · simp [NMap.put, lt]
    · by_cases eq : j = k
      · simp [NMap.put, eq]
      · simp [NMap.put, lt, eq, ih]

end Sys2Proof

namespace Sys2Proof.Machine

theorem modNbr_modNbr (p : Nat) (f g : Nbr → Nbr) (s : State) :
    (s.modNbr p f).modNbr p g = s.modNbr p fun n => g (f n) := by
  simp [State.modNbr, NMap.put_put]

theorem not_probeRefused {s : State} {p : Nat} {r : ProbeRec} {l : LPort} (hl : s.links.look p = some l) (peer : l.role = .peer)
    (reserved : r.resvZero = true) : s.probeRefused p r = false := by
  simp [State.probeRefused, hl, peer, reserved]

/-- What the K9 tells its neighbours of itself. -/
def State.names (s : State) : Topo × Sec := (s.topo, s.sec)

theorem names_ite {b : Prop} [Decidable b] {s t u : State} (hs : s.names = u.names) (ht : t.names = u.names) :
    (if b then s else t).names = u.names := by
  split <;> assumption

theorem names_modPort (p : Nat) (f : LPort → LPort) (s : State) : (s.modPort p f).names = s.names := rfl

theorem checkSpillLimit_names (c : Nat) (s : State) : (s.checkSpillLimit c).names = s.names := by
  fun_cases State.checkSpillLimit c s <;> rfl

theorem setOvfFull_names (d : Nat) (full : Bool) (s : State) : (s.setOvfFull d full).names = s.names :=
  names_ite rfl rfl

theorem enqueue_names (lp : Nat) (p : Packet) (s : State) : (s.enqueue lp p).names = s.names := by
  unfold State.enqueue
  split
  · rfl
  · extract_lets now s1
    have h1 : s1.names = s.names := names_ite rfl rfl
    split
    · exact h1
    · extract_lets hot wants full s2 s3
      have h2 : s2.names = s.names := by
        unfold s2
        split
        · exact (setOvfFull_names _ _ _).trans h1
        · exact h1
      have h3 : s3.names = s.names := (names_modPort lp _ s2).trans h2
      split
      · exact (checkSpillLimit_names _ _).trans h3
      · exact h3

theorem conflicts_of_names {s t : State} (h : t.names = s.names) (r : ProbeRec) : t.conflicts r = s.conflicts r := by
  obtain ⟨topo, sec⟩ := Prod.mk.inj h
  simp only [State.conflicts, State.linkId, topo, sec]

theorem conflicts_modNbr (s : State) (p : Nat) (f : Nbr → Nbr) (r : ProbeRec) : (s.modNbr p f).conflicts r = s.conflicts r := rfl

theorem noRouteWaitExpiry_givesUp (s t : State) (k : Nat) (x : Held) (hx : s.tx.held.look k = some x)
    (request : vcOf x.pkt.opcode = 0)
    (ht : t = ((s.advanceTo x.untilNs).modTx fun t => { t with held := t.held.del k }).bump Reg.TP_CNT_NO_ROUTE) :
    exec (.noRouteWaitExpiry k) s = .next (t.respondBack x.pkt.opcode x.pkt.hdr St.NO_ROUTE) := by
  subst ht
  change execNoRouteWaitExpiry k s = _
  rw [execNoRouteWaitExpiry, hx]
  exact congrArg Host.Outcome.next (if_pos request)

/-- Settles O34: each command's body, each packet by the checks of its port, each timer by what it finds. -/
theorem topologyCompletes : Obligations.TopologyCompletes := by
  refine ⟨fun s t c n hs hn fixed => nirod_answers hs ?_, fun s t c i r x hs hi good hx => nirod_answers hs ?_,
    fun s t c i n hs hlo hhi inside => nirod_answers hs ?_,
    fun s t c hs => ⟨_, nirod_answers hs rfl, fun q hq peer => ?_⟩,
    fun s t c p n hs hn new assigned => nirod_answers hs ?_,
    fun s p r l hl runs peer reserved calm => ?_, fun s p r l n hl runs peer reserved calm hn live => ⟨_, rfl, ?_⟩,
    fun s => rfl, fun s lab noComps unassigned none => ?_,
    fun s h epoch n l good hlo hhi length count resv status => ⟨?_, ?_⟩,
    fun s h good => ?_, noRouteWaitExpiry_givesUp, fun s k p x hx member => ?_⟩
  · simp [Nat.not_lt.mpr hn, fixed, ok]
  · have named : r.node = i := by
      simp only [State.routeOk, Bool.and_eq_true, beq_iff_eq] at good
      obtain ⟨⟨⟨⟨⟨⟨⟨-, -⟩, node⟩, -⟩, -⟩, -⟩, -⟩, -⟩ := good
      exact node
    subst hx
    simp [Nat.not_lt.mpr (Nat.succ_le_of_lt hi), good, named, ok]
  · have range : ¬(n = 0 ∨ 128 < n) ∧ ¬4096 < i + n := by omega
    obtain ⟨count, last⟩ := range
    exact (if_neg count).trans (if_neg last)
  · refine List.mem_flatMap.2 ⟨q, List.mem_filter.2 ⟨hq, by simpa using peer⟩, ?_⟩
    simp
  · simp [hn, new, assigned, ok]
  · change execProbe p r s = _
    simp [execProbe, hl, runs, peer, not_probeRefused hl peer reserved, conflicts_of_names (enqueue_names _ _ s), calm]
  · change execProbeAnswer p r s = _
    simp [execProbeAnswer, hl, runs, peer, not_probeRefused hl peer reserved, hn, live, modNbr_modNbr,
      conflicts_modNbr, calm]
  · change execLabNodeCandidate s = _
    simp [execLabNodeCandidate, lab, noComps, unassigned, none]
  · change Host.Outcome.next (s.routeUpdate true h n 0 l) = _
    simp [State.routeUpdate, good, hlo, hhi, length, count, resv, status]
  · change Host.Outcome.next (s.routeUpdate false h n 0 l) = _
    simp [State.routeUpdate, good, hlo, hhi, length, count, resv, status]
  · change execRouteUpdateAck h s = _
    simp [execRouteUpdateAck, good]
  · change execHeldRequestSend k s = _
    simp [execHeldRequestSend, hx, member]

end Sys2Proof.Machine

end

section

/-! Link training, link keys, FALLOW and wake of a port. -/

namespace Sys2Proof.Machine

/-! ### Training -/

theorem alignDone_refused (s : State) (p f : Nat) (id : Word64) (rev : Bool) (h : s.portIs p .align = true) :
    exec (.alignDone p id f rev false) s = .next
      ((s.modPort p fun l => { l with st := .detect }).bumpPort p Reg.LK_CNT_TRAIN_FAIL) := by
  change execAlignDone p id f rev false s = _
  simp [execAlignDone, h, State.trainFail, State.train]

theorem presetFor_modPort (s : State) (id : Word64) (f p q : Nat) (g : LPort → LPort) :
    (s.modPort q g).presetFor id f p = s.presetFor id f p := rfl

theorem fast_train {s : State} {p : Nat} {l : LPort} (st : LkState) (hl : s.links.look p = some l) :
    ((s.train p st).links.look p).any LPort.fast = l.fast := by
  rw [State.train, links_modPort_same _ hl]
  rfl

/-- Settles O35: each step by the state of its port and what the far end showed. -/
theorem linkTrainingCompletes : Obligations.LinkTrainingCompletes := by
  refine ⟨fun s p h => ?_, fun s p l hl st signal => ?_, fun s p k h => ?_, fun s t p f id rev h ht allowed unknown => ?_,
    fun s t p f id rev q h ht allowed preset => ?_, alignDone_refused, fun s p k l hl st => ?_,
    fun s p l hl st fast => ?_, fun s t p l far hl st role crypt credits ht => ?_, fun s p l hl st => ?_, fun s p l hl st => ?_⟩
  · change execSignalDetect p s = _
    simp [execSignalDetect, h]
  · change execDetectDone p s = _
    simp [execDetectDone, (portIs_iff hl).2 st, hl, signal, State.train]
  · change execLaneLockDone p k s = _
    simp [execLaneLockDone, h, State.train]
  · change execAlignDone p id f rev true s = _
    simp [execAlignDone, h, ← ht, allowed, presetFor_modPort, unknown, State.train]
  · change execAlignDone p id f rev true s = _
    simp [execAlignDone, h, ← ht, allowed, presetFor_modPort, preset, State.train]
  · change execEqualizeDone p k s = _
    simp [execEqualizeDone, (portIs_iff hl).2 st, fast_train _ hl]
    rfl
  · change execFastEqualizeFail p s = _
    simp [execFastEqualizeFail, hl, st, fast]
  · change execLinkInitDone p far s = _
    have accepted : ¬(far.role ≠ l.role.code ∨ (l.crypt = true ∧ (!far.crypt) = true)
        ∨ (!((List.range 8).all fun v => decide (1 ≤ (far.credits[v]?).getD 0))) = true) := by
      simp only [credits]
      grind
    simp only [execLinkInitDone, hl, st, if_neg accepted]
    subst ht
    rfl
  · change execTrainingStepTimeout p s = _
    rcases st with st | st | st | st | ⟨st, signal⟩ <;>
      simp [execTrainingStepTimeout, State.trainFail, State.train, *]
  · change execSignalLoss p s = _
    have up : (s.modPort p fun l => { l with signal := false }).portIs p .up = true :=
      (portIs_iff (links_modPort_same _ hl)).2 st
    simp [execSignalLoss, up]

/-! ### Keys, FALLOW and wake -/

/-- Settles O37: each event by the state of its port. -/
theorem linkKeysAndFallowComplete : Obligations.LinkKeysAndFallowComplete := by
  refine ⟨fun s p l hl runs crypt off => ?_, fun s p l hl runs crypt on rekeying => ?_,
    fun s p l hl on => ⟨_, rfl, ?_, fun q hq => NMap.look_change_ne _ _ _ _ hq⟩,
    fun s p k l hl up on hk => ⟨_, rfl, ?_⟩, fun s p l hl may idle unasked => ?_, fun s p l hl may asked => ?_,
    fun s p l hl may unasked idle => ?_, fun s p l hl up asked => ?_, fun s p h => ⟨?_, ?_⟩,
    fun s p l hl fallow waking => ⟨⟨_, rfl, ?_⟩, ?_⟩, fun s p => rfl⟩
  · change execLinkKeyEstablished p s = _
    simp [execLinkKeyEstablished, hl, runs, crypt, off]
  · change execLinkKeyEstablished p s = _
    simp [execLinkKeyEstablished, hl, runs, crypt, on, rekeying]
  · rw [links_modPort_same _ hl, if_pos on]
  · rw [links_modPort_same _ hl, if_pos ⟨up, on, hk⟩]
  · change execPortIdleTimeout p s = _
    simp [execPortIdleTimeout, hl, may, idle, unasked]
  · change execFallowReqReceive p s = _
    simp [execFallowReqReceive, hl, may, asked]
  · change execFallowReqReceive p s = _
    simp [execFallowReqReceive, hl, may, unasked, idle]
  · change execFallowAckReceive p s = _
    simp [execFallowAckReceive, hl, up, asked]
  · change execFallowLockBurst p s = _
    simp [execFallowLockBurst, h]
  · change execWakeToneReceive p s = _
    simp [execWakeToneReceive, h]
  · rw [links_modPort_same _ hl, if_pos ⟨fallow, waking⟩]
  · change execPortWakeTimeout p s = _
    simp [execPortWakeTimeout, hl, fallow, waking]

end Sys2Proof.Machine

end

section

/-! Writes of LK_PORT_CFG. -/

namespace Sys2Proof.Machine

theorem regKind_lkPortCfg : regKind Reg.LK_PORT_CFG = some .own := by decide +kernel

/-- What LK_PORT_CFG's value asks of a logical port. -/
def LPort.configured (v : Nat) (l : LPort) : LPort :=
  { l with
    role := Role.ofCode (bits v 30 29)
    trayIndex := bits v 22 18
    fecLow := bit v 26
    crypt := bit v 25
    fallowEn := bit v 24
    reduced := bit v 23 }

theorem writeOwn_lkPortCfg (s : State) (v : Nat) : s.writeOwn Reg.LK_PORT_CFG v = s.writePortCfg v := by
  simp [State.writeOwn]

/-- A write that keeps the split, and either keeps the port's settings or finds the port off. -/
theorem writePortCfg_keepsSplit {s : State} {v : Nat} {l : LPort} (hl : s.links.look (s.reg Reg.LK_PORT_SEL % 256) = some l)
    (tray : bits v 22 18 < 24)
    (split : bits v 28 27 = (if s.reg Reg.LK_PORT_SEL % 256 % 8 = 0 then splitOfWidth l.width else 0))
    (notTray : Role.ofCode (bits v 30 29) ≠ .tray)
    (off : l.st = .disabled ∨ (Role.ofCode (bits v 30 29) = l.role ∧ bits v 22 18 = l.trayIndex ∧ bit v 26 = l.fecLow
      ∧ bit v 25 = l.crypt ∧ bit v 23 = l.reduced)) :
    s.writePortCfg v = (((s.modPort (s.reg Reg.LK_PORT_SEL % 256) (·.configured v)).setEnable (s.reg Reg.LK_PORT_SEL % 256)
      (bit v 31)).storePorts, Wr.WRITTEN) := by
  have kept : (if s.reg Reg.LK_PORT_SEL % 256 % 8 = 0 then bits v 28 27 != splitOfWidth l.width else bits v 28 27 != 0) = false := by
    split <;> simp_all
  have settings : ((Role.ofCode (bits v 30 29) != l.role || bits v 22 18 != l.trayIndex || bit v 26 != l.fecLow
      || bit v 25 != l.crypt || bit v 23 != l.reduced) && decide (l.st ≠ .disabled)) = false := by
    rcases off with st | ⟨role, tray, fec, crypt, reduced⟩
    · simp [st]
    · simp [role, tray, fec, crypt, reduced]
  simp only [State.writePortCfg, hl, Nat.not_le.mpr tray, kept, settings, notTray, decide_false, Bool.false_and,
    Bool.false_eq_true, if_false]
  rfl

theorem writePortCfg_splits {s : State} {v : Nat} {l : LPort} (hl : s.links.look (s.reg Reg.LK_PORT_SEL % 256) = some l)
    (whole : s.reg Reg.LK_PORT_SEL % 256 % 8 = 0) (tray : bits v 22 18 < 24) (split : bits v 28 27 ≠ splitOfWidth l.width)
    (notTray : Role.ofCode (bits v 30 29) ≠ .tray)
    (off : ((s.links.filter fun q => q.1 / 8 == s.reg Reg.LK_PORT_SEL % 256 / 8).all fun q => decide (q.2.st = .disabled)) = true) :
    s.writePortCfg v = ((((s.setSplit (s.reg Reg.LK_PORT_SEL % 256 / 8) (bits v 28 27)).modPort (s.reg Reg.LK_PORT_SEL % 256)
      (·.configured v)).setEnable (s.reg Reg.LK_PORT_SEL % 256) (bit v 31)).storePorts, Wr.WRITTEN) := by
  have changed : (bits v 28 27 != splitOfWidth l.width) = true := by simpa using split
  have st : l.st = .disabled := by
    simpa using List.all_eq_true.mp off _ (List.mem_filter.2 ⟨NMap.mem_of_look hl, by simp⟩)
  simp only [State.writePortCfg, hl, Nat.not_le.mpr tray, changed, whole, off, notTray, st]
  simp
  rfl

/-- Settles O38: the three writes by the split and the settings they keep or change. -/
theorem portWritesComplete : Obligations.PortWritesComplete := by
  refine ⟨fun s t u c v p l hs hp hl tray split notTray off hu => nirod_answers hs (csrWriteBody_own regKind_lkPortCfg ?_),
    fun s t u c v p l hs hp hl tray inRange split role notTray fec crypt reduced off hu =>
      nirod_answers hs (csrWriteBody_own regKind_lkPortCfg ?_),
    fun s t u c v p l hs hp whole hl tray split off notTray hu => nirod_answers hs (csrWriteBody_own regKind_lkPortCfg ?_)⟩
  · subst hp hu
    exact (writeOwn_lkPortCfg _ _).trans (writePortCfg_keepsSplit hl tray split notTray (.inl off))
  · subst hp hu
    rw [← off]
    exact (writeOwn_lkPortCfg _ _).trans (writePortCfg_keepsSplit hl (tray ▸ inRange) split (role ▸ notTray)
      (.inr ⟨role, tray, fec, crypt, reduced⟩))
  · subst hp hu
    exact (writeOwn_lkPortCfg _ _).trans (writePortCfg_splits hl whole tray split notTray off)

end Sys2Proof.Machine

end

section
/-! Requests for the pool, FENCEs, responses and retries (R22, R182 to R204). -/

namespace Sys2Proof.Machine

variable {s u v : State} {h : Hdr} {d : List Byte} {c e ep : Nat}

/-! ### Loads, stores and atomics -/

/-- A request whose address is mapped and permitted is served. -/
theorem afterDedup_serves {p : Packet} (hep : v.epochFor c p.hdr.epoch = some ep)
    (hmap : v.mapExtent c ep p.hdr.addr (requestBytes p.opcode p.hdr) = some e)
    (href : v.extentRefuses p.opcode c e p.hdr = none) : v.afterDedup p c = v.serve p c e ep := by
  simp only [State.afterDedup, hep, State.translate, hmap, href]

theorem request_read {p : Packet} (hin : s.ingress p = (u, some c)) (read : writeClass p.opcode = false) :
    s.request p = u.afterDedup p c := by
  simp only [State.request, hin, read, Bool.false_eq_true, if_false]

theorem request_write {p : Packet} (hin : s.ingress p = (u, some c)) (write : writeClass p.opcode = true)
    (fresh : u.dedup p c = none) : s.request p = (u.openPair p.hdr.src c).afterDedup p c := by
  simp only [State.request, hin, write, if_true, fresh]

theorem request_duplicate {p : Packet} (hin : s.ingress p = (u, some c)) (write : writeClass p.opcode = true)
    (seen : u.dedup p c = some v) : s.request p = v := by
  simp only [State.request, hin, write, if_true, seen]

/-- A STORE that has been applied is answered again. -/
theorem dedup_applied {q : Pair} (hq : u.pair h.src c = some q)
    (applied : 2 ^ 31 ≤ seqDist h.seq q.low ∨ (q.applied.contains h.seq = true ∧ seqDist h.seq q.low < 4096)) :
    u.dedup { opcode := 0x02, hdr := h, data := d } c = some ((u.bumpComp c Reg.TX_CNT_DUPLICATES).respond 0x02 h St.OK []) := by
  have inWindow : ¬(4096 ≤ seqDist h.seq q.low ∧ seqDist h.seq q.low < 2 ^ 31) := by omega
  have seen : 2 ^ 31 ≤ seqDist h.seq q.low ∨ q.applied.contains h.seq = true := applied.imp_right And.left
  simp only [State.dedup, hq, if_neg inWindow, if_pos seen, if_true]

/-- Settles O40: `State.request` after its checks, by the class of the request. -/
theorem poolRequestsComplete : Obligations.PoolRequestsComplete := by
  refine ⟨fun s u h c e ep hin hep hmap href => ?_, fun s u v h d c e ep op i hi hin fresh hv hep hmap href => ?_,
    fun s u h d c q hin hq applied => ?_⟩
  · exact congrArg Host.Outcome.next ((request_read hin rfl).trans (afterDedup_serves hep hmap href))
  · subst hv
    have write : writeClass op = true := by
      simp only [List.mem_cons, Prod.mk.injEq, List.not_mem_nil, or_false] at hi
      rcases hi with hi | hi | hi | hi | hi | hi | hi | hi | hi | hi | hi <;> rw [hi.1] <;> rfl
    have runs : exec i s = .next (s.request { opcode := op, hdr := h, data := d }) := by
      simp only [List.mem_cons, Prod.mk.injEq, List.not_mem_nil, or_false] at hi
      rcases hi with hi | hi | hi | hi | hi | hi | hi | hi | hi | hi | hi <;> (obtain ⟨rfl, rfl⟩ := hi; rfl)
    exact runs.trans (congrArg _ ((request_write hin write fresh).trans (afterDedup_serves hep hmap href)))
  · exact congrArg Host.Outcome.next (request_duplicate hin rfl (dedup_applied hq applied))

/-! ### FENCEs, responses, forwarding and retries -/

theorem ingress_runs {p : Packet} {l : LPort} (hl : s.links.look p.hdr.lport = some l) (runs : s.portRuns p.hdr.lport = true) :
    s.ingress p = ((s.mirror p.hdr.lport false p).takeIngress p).checkRequest l p := by
  simp [State.ingress, hl, runs]

/-- A well-formed request of a peer for another node goes on by its route. -/
theorem checkRequest_forwards {p : Packet} {l : LPort} (role : l.role = .peer) (crc : p.hdr.crc = p.hdr.goodCrc p.opcode)
    (assigned : u.topo.assigned = true) (format : u.formatOk l p.opcode p.hdr p.data = true)
    (bound : u.bindingOf l p.hdr = some c) (retry : p.hdr.retry = false) (away : p.hdr.dst ≠ u.topo.node) :
    u.checkRequest l p = (u.route p none, none) := by
  simp [State.checkRequest, State.admitRequest, role, crc, assigned, format, bound, retry, away]

theorem responseReceive_passes {p : Packet} {l : LPort} (hl : s.links.look p.hdr.lport = some l)
    (runs : s.portRuns p.hdr.lport = true) (hu : u = (s.mirror p.hdr.lport false p).takeIngress p)
    (role : l.role = .accel ∨ l.role = .peer) (crc : p.hdr.crc = p.hdr.goodCrc p.opcode) (assigned : u.topo.assigned = true)
    (defined : responseDefined p.opcode = true) (resv : p.hdr.resv = 0) (release : p.hdr.release = false)
    (bound : (u.bindingOf l p.hdr).isSome = true) :
    (p.hdr.dst ≠ u.topo.node → exec (.gfpResponseReceive p) s = .next (u.route p none))
    ∧ (∀ o, p.hdr.dst = u.topo.node → u.tx.own.look p.hdr.tag = some o → o.pkt.hdr.dst = p.hdr.src →
        o.pkt.opcode + 0x80 = p.opcode → o.purpose = 1 →
        exec (.gfpResponseReceive p) s = .next (u.modTx fun x => { x with own := x.own.del p.hdr.tag })) := by
  have notAnalysis : l.role ≠ .analysis := by rcases role with r | r <;> simp [r]
  have notTray : l.role ≠ .tray := by rcases role with r | r <;> simp [r]
  have isBound : (u.bindingOf l p.hdr).isNone = false := by simpa [Option.isSome_iff_ne_none] using bound
  constructor
  · intro away
    change execGfpResponseReceive p s = _
    simp [execGfpResponseReceive, hl, runs, ← hu, notAnalysis, notTray, crc, assigned, defined, resv, release, isBound, away]
  · intro o here ho dst opcode purpose
    change execGfpResponseReceive p s = _
    simp [execGfpResponseReceive, hl, runs, ← hu, notAnalysis, notTray, crc, assigned, defined, resv, release, isBound, here,
      ho, dst, opcode, purpose, State.closeOwn]

/-- Settles O43: each command of the transaction layer on the way its hypotheses name. -/
theorem fencesAndResponsesComplete : Obligations.FencesAndResponsesComplete := by
  refine ⟨fun s u h d c l hin hl accel => ?_, fun s p c us k m hk few bound hus => ?_, fun s p tag f hf done => ?_,
    fun s t p tag f left hf ht hleft late => ?_,
    fun s u p l hl runs hu role crc assigned defined resv release bound =>
      responseReceive_passes hl runs hu role crc assigned defined resv release bound,
    fun s u p l c hl runs hu role crc assigned format bound retry away away' request => ?_,
    fun s tag o k ho purpose tries hk => ?_, fun s src c q k v hk hv => ?_⟩
  · change execFence h d s = _
    simp [execFence, hin, hl, accel]
  · subst hus
    change execFenceDequeue p s = _
    simp [execFenceDequeue, hk, Nat.not_le.mpr few, bound]
  · change execFenceComplete p tag s = _
    simp [execFenceComplete, hf, done, State.endFence]
  · subst ht hleft
    change execFenceDeadline p tag s = _
    simp only [execFenceDeadline, hf, List.isEmpty_iff, late, if_false]
    rfl
  · subst hu
    change execPacketForward p s = _
    have passes : ¬(p.hdr.dst = s.topo.node ∨ 0x80 ≤ p.opcode) := by omega
    rw [execPacketForward, if_neg passes, ingress_runs hl runs,
      checkRequest_forwards role crc assigned format bound retry away']
  · subst hk
    change execResponseTimeout tag s = _
    simp only [execResponseTimeout, ho, if_neg purpose, if_pos tries]
  · change execAtomicHoldExpiry src c q s = _
    simp only [execAtomicHoldExpiry, hk, Option.bind_some, hv]

end Sys2Proof.Machine

end

section
/-! OP_SUBMIT's admission, and what ends an accepted operation (R24, R52, R111, R113, R351). -/

namespace Sys2Proof.Machine

variable {s u v : State} {h : Hdr} {d : List Byte} {c o : Nat} {k : OpKind}

/-! ### Admission -/

/-- An operation that passes its checks and need not wait is admitted at once. -/
theorem submit_admits (hin : s.ingress { opcode := 0x30, hdr := h, data := d } = (u, some c))
    (fresh : u.opOpen h.src (opId d) = false) (epoch : (u.epochFor c h.epoch).isSome = true) (crc : descCrcOk d 256 = true)
    (common : commonOk k.code d = true) (body : u.opBodyBad k d = none) (ranges : u.opRangesBad c k h d = none)
    (free : u.opWaitsFor c k h d = none) :
    s.submit k h d = (u.modWork (fun w => { w with ops := w.ops.put u.work.nextOp (newOp k c h d), nextOp := u.work.nextOp + 1
      })).admitOp u.work.nextOp := by
  have known : (u.epochFor c h.epoch).isNone = false := by simpa [Option.isSome_iff_ne_none] using epoch
  simp only [State.submit, hin, fresh, known, crc, common, body, ranges, free, Bool.not_true, Bool.false_eq_true, if_false]

/-- A descriptor whose DESC_CRC fails is answered, and nothing starts. -/
theorem submit_badCrc (hin : s.ingress { opcode := 0x30, hdr := h, data := d } = (u, some c))
    (fresh : u.opOpen h.src (opId d) = false) (epoch : (u.epochFor c h.epoch).isSome = true) (crc : descCrcOk d 256 = false) :
    s.submit k h d = (u.bumpComp c Reg.CCNT_DESC_CRC).opFails h d St.DESC_CRC := by
  have known : (u.epochFor c h.epoch).isNone = false := by simpa [Option.isSome_iff_ne_none] using epoch
  simp only [State.submit, hin, fresh, known, crc, Bool.not_false, Bool.false_eq_true, if_false, if_true]

theorem keeps_drawn (s : State) : Keeps s s.drawn := by constructor <;> rfl

theorem keeps_opResult (h : Hdr) (id st flags result detail off : Nat) (d : List Byte) (s : State) :
    Keeps s (s.opResult h id st flags result detail off d) := by
  have packet (t : State) (off : Nat) : Keeps t (t.opPacket h id st flags result detail off d) := keeps_respond ..
  unfold State.opResult
  split
  · exact (keeps_drawn s).trans (packet ..)
  · exact packet ..

theorem keeps_opFails (h : Hdr) (d : List Byte) (st : Nat) (s : State) : Keeps s (s.opFails h d st) := by
  unfold State.opFails State.withOpen
  exact (keeps_drawn s).trans ((keeps_drawn _).trans (keeps_opResult ..))

theorem joins_of_not_reduces (hk : k.reduces = false) : s.joins c k d = none := by simp [State.joins, hk]

theorem opPlan_of_near (hk : k.near = true) : s.opPlan c k d = [] := by
  cases k <;> simp_all [OpKind.near, State.opPlan]

theorem reduces_of_near (hk : k.near = true) : k.reduces = false := by
  cases k <;> simp_all [OpKind.near, OpKind.reduces]

theorem near_of_reduces (hk : k.reduces = true) : k.near = false := by
  cases k <;> simp_all [OpKind.near, OpKind.reduces]

section Admit
variable (ho : v.work.ops.look o = some (newOp k c h d))
include ho

theorem admitOp_near (hk : k.near = true) : v.admitOp o = v.acceptOp o := by
  simp [State.admitOp, ho, newOp, joins_of_not_reduces (reduces_of_near hk), opPlan_of_near hk, hk]

theorem admitOp_presses (near : k.near = false) (hk : k.reduces = false) (few : (v.opPlan c k d).length ≤ 1048576)
    (quota : (v.opPlan c k d).length ≤ v.field Reg.SEED_COMP_QUOTA 21 0)
    (share : ((v.comp c).any fun y => y.pressMask == 0) = false) (press : (v.choosePress c).isSome = true) :
    v.admitOp o = v.acceptOp o := by
  have chosen : (v.choosePress c).isNone = false := by simpa [Option.isSome_iff_ne_none] using press
  simp only [State.admitOp, ho, newOp, joins_of_not_reduces hk, near, hk, Nat.not_lt.mpr few, Nat.not_lt.mpr quota, share, chosen,
    Bool.false_eq_true, if_false]

theorem admitOp_reduces {g : Nat × Group} (hk : k.reduces = true) (opens : v.joins c k d = none)
    (few : (v.opPlan c k d).length ≤ 1048576) (quota : (v.opPlan c k d).length ≤ v.field Reg.SEED_COMP_QUOTA 21 0)
    (share : ((v.comp c).any fun y => y.pressMask == 0) = false) (hg : v.groupFor c (redGroup d) = some g)
    (online : ((v.presses.look g.2.press).any fun q => decide (q.state = .offline)) = false) :
    v.admitOp o = v.acceptOp o := by
  simp only [State.admitOp, ho, newOp, opens, near_of_reduces hk, hk, Nat.not_lt.mpr few, Nat.not_lt.mpr quota, share, hg, online,
    Bool.false_eq_true, if_false, if_true, Option.map_some]

theorem admitOp_joins {j : Nat} (opened : v.joins c k d = some j) :
    v.admitOp o = ((v.takeStep c h.src).2.2.modWork fun w => { w with ops := w.ops.del o }).redJoin j h d
      (v.takeStep c h.src).1 (v.takeStep c h.src).2.1 := by
  simp only [State.admitOp, ho, newOp, opened]

end Admit

/-- The command of each kind of operation is its submission. -/
theorem exec_submit {i : Instr} (hi : (k, i) ∈ [(OpKind.fill, Instr.fill h d), (.copy, .copy h d), (.compare, .compare h d),
      (.nmReduce, .nmReduce h d), (.allReduce, .allReduce h d), (.reduceScatter, .reduceScatter h d),
      (.reduceToMem, .reduceToMem h d), (.gather, .gather h d), (.scatter, .scatter h d),
      (.filterPredicate, .filterPredicate h d), (.filterThreshold, .filterThreshold h d), (.filterTopk, .filterTopk h d),
      (.filterBlockSelect, .filterBlockSelect h d), (.attend, .attend h d), (.encode, .encode h d)]) :
    exec i s = .next (s.submit k h d) := by
  simp only [List.mem_cons, Prod.mk.injEq, List.not_mem_nil, or_false] at hi
  rcases hi with hi | hi | hi | hi | hi | hi | hi | hi | hi | hi | hi | hi | hi | hi | hi <;> (obtain ⟨rfl, rfl⟩ := hi; rfl)

/-- Settles O45: the submission reaches `State.admitOp`, whose outcome follows the kind. -/
theorem operationsAreAccepted : Obligations.OperationsAreAccepted := by
  refine ⟨fun s u v h d c o k i hi hin fresh epoch crc common body ranges free ho hv => ?_,
    fun s u h d c hin fresh epoch crc => ?_⟩
  · subst ho
    have runs : exec i s = .next (v.admitOp u.work.nextOp) := by
      rw [hv, exec_submit hi, submit_admits hin fresh epoch crc common body ranges free]
    have look : v.work.ops.look u.work.nextOp = some (newOp k c h d) := by rw [hv]; exact NMap.look_put ..
    refine ⟨fun near => ?_, fun near reduces few quota share press => ?_, fun g reduces opens few quota share hg online => ?_,
      fun j _ opened => ?_⟩
    · rw [runs, admitOp_near look near]
    · rw [runs, admitOp_presses look near reduces few quota share press]
    · rw [runs, admitOp_reduces look reduces opens few quota share hg online]
    · rw [runs, admitOp_joins look opened]
  · have kept : Keeps s ((u.bumpComp c Reg.CCNT_DESC_CRC).opFails h d St.DESC_CRC) := by
      have taken := keeps_ingress { opcode := 0x30, hdr := h, data := d } s
      rw [hin] at taken
      exact taken.trans ((keeps_bumpComp ..).trans (keeps_opFails ..))
    exact ⟨_, congrArg Host.Outcome.next (submit_badCrc hin fresh epoch crc), rfl, kept.work, kept.pool⟩

/-! ### Timeouts, deadlines and records -/

section Timeout
variable {n : Nat} {x : Op} (hx : s.work.ops.look o = some x) (running : x.phase = .running) (hn : x.timeoutAt = some n)
include hx running hn

theorem opTimeout_near (hk : x.kind.near = true) : exec (.opTimeout o) s = .next
    ((s.advanceTo n).finishOp o St.OP_TIMEOUT x.result (s.nmLowest x) [] 0) := by
  change execOpTimeout o s = _
  cases kind : x.kind <;> simp_all [execOpTimeout, OpKind.near]

theorem opTimeout_attend (hk : x.kind = .attend) : exec (.opTimeout o) s = .next
    (((s.advanceTo n).bumpComp x.comp Reg.ACNT_OP_TIMEOUT).withOpen fun r s =>
      s.finishOp o St.OP_TIMEOUT r (atHeads x.desc - x.todo.length - x.withheld.length) [] 0) := by
  change execOpTimeout o s = _
  simp [execOpTimeout, hx, running, hn, hk]

theorem opTimeout_reduces {low : Nat} {rest : List Nat} (hk : x.kind.reduces = true) (missing : redMissing x = low :: rest) :
    exec (.opTimeout o) s = .next
      (((s.advanceTo n).bumpComp x.comp Reg.CCNT_OP_TIMEOUT).redAbort o St.OP_TIMEOUT (some low) (some (rest.length + 1))) := by
  change execOpTimeout o s = _
  cases kind : x.kind <;> simp_all [execOpTimeout, OpKind.reduces]

theorem opTimeout_other (near : x.kind.near = false) (reduces : x.kind.reduces = false) (attend : x.kind ≠ .attend) :
    exec (.opTimeout o) s = .next ((s.advanceTo n).withOpen fun r s => s.failOp o St.OP_TIMEOUT r) := by
  change execOpTimeout o s = _
  cases kind : x.kind <;> simp_all [execOpTimeout, OpKind.near, OpKind.reduces]

end Timeout

/-- Settles O48: each event of an operation on the way its hypotheses name. -/
theorem operationEventsComplete : Obligations.OperationEventsComplete := by
  refine ⟨fun s o x hx waiting ranges free => ?_,
    fun s o n x hx running hn => ⟨opTimeout_near hx running hn, opTimeout_attend hx running hn,
      fun low rest => opTimeout_reduces hx running hn, opTimeout_other hx running hn⟩,
    fun s t i f q hi hq stalled items open_ ht => ?_, fun s t o f x hx stalled running left kind ht => ?_,
    fun s o j x y hx ledger owned hj hy copy => ?_⟩
  · change execOpSubmitDequeue o s = _
    simp [execOpSubmitDequeue, hx, waiting, ranges, free]
  · subst ht
    change execStepDeadlineExpiry i s = _
    rw [execStepDeadlineExpiry, if_neg (Nat.not_le.mpr hi), State.stepDeadline]
    simp [hq, stalled, items, open_]
  · subst ht
    change execStepDeadlineExpiry (o + 2 ^ 32) s = _
    rcases kind with kind | kind <;>
      simp [execStepDeadlineExpiry, State.opDeadline, hx, stalled, running, left, kind]
  · change execLedgerWriteApplied o false s = _
    simp [execLedgerWriteApplied, hx, ledger, owned, hj, hy, copy]

end Sys2Proof.Machine

end

section
/-! Seeds, chains and contexts of the presses (R93 to R109, R168, R172, R173, R337 to R341). -/

namespace Sys2Proof.Machine

variable {s : State}

/-! ### Seeds -/

theorem seedActivate_activates {n c i : Nat} {p : Press} {z : Seed} (hp : s.presses.look n = some p) (lit : p.state = .lit)
    (ctx : p.ctx = some c) (mine : (s.pressSeeds n fun z => z.comp == c && !z.state.ended) ≠ []) (few : s.activeOn n < 4096)
    (first : s.oldest ((s.pressSeeds n fun z => z.comp == c && !z.state.ended).filter fun q => s.seedEligible q.2)
      = some (i, z)) :
    exec (.seedActivate n) s = .next ((s.modSeed i fun z => { z with
      state := .active, activateNs := if z.activateNs = 0 then s.clk.timeNs else z.activateNs }).askNext i) := by
  change execSeedActivate n s = _
  have more : (s.pressSeeds n fun z => z.comp == c && !z.state.ended).isEmpty = false := by
    simpa [List.isEmpty_eq_false_iff] using mine
  simp only [execSeedActivate, hp, lit, ne_eq, not_true, if_false, ctx, Option.bind_some, more, Bool.false_eq_true, false_and,
    Nat.not_le.mpr few, first]

section Drill
variable {i : Nat} {z : Seed} {r : LeafRef} {o : Op} {x : Extent} {p : Press} (hz : s.work.seeds.look i = some z)
  (hr : z.leaves[z.fetched]? = some r) (ho : s.opOf z = some o) (hx : s.extent r.extent = some x)
  (hp : s.presses.look z.press = some p) (lit : p.state = .lit) (active : z.state = .active) (fetch : z.refetch = none)
  (lane : s.hasLane i z = true) (vq : x.vq = false)
include hz hr ho hx hp lit active fetch lane vq

theorem drillLeafArrive_lands (clean : x.leafPoisoned r.leaf = false) (ready : s.leafReady o.alt r.extent r.leaf false = true)
    (unforced : s.ft.forcedUe = []) :
    exec (.drillLeafArrive i .ok) s = .next (((s.touch r.extent r.leaf).leafIn i false).arrived r.extent r.leaf) := by
  have one : s.refLeaves z r = [r.leaf] := by cases kind : z.kind <;> simp [State.refLeaves, hx, vq, kind]
  have unforced' : (s.touch r.extent r.leaf).ft.forcedUe = [] := unforced
  change execDrillLeafArrive i .ok s = _
  simp [execDrillLeafArrive, hz, hr, ho, hx, hp, lit, active, fetch, lane, vq, clean, one, ready, unforced']

theorem drillLeafArrive_marks {a : Answer} (bad : x.leafPoisoned r.leaf = true) :
    exec (.drillLeafArrive i a) s = .next (s.leafIn i true) := by
  change execDrillLeafArrive i a s = _
  simp [execDrillLeafArrive, hz, hr, ho, hx, hp, lit, active, fetch, lane, vq, bad]

end Drill

/-- Settles O50: each event of a seed on the way its hypotheses name. -/
theorem seedsComplete : Obligations.SeedsComplete := by
  refine ⟨fun s n c i p z hp lit ctx mine few first => seedActivate_activates hp lit ctx mine few first,
    fun s n o k done => ?_,
    fun s t i z r o x p hz hr ho hx hp lit active fetch lane vq clean ready unforced ht => ht ▸
      drillLeafArrive_lands hz hr ho hx hp lit active fetch lane vq clean ready unforced,
    fun s i z r o x p a hz hr ho hx hp lit active fetch lane vq bad =>
      drillLeafArrive_marks hz hr ho hx hp lit active fetch lane vq bad,
    fun s i k z r x copy b hz fetch hr hx hb => ⟨fun good => ?_, fun bad => ?_⟩,
    fun s i z p x hz hp lit hx reduces active clean worked => ?_, fun s i h j z hz active poisoned kind => ?_⟩
  · exact congrArg Host.Outcome.next (if_pos done)
  · subst hb
    change execBlockRefetchDone i copy s = _
    simp only [execBlockRefetchDone, hz, fetch, hr, hx, good]
  · subst hb
    obtain ⟨f, hf⟩ := Option.ne_none_iff_exists'.mp bad
    change execBlockRefetchDone i copy s = _
    simp only [execBlockRefetchDone, hz, fetch, hr, hx, hf]
  · change execSeedDone i s = _
    simp [execSeedDone, hz, hp, lit, hx, reduces, active, clean, worked]
  · change execSeedFailed i s = _
    simp [execSeedFailed, hz, active, poisoned, kind]

/-! ### Chains and verdicts -/

/-- Settles O51: each event of a chain on the way its hypotheses name. -/
theorem chainsComplete : Obligations.ChainsComplete := by
  refine ⟨fun s n cb p hp lit absent wanted book => ?_,
    fun s n i e m p z mine hp lit expired hmine first oldest engine hm => ?_,
    fun s t n e p c hp hc ht => ⟨fun unforced => ?_, ?_⟩,
    fun s n e p c hp hc real => ⟨fun other => ⟨?_, ?_, ?_⟩, fun alone => ?_⟩,
    fun s n h j m p c rest z hp chains going verdicts hz fetched clean fetch books kind hm => ?_⟩
  · change execCodebookLoadDone n cb s = _
    have known : (s.codebook (s.ctxOf n) cb).isNone = false := by simpa [Option.isSome_iff_ne_none] using book
    simp only [execCodebookLoadDone, hp, lit, absent, wanted, known]
    simp
  · subst hm hmine
    change execChainStart n s = _
    simp only [execChainStart, hp, lit, expired, first, List.isEmpty_nil, if_true, oldest, engine, ne_eq, not_true,
      Bool.false_eq_true, or_self, if_false]
  · subst ht
    change execVerdictReady n e true s = _
    simp only [execVerdictReady, hp, hc, unforced, Bool.not_false, and_self, if_true]
  · subst ht
    change execVerdictReady n e false s = _
    simp only [execVerdictReady, hp, hc, Bool.false_and, Bool.false_eq_true, false_and, if_false]
  · change execTieBreakDone n e .checker s = _
    simp [execTieBreakDone, hp, hc, real, other]
  · change execTieBreakDone n e .engine s = _
    simp [execTieBreakDone, hp, hc, real, other]
  · change execTieBreakDone n e .neither s = _
    simp [execTieBreakDone, hp, hc, real, other]
  · change execTieBreakDone n e .noEngine s = _
    simp [execTieBreakDone, hp, hc, real, alone]
  · subst hm
    change execChainCommit n c.engine s = _
    simp [execChainCommit, hp, chains, going, verdicts, hz, fetched, clean, fetch, books, kind]

/-! ### Contexts, scrub and fallow -/

/-- Settles O53: each event of a press's context on the way its hypotheses name. -/
theorem contextsAndFallowComplete : Obligations.ContextsAndFallowComplete := by
  refine ⟨fun s n c d p hp lit ctx expired next => ?_, fun s n p hp lit expired => ?_, fun s n c p hp switching next => ?_,
    fun s n p hp idle => ⟨fun lit => ?_, fun scrubbing => ?_⟩, fun s n p hp waking => ?_⟩
  · change execQuantumExpiry n s = _
    simp [execQuantumExpiry, hp, lit, ctx, expired, next]
  · change execSwitchWindowExpiry n s = _
    simp [execSwitchWindowExpiry, hp, lit, expired]
  · change execContextScrubDone n s = _
    simp [execContextScrubDone, hp, switching, next]
  · change execPressIdleTimeout n s = _
    simp [execPressIdleTimeout, hp, lit, idle]
  · have idle' : (s.modPress n fun p => { p with state := .fallow }).pressSeeds n (fun z => !z.state.ended) = [] := idle
    change execPressFallowDone n s = _
    simp [execPressFallowDone, hp, scrubbing, idle']
  · change execPressWakeDone n s = _
    simp [execPressWakeDone, hp, waking]

end Sys2Proof.Machine

end

section
/-! Parity errors, sweeps and resets of the presses (R90, R342 to R348), and the events of the flash trays (R65 to R80). -/

namespace Sys2Proof.Machine

variable {s : State}

/-! ### Parity errors, sweeps and resets -/

section Parity
variable {n port slot : Nat} {p : Press} (hp : s.presses.look n = some p) (lit : p.state = .lit)
  (inUse : p.retired.contains slot = false) (hslot : slot < 1536) (lo : 1 ≤ port) (hi : port ≤ 11)
include hp lit inUse hslot lo hi

theorem scratchpadParityError_once : exec (.scratchpadParityError n port slot false) s = .next
    (((s.bumpComp (s.ctxOf n) Reg.PCNT_SP_PARITY).bumpPress n Reg.PRESS_SP_PARITY).bump Reg.FT_CNT_PARITY_REPLAY) := by
  have counts : ¬(p.state ≠ .lit ∨ p.retired.contains slot = true ∨ 1536 ≤ slot ∨ port = 0 ∨ 11 < port) := by
    rw [lit, inUse]; simp; omega
  change execScratchpadParityError n port slot false s = _
  simp only [execScratchpadParityError, hp, if_neg counts, Bool.not_false, if_true]

theorem scratchpadParityError_again {c : Chain} (chain : (p.chains.find? fun c => decide (2 ≤ port) && c.engine == port - 2
      && !c.stopped) = some c) (few : p.retired.length < 64) :
    exec (.scratchpadParityError n port slot true) s = .next
      (((((((s.bumpComp (s.ctxOf n) Reg.PCNT_SP_PARITY).bumpPress n Reg.PRESS_SP_PARITY).bump Reg.FT_CNT_PARITY_REPLAY).bump
        Reg.FT_CNT_PARITY_HARD)).modPress n fun p => { p with retired := insertAsc slot p.retired }).replayChain n c false) := by
  have counts : ¬(p.state ≠ .lit ∨ p.retired.contains slot = true ∨ 1536 ≤ slot ∨ port = 0 ∨ 11 < port) := by
    rw [lit, inUse]; simp; omega
  have room : ¬64 < p.retired.length + 1 := by omega
  change execScratchpadParityError n port slot true s = _
  simp only [execScratchpadParityError, hp, if_neg counts, chain, if_neg room, Bool.not_true, Bool.false_eq_true, if_false]

end Parity

/-- A new sweep period makes every unfenced engine owe a sweep. -/
theorem sweepPeriodStart_owes (s : State) : ∃ t, exec .sweepPeriodStart s = .next t
    ∧ t.ft.periodNs = (s.advanceTo (s.ft.periodNs + 1000000000 * s.field Reg.FT_SWEEP_CFG 15 0)).clk.timeNs
    ∧ ∀ n p, t.presses.look n = some p → p.sweepDue = ~~~p.fenced := by
  refine ⟨_, rfl, rfl, fun n p hp => ?_⟩
  dsimp only at hp
  obtain ⟨q, -, rfl⟩ := Option.map_eq_some_iff.mp ((NMap.look_each _ _ n).symm.trans hp)
  rfl

section Sweep
variable {n e : Nat} {p : Press} (hp : s.presses.look n = some p) (lit : p.state = .lit) (running : p.fenced.getLsbD e = false)
  (must : p.mustSweep.getLsbD e = false) (due : p.sweepDue.getLsbD e = true)
  (free : (p.chains.any fun c => c.engine == e && !c.stopped) = false)
include hp lit running must due free

theorem sweepPassDone_ends : exec (.sweepPassDone n e true) s = .next (s.sweepPass n e)
    ∧ exec (.sweepPassDone n e false) s = .next ((s.bump Reg.FT_CNT_SWEEP_FAIL).fence n e) := by
  constructor
  · change execSweepPassDone n e true s = _
    simp only [execSweepPassDone, hp, lit, running, must, due, free]
    simp
  · change execSweepPassDone n e false s = _
    simp only [execSweepPassDone, hp, lit, running, must, due, free]
    simp

end Sweep

/-- A press whose engines all pass their sweep is lit again, and each PRESS_RESET that waited is answered. -/
theorem pressResetDone_lights {t u : State} {n : Nat} {p : Press} (hp : s.presses.look n = some p)
    (resetting : p.state = .resetting) (ht : t = (List.range 5).foldl (fun s e => s.sweepPass n e) s)
    (hu : u = t.modPress n (fun q => { q with retired := [], resetter := [], quantumNs := t.clk.timeNs }))
    (runs : (u.presses.look n).any Press.canRun = true) :
    exec (.pressResetDone n true 0) s = .next
      (p.resetter.foldl (fun s r => s.reply { session := r.1, seq := r.2, badItem := none } 0xF003 St.OK [])
        ((u.sizePools n).modPress n fun q => { q with state := .lit })) := by
  have swept : (List.range 5).foldl (fun (s : State) e =>
      if (0 : BitVec 5).getLsbD e then (s.bump Reg.FT_CNT_SWEEP_FAIL).setFence n e else s.sweepPass n e) s = t := by
    have passed (e : Nat) : (0 : BitVec 5).getLsbD e = false := BitVec.getLsbD_zero
    rw [ht]
    simp only [passed, Bool.false_eq_true, if_false]
  change execPressResetDone n true 0 s = _
  simp only [execPressResetDone, hp, resetting, swept, ← hu, runs, ne_eq, not_true, if_false, and_self, if_true]

/-- Settles O54: each event of a press's checks on the way its hypotheses name. -/
theorem sweepsAndResetsComplete : Obligations.SweepsAndResetsComplete := by
  refine ⟨fun s n port slot p hp lit inUse hslot lo hi => scratchpadParityError_once hp lit inUse hslot lo hi,
    fun s t n port slot p c hp lit inUse hslot lo hi chain few ht => ht ▸
      scratchpadParityError_again hp lit inUse hslot (by omega) hi chain few,
    sweepPeriodStart_owes,
    fun s n e p hp lit running must due free => sweepPassDone_ends hp lit running must due free,
    fun s t c n p hs hp ready => nirod_waits hs ?_,
    fun s t u n p hp resetting ht hu runs => pressResetDone_lights hp resetting ht hu runs,
    fun s t c n e p hs hp he => ⟨nirod_answers hs ?_, nirod_answers hs ?_⟩⟩
  · simp only [hp, if_neg ready, wait]
  · simp only [hp, if_neg (Nat.not_le.mpr he), if_true, ok]
  · simp only [hp, if_neg (Nat.not_le.mpr he), Bool.false_eq_true, if_false, ok]

/-! ### Flash trays -/

/-- Two changes of a tray that agree on its record agree. -/
theorem modTray_congr {n : Nat} {f g : Tray → Tray} (h : f (s.tray n) = g (s.tray n)) : s.modTray n f = s.modTray n g := by
  unfold State.tray at h
  simp only [State.modTray, h]

theorem modTray_ofSheaf (n sh : Nat) (f : Tray → Tray) (s : State) : (s.modTray n f).ofSheaf sh = s.ofSheaf sh := by
  have pool : (s.modTray n f).pool = s.pool := by unfold State.modTray; split <;> rfl
  simp only [State.ofSheaf, pool]

theorem trayAttach_attaches {n lp : Nat} {g : Geometry} (port : (s.links.findKey fun _ l => decide (l.role = .tray)
      && l.trayIndex == n && (decide (l.st = .up) || decide (l.st = .fallow))) = some lp) (hn : n < 24)
    (absent : (s.tray n).state = .absent) (good : geometryOk g = true) (bad : g.factoryBad = 0) (fresh : (s.tray n).sbs = []) :
    exec (.trayAttach n g) s = .next (((((s.emit (.bridge n 6 [])).modTray n (fun r => { r with
      state := .normal, lport := some lp, geom := g, goodSb := g.goodSb, reserve := g.goodSb - 119212, freeSb := g.goodSb - 2,
      ratedCycles := g.ratedCycles, spares := (List.range 64).map fun d => (d, g.sparePerDie), ckptNs := s.clk.timeNs,
      sinceCkpt := 0, cnt := [] })).checkReserve n).reissue n).settle) := by
  have fresh' : ((s.emit (.bridge n 6 [])).tray n).sbs = [] := fresh
  change execTrayAttach n g s = _
  simp only [execTrayAttach, port, Nat.not_le.mpr hn, absent, ne_eq, not_true, if_false, good, bad, if_true]
  refine congrArg (fun t : State => Host.Outcome.next ((t.checkReserve n).reissue n).settle) (modTray_congr ?_)
  simp only [fresh']
  rfl

theorem pageReadResult_lands {n sh e c h : Nat} {x : Extent} {k : Chunk} (sheaf : s.ofSheaf sh = some (e, c, h, false))
    (hx : s.extent e = some x) (hk : x.chunk c = some k) (tray : k.tray = n) :
    exec (.pageReadResult n sh []) s = .next (((List.range 32).filter fun i => !((s.countRead sh).tray n).leafOnLadder sh i).foldl
      (fun s i => s.leafRead sh i) (s.countRead sh)) := by
  change execPageReadResult n sh [] s = _
  simp [execPageReadResult, sheaf, hx, hk, tray]

/-- Settles O56: each event of a tray on the way its hypotheses name. -/
theorem flashEventsComplete : Obligations.FlashEventsComplete := by
  refine ⟨fun s t n lp g port hn absent good bad fresh ht => ht ▸ trayAttach_attaches port hn absent good bad fresh,
    fun s n sh e c h x k sheaf hx hk tray => pageReadResult_lands sheaf hx hk tray,
    fun s n sh p q hq step => ⟨?_, ?_⟩, fun s n sh p q hq step => ⟨?_, ?_⟩,
    fun s t n sh k slot going next => ⟨fun e c h m sheaf => ?_, fun d => ?_⟩,
    fun s t n sh sb slot why k place going next valid tray hsb hslot => ?_,
    fun s t n k moving known empty ht => ?_, fun s t n up state ht => ?_, fun s t n d state ht => ?_,
    fun s n k sh rest valid up => ?_⟩
  · change execRetryStepResult n sh p true s = _
    simp only [execRetryStepResult, hq, Nat.not_le.mpr step, if_false, if_true]
  · change execRetryStepResult n sh p false s = _
    simp only [execRetryStepResult, hq, Nat.not_le.mpr step, Bool.false_eq_true, if_false]
  · change execSoftReadResult n sh p true s = _
    simp only [execSoftReadResult, hq, step, ne_eq, not_true, if_false, if_true]
  · change execSoftReadResult n sh p false s = _
    simp only [execSoftReadResult, hq, step, ne_eq, not_true, Bool.false_eq_true, if_false]
  · have sheaf' : ((t.mapTo n sh k slot).modTray n fun r => { r with
        programming := r.programming.filter fun q => q.1 != sh }).ofSheaf sh = some (e, c, h, m) :=
      (modTray_ofSheaf ..).trans sheaf
    change execPageProgramResult n sh none s = _
    simp only [execPageProgramResult, going, Bool.not_true, Bool.false_eq_true, if_false, next, sheaf']
  · change execPageProgramResult n sh (some d) s = _
    simp only [execPageProgramResult, going, Bool.not_true, Bool.false_eq_true, if_false, next]
  · change execPageRelocateResult n sh none s = _
    simp only [execPageRelocateResult, going, next, valid, tray, hsb, hslot, and_self, if_true]
  · subst ht
    have erases : ¬(((s.tray n).sb k).moving = 0 ∨ 5 ≤ ((s.tray n).sb k).moving
        ∨ (!((s.tray n).sb k).valid.isEmpty) = true) := by
      rw [empty]; simp; omega
    change execBlockEraseResult n k none s = _
    simp only [execBlockEraseResult, if_neg erases]
  · subst ht
    change execCheckpointDue n s = _
    simp only [execCheckpointDue, up, state, Bool.not_true, Bool.false_eq_true, or_self, if_false]
  · subst ht
    change execTempReadPoll n d s = _
    simp only [execTempReadPoll, if_neg state]
  · change execPatrolDue n k s = _
    simp only [execPatrolDue, valid, up, Bool.not_true, Bool.false_eq_true, if_false]

end Sys2Proof.Machine

end
